-- ==== Sys2Proof/Word.lean ====
section
/-! DEFINITION. The words of the link (bytes and two-byte fields), the indices of the part's records
(00_scope, Indices) and the one way the model maps a function over a table of records. -/

namespace Sys2Proof

/-- One byte of a frame (R185). -/
abbrev Byte := BitVec 8

/-- A two-byte field of a frame, little-endian on the link (R185). -/
abbrev Half := BitVec 16

/-- A time, in microseconds since the model's clock stood at 0 (the unit that R125 measures in). -/
abbrev Time := Nat

/-- SC0 to SC14. -/
abbrev ChannelIx := Fin 15
/-- OV0 to OV3. -/
abbrev SlotIx := Fin 4
/-- AS-COI (0), AS-PMI (1), AS-COC (2), numbered as SET_ASSESS numbers them (R37). -/
abbrev AssessorIx := Fin 3
/-- DOOR0 to DOOR3. -/
abbrev DoorIx := Fin 4
/-- ZN0 to ZN3. -/
abbrev ZoneIx := Fin 4
/-- DMP0 to DMP7. -/
abbrev DamperIx := Fin 8
/-- L0 and L1. -/
abbrev LaneIx := Fin 2
/-- MV0 to MV2. -/
abbrev MoverIx := Fin 3
/-- AS0 to AS15. -/
abbrev SourceIx := Fin 16
/-- A0 to A15, then P0 to P31 (R158). -/
abbrev TerminalIx := Fin 48

/-- `f` applied to every record of a table. -/
def tableMap {α β : Type} {n : Nat} (f : α → β) (v : Vector α n) : Vector β n :=
  ⟨⟨v.toList.map f⟩, by simp⟩

@[simp] theorem tableMap_getElem {α β : Type} {n : Nat} (f : α → β) (v : Vector α n) (i : Nat) (h : i < n) :
    (tableMap f v)[i] = f v[i] := by
  simp [tableMap, Vector.getElem_toList]

/-- The table whose entry at `i` is `f i`. -/
def tableOf {α : Type} (n : Nat) (f : Fin n → α) : Vector α n :=
  ⟨⟨(List.finRange n).map f⟩, by simp⟩

@[simp] theorem tableOf_getElem {α : Type} (n : Nat) (f : Fin n → α) (i : Nat) (h : i < n) :
    (tableOf n f)[i] = f ⟨i, h⟩ := by
  simp [tableOf]

end Sys2Proof
end

