-- ==== Sys2Proof/Syntax.lean ====
section
/-! DEFINITION. The commands: one constructor for each row of spec/opcode_table.json, with the operands
that the row's rule gives it. A request carries the fields of its body as the link carries them (R190):
a one-byte field is a Byte, a two-byte field a Half. An event that one block hands another carries what
the rule that hands it says it carries. -/

namespace Sys2Proof.Machine

/-- Where a hardware reset comes from (R178). -/
inductive ResetKind where
  | powerOn | resetPin
  deriving DecidableEq, Repr

/-- The four statuses under which consumers see a channel (R13). -/
inductive Status where
  | usable | held | failed | absent
  deriving DecidableEq, Repr

/-- An assessed level (R25). -/
inductive Level where
  | clear | elevated | high | unknown
  deriving DecidableEq, Repr

/-- The accepted or demanded admission state (R43); `opened` is the manual's OPEN. -/
inductive AdmState where
  | inactive | opened | limit | scrub | seal
  deriving DecidableEq, Repr

/-- The path of a purge (R59). -/
inductive Route where
  | fresh | scrubbed | recirc
  deriving DecidableEq, Repr

/-- The admission picture that ADM hands MOV (R122): the accepted state, whether a breach is active, and
the route of an active purge. -/
structure Picture where
  accepted : AdmState
  breach : Bool
  purge : Option Route
  deriving DecidableEq, Repr

/-- A change of ZON's output that ADM takes as an event (R79, R80). -/
inductive ZonChange where
  | fresh (percent : Nat)
  | breathing (flag : Bool)
  deriving DecidableEq, Repr

/-- A blower group (R71). -/
inductive Group where
  | front | rear
  deriving DecidableEq, Repr

/-- The state of a damper (R92). -/
inductive DamperState where
  | absent | unhomed | idle | waiting | homing | moving | settling | jammed
  deriving DecidableEq, Repr

/-- The state of a lane (R94). -/
inductive LaneState where
  | absent | free | busy | out | lockedOut
  deriving DecidableEq, Repr

/-- DDR's report to ADM (R110): the new state of FRESH, SCRUB or RELIEF with its position, or the new
state of a lane. -/
inductive DriveReport where
  | damper (d : Fin 3) (state : DamperState) (position : Option Nat)
  | lane (l : LaneIx) (state : LaneState)
  deriving DecidableEq, Repr

end Sys2Proof.Machine

namespace Sys2Proof

open Sys2Proof.Machine

/-- The commands of the part: the rows of spec/opcode_table.json. -/
inductive Instr where
  | hardwareReset (kind : ResetKind)
  | initEnd
  | linkByteReceived (byte : Byte) (framingError : Bool)
  | gapTimerExpiry
  | replyEnd
  | heldFrameTaken
  | setState (code : Byte)
  | linkReset
  | linkResetEffect
  | retain (flag : Byte)
  | readIdent
  | readConfig (selector page : Byte)
  | bind (terminal function invert debounce drive : Byte)
  | unbind (terminal : Byte)
  | readBinding (first : Byte)
  | pinChange (t : TerminalIx) (high : Bool)
  | debounceTimerExpiry (t : TerminalIx)
  | sampleArrival (ch : ChannelIx) (raw : BitVec 12)
  | warmUpExpiry (ch : ChannelIx)
  | channelHoldExpiry (ch : ChannelIx)
  | setChannel (channel : Byte) (gain offset low high warmUp hold failsafe : Half) (recovery : Byte)
  | readChannels
  | setOverride (slot channel : Byte) (value : Half)
  | clearOverride (slot : Byte)
  | assessorChannelReport (a : AssessorIx) (status : Status) (value : Int)
  | setAssess (assessor alpha beta n : Byte) (ceiling low high abs h : Half) (p d : Byte)
  | readAssess
  | admLevelReport (a : AssessorIx) (level : Level)
  | oatReport (status : Status) (value : Int)
  | sealReqChange (asserted : Bool)
  | doorChange (door : DoorIx) (isOpen : Bool)
  | zonOutputChange (change : ZonChange)
  | damperStateReport (report : DriveReport)
  | admHoldTimerExpiry
  | purgeTimerExpiry
  | setDirective (code : Byte)
  | setAdmission (limitFraction pressFraction : Byte) (sealHold scrubHold limitHold purgeTime : Half) (breachMin : Byte)
  | readAdmission
  | zoneUpdate (z : ZoneIx)
  | setZone (zone enabled : Byte) (setpoint : Half)
  | setZoneTuning (kp ki : Half) (minBlower : Byte) (co2Low co2High hardLimit : Half) (occupantFresh : Byte) (discharge : Half)
  | setCrew (zone occupancy : Byte)
  | setDefrost (flag : Byte)
  | readZones
  | stepCompletion (d : DamperIx)
  | settleTimerExpiry (d : DamperIx)
  | homeChange (d : DamperIx) (asserted : Bool)
  | laneFltChange (l : LaneIx) (asserted : Bool)
  | laneRecoveryExpiry (l : LaneIx)
  | laneFaultHistoryExpiry (l : LaneIx)
  | setDamper (damper : Byte) (span rate settle : Half) (homeEnd : Byte)
  | move (damper percent cls : Byte)
  | rehome (damper : Byte)
  | laneEnable (lane : Byte)
  | readDampers
  | readQueue
  | moverUpdate (m : MoverIx)
  | tachEdge (m : MoverIx)
  | edgeTimerExpiry (m : MoverIx)
  | stallTimerExpiry (m : MoverIx)
  | restartTimerExpiry (m : MoverIx)
  | cleanRunTimerExpiry (m : MoverIx)
  | groupDemandChange (g : Group) (percent : Nat)
  | admissionReport (picture : Picture)
  | loopUpdate
  | cpdReport (status : Status) (value : Int)
  | pressureLostExpiry
  | fpdReport (status : Status) (value : Int)
  | filterTimerExpiry
  | setMover (mover rampRate : Byte) (stallSpeed stallTime : Half) (minStallDuty : Byte) (restartDelay : Half) (retries : Byte)
  | setPressure (target : Half) (gain breachDuty : Byte) (filterLimit : Half)
  | moverRestart (mover : Byte)
  | readMovers
  | heatDemandChange (percent : Nat)
  | cltReport (status : Status) (value : Int)
  | auxFlameChange (asserted : Bool)
  | valveHoldTimerExpiry
  | ignitionTimerExpiry
  | cooldownTimerExpiry
  | coolantReleaseExpiry
  | demandReleaseExpiry
  | setHeat (coolantMin valveHold : Half) (auxStart release : Byte) (coolantTarget releaseHold ignition cooldown : Half)
  | auxInhibit (flag : Byte)
  | auxClearLock
  | readHeat
  | collect
  | clearSources (mask : Half)
  | assertSources (mask : Half)
  | setLevels (levels : Vector Byte 16)
  | resetNegation
  deriving DecidableEq, Repr

end Sys2Proof
end

