-- ==== Sys2Proof/Decode.lean ====
section
/-! DEFINITION. The words of the link: the requests' KINDs and body lengths (R190), a request read from a
frame's KIND and BODY (R188) and written back, the CRC-16 and the bytes of a frame (R185), and
`decodeTableWord`, which the rows of spec/opcode_table.json give no bits to. -/

namespace Sys2Proof

/-- The low byte of a two-byte field. -/
def Half.lo (h : Half) : Byte := h.setWidth 8

/-- The high byte of a two-byte field. -/
def Half.hi (h : Half) : Byte := (h >>> 8).setWidth 8

/-- The two-byte field of a low and a high byte. -/
def Half.ofBytes (lo hi : Byte) : Half := hi ++ lo

/-- The forty requests of the request table (R190). -/
inductive Req where
  | setState | linkReset | retain | readIdent | readConfig
  | bind | unbind | readBinding | setChannel | readChannels
  | setOverride | clearOverride | setAssess | readAssess | setDirective
  | setAdmission | readAdmission | setZone | setZoneTuning | setCrew
  | setDefrost | readZones | setDamper | move | rehome
  | laneEnable | readDampers | readQueue | setMover | setPressure
  | moverRestart | readMovers | setHeat | auxInhibit | auxClearLock
  | readHeat | setLevels | collect | clear | assertMask
  deriving DecidableEq, Repr

/-- The KIND of a request (R190). -/
def Req.code : Req → Byte
  | .setState => 0x01#8
  | .linkReset => 0x02#8
  | .retain => 0x03#8
  | .readIdent => 0x04#8
  | .readConfig => 0x05#8
  | .bind => 0x08#8
  | .unbind => 0x09#8
  | .readBinding => 0x0A#8
  | .setChannel => 0x10#8
  | .readChannels => 0x11#8
  | .setOverride => 0x12#8
  | .clearOverride => 0x13#8
  | .setAssess => 0x18#8
  | .readAssess => 0x19#8
  | .setDirective => 0x20#8
  | .setAdmission => 0x21#8
  | .readAdmission => 0x22#8
  | .setZone => 0x28#8
  | .setZoneTuning => 0x29#8
  | .setCrew => 0x2A#8
  | .setDefrost => 0x2B#8
  | .readZones => 0x2C#8
  | .setDamper => 0x30#8
  | .move => 0x31#8
  | .rehome => 0x32#8
  | .laneEnable => 0x33#8
  | .readDampers => 0x34#8
  | .readQueue => 0x35#8
  | .setMover => 0x38#8
  | .setPressure => 0x39#8
  | .moverRestart => 0x3A#8
  | .readMovers => 0x3B#8
  | .setHeat => 0x40#8
  | .auxInhibit => 0x41#8
  | .auxClearLock => 0x42#8
  | .readHeat => 0x43#8
  | .setLevels => 0x48#8
  | .collect => 0x49#8
  | .clear => 0x4A#8
  | .assertMask => 0x4B#8

/-- The request of a KIND, where the table has one (R188, R190). -/
def Req.ofCode (kind : Byte) : Option Req :=
  match kind.toNat with
  | 0x01 => some .setState
  | 0x02 => some .linkReset
  | 0x03 => some .retain
  | 0x04 => some .readIdent
  | 0x05 => some .readConfig
  | 0x08 => some .bind
  | 0x09 => some .unbind
  | 0x0A => some .readBinding
  | 0x10 => some .setChannel
  | 0x11 => some .readChannels
  | 0x12 => some .setOverride
  | 0x13 => some .clearOverride
  | 0x18 => some .setAssess
  | 0x19 => some .readAssess
  | 0x20 => some .setDirective
  | 0x21 => some .setAdmission
  | 0x22 => some .readAdmission
  | 0x28 => some .setZone
  | 0x29 => some .setZoneTuning
  | 0x2A => some .setCrew
  | 0x2B => some .setDefrost
  | 0x2C => some .readZones
  | 0x30 => some .setDamper
  | 0x31 => some .move
  | 0x32 => some .rehome
  | 0x33 => some .laneEnable
  | 0x34 => some .readDampers
  | 0x35 => some .readQueue
  | 0x38 => some .setMover
  | 0x39 => some .setPressure
  | 0x3A => some .moverRestart
  | 0x3B => some .readMovers
  | 0x40 => some .setHeat
  | 0x41 => some .auxInhibit
  | 0x42 => some .auxClearLock
  | 0x43 => some .readHeat
  | 0x48 => some .setLevels
  | 0x49 => some .collect
  | 0x4A => some .clear
  | 0x4B => some .assertMask
  | _ => none

/-- The body length of a request in bytes (R190). -/
def Req.bodyLength : Req → Nat
  | .setState => 1
  | .linkReset => 0
  | .retain => 1
  | .readIdent => 0
  | .readConfig => 2
  | .bind => 5
  | .unbind => 1
  | .readBinding => 1
  | .setChannel => 16
  | .readChannels => 0
  | .setOverride => 4
  | .clearOverride => 1
  | .setAssess => 16
  | .readAssess => 0
  | .setDirective => 1
  | .setAdmission => 11
  | .readAdmission => 0
  | .setZone => 4
  | .setZoneTuning => 14
  | .setCrew => 2
  | .setDefrost => 1
  | .readZones => 0
  | .setDamper => 8
  | .move => 3
  | .rehome => 1
  | .laneEnable => 1
  | .readDampers => 0
  | .readQueue => 0
  | .setMover => 10
  | .setPressure => 6
  | .moverRestart => 1
  | .readMovers => 0
  | .setHeat => 14
  | .auxInhibit => 1
  | .auxClearLock => 0
  | .readHeat => 0
  | .setLevels => 16
  | .collect => 0
  | .clear => 2
  | .assertMask => 2

/-- The sixteen levels of a SET_LEVELS body (R174). -/
def levelsOfBody (body : List Byte) : Option Instr :=
  if h : body.length = 16 then some (.setLevels ⟨⟨body⟩, by simpa using h⟩) else none

/-- The request that a body of the right length carries: its fields stand in the order in which the owning
rule lists them, two-byte fields little-endian (R185, R189). -/
def Req.parse (r : Req) (body : List Byte) : Option Instr :=
  match r with
  | .setState => match body with | [b0] => some (.setState b0) | _ => none
  | .linkReset => match body with | [] => some .linkReset | _ => none
  | .retain => match body with | [b0] => some (.retain b0) | _ => none
  | .readIdent => match body with | [] => some .readIdent | _ => none
  | .readConfig => match body with | [b0, b1] => some (.readConfig b0 b1) | _ => none
  | .bind => match body with | [b0, b1, b2, b3, b4] => some (.bind b0 b1 b2 b3 b4) | _ => none
  | .unbind => match body with | [b0] => some (.unbind b0) | _ => none
  | .readBinding => match body with | [b0] => some (.readBinding b0) | _ => none
  | .setChannel => match body with | [b0, l1, h1, l2, h2, l3, h3, l4, h4, l5, h5, l6, h6, l7, h7, b8] => some (.setChannel b0 (Half.ofBytes l1 h1) (Half.ofBytes l2 h2) (Half.ofBytes l3 h3) (Half.ofBytes l4 h4) (Half.ofBytes l5 h5) (Half.ofBytes l6 h6) (Half.ofBytes l7 h7) b8) | _ => none
  | .readChannels => match body with | [] => some .readChannels | _ => none
  | .setOverride => match body with | [b0, b1, l2, h2] => some (.setOverride b0 b1 (Half.ofBytes l2 h2)) | _ => none
  | .clearOverride => match body with | [b0] => some (.clearOverride b0) | _ => none
  | .setAssess => match body with | [b0, b1, b2, b3, l4, h4, l5, h5, l6, h6, l7, h7, l8, h8, b9, b10] => some (.setAssess b0 b1 b2 b3 (Half.ofBytes l4 h4) (Half.ofBytes l5 h5) (Half.ofBytes l6 h6) (Half.ofBytes l7 h7) (Half.ofBytes l8 h8) b9 b10) | _ => none
  | .readAssess => match body with | [] => some .readAssess | _ => none
  | .setDirective => match body with | [b0] => some (.setDirective b0) | _ => none
  | .setAdmission => match body with | [b0, b1, l2, h2, l3, h3, l4, h4, l5, h5, b6] => some (.setAdmission b0 b1 (Half.ofBytes l2 h2) (Half.ofBytes l3 h3) (Half.ofBytes l4 h4) (Half.ofBytes l5 h5) b6) | _ => none
  | .readAdmission => match body with | [] => some .readAdmission | _ => none
  | .setZone => match body with | [b0, b1, l2, h2] => some (.setZone b0 b1 (Half.ofBytes l2 h2)) | _ => none
  | .setZoneTuning => match body with | [l0, h0, l1, h1, b2, l3, h3, l4, h4, l5, h5, b6, l7, h7] => some (.setZoneTuning (Half.ofBytes l0 h0) (Half.ofBytes l1 h1) b2 (Half.ofBytes l3 h3) (Half.ofBytes l4 h4) (Half.ofBytes l5 h5) b6 (Half.ofBytes l7 h7)) | _ => none
  | .setCrew => match body with | [b0, b1] => some (.setCrew b0 b1) | _ => none
  | .setDefrost => match body with | [b0] => some (.setDefrost b0) | _ => none
  | .readZones => match body with | [] => some .readZones | _ => none
  | .setDamper => match body with | [b0, l1, h1, l2, h2, l3, h3, b4] => some (.setDamper b0 (Half.ofBytes l1 h1) (Half.ofBytes l2 h2) (Half.ofBytes l3 h3) b4) | _ => none
  | .move => match body with | [b0, b1, b2] => some (.move b0 b1 b2) | _ => none
  | .rehome => match body with | [b0] => some (.rehome b0) | _ => none
  | .laneEnable => match body with | [b0] => some (.laneEnable b0) | _ => none
  | .readDampers => match body with | [] => some .readDampers | _ => none
  | .readQueue => match body with | [] => some .readQueue | _ => none
  | .setMover => match body with | [b0, b1, l2, h2, l3, h3, b4, l5, h5, b6] => some (.setMover b0 b1 (Half.ofBytes l2 h2) (Half.ofBytes l3 h3) b4 (Half.ofBytes l5 h5) b6) | _ => none
  | .setPressure => match body with | [l0, h0, b1, b2, l3, h3] => some (.setPressure (Half.ofBytes l0 h0) b1 b2 (Half.ofBytes l3 h3)) | _ => none
  | .moverRestart => match body with | [b0] => some (.moverRestart b0) | _ => none
  | .readMovers => match body with | [] => some .readMovers | _ => none
  | .setHeat => match body with | [l0, h0, l1, h1, b2, b3, l4, h4, l5, h5, l6, h6, l7, h7] => some (.setHeat (Half.ofBytes l0 h0) (Half.ofBytes l1 h1) b2 b3 (Half.ofBytes l4 h4) (Half.ofBytes l5 h5) (Half.ofBytes l6 h6) (Half.ofBytes l7 h7)) | _ => none
  | .auxInhibit => match body with | [b0] => some (.auxInhibit b0) | _ => none
  | .auxClearLock => match body with | [] => some .auxClearLock | _ => none
  | .readHeat => match body with | [] => some .readHeat | _ => none
  | .setLevels => levelsOfBody body
  | .collect => match body with | [] => some .collect | _ => none
  | .clear => match body with | [l0, h0] => some (.clearSources (Half.ofBytes l0 h0)) | _ => none
  | .assertMask => match body with | [l0, h0] => some (.assertSources (Half.ofBytes l0 h0)) | _ => none

/-- The request a command is and the body that carries it; none for the part's own events. -/
def Instr.request? (i : Instr) : Option (Req × List Byte) :=
  match i with
  | .hardwareReset _ => none
  | .initEnd => none
  | .linkByteReceived _ _ => none
  | .gapTimerExpiry => none
  | .replyEnd => none
  | .heldFrameTaken => none
  | .setState x0 => some (.setState, [x0])
  | .linkReset => some (.linkReset, [])
  | .linkResetEffect => none
  | .retain x0 => some (.retain, [x0])
  | .readIdent => some (.readIdent, [])
  | .readConfig x0 x1 => some (.readConfig, [x0, x1])
  | .bind x0 x1 x2 x3 x4 => some (.bind, [x0, x1, x2, x3, x4])
  | .unbind x0 => some (.unbind, [x0])
  | .readBinding x0 => some (.readBinding, [x0])
  | .pinChange _ _ => none
  | .debounceTimerExpiry _ => none
  | .sampleArrival _ _ => none
  | .warmUpExpiry _ => none
  | .channelHoldExpiry _ => none
  | .setChannel x0 x1 x2 x3 x4 x5 x6 x7 x8 => some (.setChannel, [x0, Half.lo x1, Half.hi x1, Half.lo x2, Half.hi x2, Half.lo x3, Half.hi x3, Half.lo x4, Half.hi x4, Half.lo x5, Half.hi x5, Half.lo x6, Half.hi x6, Half.lo x7, Half.hi x7, x8])
  | .readChannels => some (.readChannels, [])
  | .setOverride x0 x1 x2 => some (.setOverride, [x0, x1, Half.lo x2, Half.hi x2])
  | .clearOverride x0 => some (.clearOverride, [x0])
  | .assessorChannelReport _ _ _ => none
  | .setAssess x0 x1 x2 x3 x4 x5 x6 x7 x8 x9 x10 => some (.setAssess, [x0, x1, x2, x3, Half.lo x4, Half.hi x4, Half.lo x5, Half.hi x5, Half.lo x6, Half.hi x6, Half.lo x7, Half.hi x7, Half.lo x8, Half.hi x8, x9, x10])
  | .readAssess => some (.readAssess, [])
  | .admLevelReport _ _ => none
  | .oatReport _ _ => none
  | .sealReqChange _ => none
  | .doorChange _ _ => none
  | .zonOutputChange _ => none
  | .damperStateReport _ => none
  | .admHoldTimerExpiry => none
  | .purgeTimerExpiry => none
  | .setDirective x0 => some (.setDirective, [x0])
  | .setAdmission x0 x1 x2 x3 x4 x5 x6 => some (.setAdmission, [x0, x1, Half.lo x2, Half.hi x2, Half.lo x3, Half.hi x3, Half.lo x4, Half.hi x4, Half.lo x5, Half.hi x5, x6])
  | .readAdmission => some (.readAdmission, [])
  | .zoneUpdate _ => none
  | .setZone x0 x1 x2 => some (.setZone, [x0, x1, Half.lo x2, Half.hi x2])
  | .setZoneTuning x0 x1 x2 x3 x4 x5 x6 x7 => some (.setZoneTuning, [Half.lo x0, Half.hi x0, Half.lo x1, Half.hi x1, x2, Half.lo x3, Half.hi x3, Half.lo x4, Half.hi x4, Half.lo x5, Half.hi x5, x6, Half.lo x7, Half.hi x7])
  | .setCrew x0 x1 => some (.setCrew, [x0, x1])
  | .setDefrost x0 => some (.setDefrost, [x0])
  | .readZones => some (.readZones, [])
  | .stepCompletion _ => none
  | .settleTimerExpiry _ => none
  | .homeChange _ _ => none
  | .laneFltChange _ _ => none
  | .laneRecoveryExpiry _ => none
  | .laneFaultHistoryExpiry _ => none
  | .setDamper x0 x1 x2 x3 x4 => some (.setDamper, [x0, Half.lo x1, Half.hi x1, Half.lo x2, Half.hi x2, Half.lo x3, Half.hi x3, x4])
  | .move x0 x1 x2 => some (.move, [x0, x1, x2])
  | .rehome x0 => some (.rehome, [x0])
  | .laneEnable x0 => some (.laneEnable, [x0])
  | .readDampers => some (.readDampers, [])
  | .readQueue => some (.readQueue, [])
  | .moverUpdate _ => none
  | .tachEdge _ => none
  | .edgeTimerExpiry _ => none
  | .stallTimerExpiry _ => none
  | .restartTimerExpiry _ => none
  | .cleanRunTimerExpiry _ => none
  | .groupDemandChange _ _ => none
  | .admissionReport _ => none
  | .loopUpdate => none
  | .cpdReport _ _ => none
  | .pressureLostExpiry => none
  | .fpdReport _ _ => none
  | .filterTimerExpiry => none
  | .setMover x0 x1 x2 x3 x4 x5 x6 => some (.setMover, [x0, x1, Half.lo x2, Half.hi x2, Half.lo x3, Half.hi x3, x4, Half.lo x5, Half.hi x5, x6])
  | .setPressure x0 x1 x2 x3 => some (.setPressure, [Half.lo x0, Half.hi x0, x1, x2, Half.lo x3, Half.hi x3])
  | .moverRestart x0 => some (.moverRestart, [x0])
  | .readMovers => some (.readMovers, [])
  | .heatDemandChange _ => none
  | .cltReport _ _ => none
  | .auxFlameChange _ => none
  | .valveHoldTimerExpiry => none
  | .ignitionTimerExpiry => none
  | .cooldownTimerExpiry => none
  | .coolantReleaseExpiry => none
  | .demandReleaseExpiry => none
  | .setHeat x0 x1 x2 x3 x4 x5 x6 x7 => some (.setHeat, [Half.lo x0, Half.hi x0, Half.lo x1, Half.hi x1, x2, x3, Half.lo x4, Half.hi x4, Half.lo x5, Half.hi x5, Half.lo x6, Half.hi x6, Half.lo x7, Half.hi x7])
  | .auxInhibit x0 => some (.auxInhibit, [x0])
  | .auxClearLock => some (.auxClearLock, [])
  | .readHeat => some (.readHeat, [])
  | .collect => some (.collect, [])
  | .clearSources x0 => some (.clear, [Half.lo x0, Half.hi x0])
  | .assertSources x0 => some (.assertMask, [Half.lo x0, Half.hi x0])
  | .setLevels v => some (.setLevels, v.toList)
  | .resetNegation => none

/-- What LNK makes of the KIND and BODY of a frame whose CHECK is right (R188). -/
inductive Dispatched where
  | unknown
  | badLength
  | request (i : Instr)
  deriving DecidableEq, Repr

/-- R188: an unknown KIND, a wrong body length, or the request that is handed to its owner. -/
def dispatch (kind : Byte) (body : List Byte) : Dispatched :=
  match Req.ofCode kind with
  | none => .unknown
  | some r =>
    if body.length = r.bodyLength then
      match r.parse body with
      | some i => .request i
      | none => .badLength
    else .badLength

/-- One shift of the CRC register (R185). -/
def crcShift (reg : BitVec 16) : BitVec 16 :=
  if reg.msb then (reg <<< 1) ^^^ 0x1021#16 else reg <<< 1

/-- The CRC register after one byte: the byte is XORed into its high byte and the register shifted eight
times (R185). -/
def crcByte (reg : BitVec 16) (b : Byte) : BitVec 16 :=
  let r := reg ^^^ (b ++ 0#8)
  crcShift (crcShift (crcShift (crcShift (crcShift (crcShift (crcShift (crcShift r)))))))

/-- CHECK: the register after LEN, KIND and BODY, started at FFFFh (R185). -/
def crc (bytes : List Byte) : BitVec 16 := bytes.foldl crcByte 0xFFFF#16

/-- SYNC (R185). -/
def syncByte : Byte := 0xC3#8

/-- The bytes of the frame that carries a KIND and a BODY (R185). -/
def frameBytes (kind : Byte) (body : List Byte) : List Byte :=
  let len : Byte := BitVec.ofNat 8 (body.length + 1)
  let check := crc (len :: kind :: body)
  [syncByte, len, kind] ++ body ++ [Half.lo check, Half.hi check]

/-- The bytes of the frame of a request; none for the part's own events. -/
def Instr.frame? (i : Instr) : Option (List Byte) :=
  i.request?.map fun (r, body) => frameBytes r.code body

/-- The command that an instruction word of the table spells: no row of spec/opcode_table.json gives bits,
so no word spells one. -/
def decodeTableWord (_nbits _w : Nat) : Option Instr := none

end Sys2Proof
end

