-- ==== Sys2Proof/Config.lean ====
section
/-! DEFINITION. The free values: what the spec gives an effect for without stating its value.
None has a body, so no proof can see which value stands there. -/

namespace Sys2Proof.Config

/-- The speed that an active TACH edge measures where it comes at the very time of the edge before it:
R125 divides by the interval and states no result for an interval of 0. Assumption 8. -/
opaque freeSpeed : Nat → BitVec 16

/-- The level read at a terminal whose output stands at neither of its two levels for the whole of the
moment read (a PWM output between duty 0 and 100, a STEP output between pulses, a DIR output in a
reversal settle): R94, R124 and R166 do not state it. Assumption 9. -/
opaque freeLevel : Nat → Bool

/-- What the 32-bit sequence counter of R96 stands at after its last number. Assumption 10. -/
opaque freeSequence : Nat → BitVec 32

end Sys2Proof.Config
end

