-- ==== Sys2Proof/Machine/Records.lean ====
section
/-! DEFINITION. The records that the part's blocks hold, field by field as the chapters list them. A timer
is held as the time at which it expires (`none` while it is stopped), so the time left is that time less
the clock; a field that only the model needs says so. -/

namespace Sys2Proof.Machine

/-! ### Sensor unit -/

/-- The state of a sensor channel (R3). -/
inductive ChannelState where
  | absent | warming | valid | held | failed | forced
  deriving DecidableEq, Repr

/-- A timer whose expiry is kept once it has run out: the warm-up timer (R3), the valve hold timer (R142). -/
inductive KeptTimer where
  | stopped
  | running (due : Time)
  | expired
  deriving DecidableEq, Repr

/-- The eight settings of a channel (01, Settings and requests): warm-up in seconds, hold in ms. -/
structure ChannelSettings where
  gain : Nat
  offset : Int
  low : Int
  high : Int
  warmUp : Nat
  hold : Nat
  failsafe : Int
  recovery : Nat
  deriving DecidableEq, Repr

/-- One channel record (R3). -/
structure Channel where
  state : ChannelState
  raw : Nat
  value : Int
  lastGood : Option Int
  warmUp : KeptTimer
  hold : Option Time
  recovery : Nat
  slot : Option SlotIx
  settings : ChannelSettings
  deriving DecidableEq, Repr

/-- What an override slot holds when it is not empty (R15). -/
structure Override where
  channel : ChannelIx
  value : Int
  deriving DecidableEq, Repr

/-- SNS: fifteen channel records and four override slots. -/
structure Sns where
  channels : Vector Channel 15
  slots : Vector (Option Override) 4
  deriving DecidableEq, Repr

/-! ### Contamination assessor -/

/-- The ten settings of an assessor (02, Settings and requests). -/
structure AssessorSettings where
  alpha : Nat
  beta : Nat
  n : Nat
  ceiling : Nat
  low : Nat
  high : Nat
  abs : Nat
  h : Nat
  p : Nat
  d : Nat
  deriving DecidableEq, Repr

/-- One assessor record (R25). -/
structure Assessor where
  active : Bool
  initialised : Bool
  f : Nat
  b : Nat
  s : Nat
  level : Level
  up : Nat
  down : Nat
  interval : Nat
  settings : AssessorSettings
  deriving DecidableEq, Repr

/-! ### Admission controller -/

/-- The host's admission wish (R43). -/
inductive Directive where
  | auto | seal | vent
  deriving DecidableEq, Repr

/-- The intake condition (R45). -/
inductive Intake where
  | clear | elevated | unknown | pmHigh | coHigh
  deriving DecidableEq, Repr

/-- The remaining time of an active purge (R57, R58): held while frozen, else the time it expires at. -/
inductive PurgeClock where
  | frozen (remaining : Time)
  | running (due : Time)
  deriving DecidableEq, Repr

/-- An active purge with its route (R43). -/
structure Purge where
  clock : PurgeClock
  route : Route
  deriving DecidableEq, Repr

/-- The seven admission settings (03, Settings and requests): percents and seconds. -/
structure AdmSettings where
  limitFraction : Nat
  pressFraction : Nat
  sealHold : Nat
  scrubHold : Nat
  limitHold : Nat
  purgeTime : Nat
  breachMin : Nat
  deriving DecidableEq, Repr

/-- The admission record (R43). `breach` holds the time at which an active breach became active. -/
structure Adm where
  accepted : AdmState
  demanded : AdmState
  directive : Directive
  hold : Option Time
  breach : Option Time
  purge : Option Purge
  cabCo : Bool
  breathing : Bool
  sealImpaired : Bool
  check : Option AdmState
  ordered : Vector (Option Nat) 3
  intake : Intake
  cab : Level
  sealLine : Bool
  doors : Vector Bool 4
  fresh : Nat
  breathingFlag : Bool
  minFresh : Nat
  settings : AdmSettings
  deriving DecidableEq, Repr

/-! ### Zone controller -/

/-- The mode of a zone (R72). -/
inductive ZoneMode where
  | off | active | hold
  deriving DecidableEq, Repr

/-- One zone record (R72). -/
structure Zone where
  enabled : Bool
  setpoint : Nat
  occupancy : Nat
  mode : ZoneMode
  error : Int
  integral : Int
  demand : Int
  blend : Nat
  ordered : Option Nat
  fresh : Nat
  blower : Nat
  breathing : Bool
  update : Option Time
  deriving DecidableEq, Repr

/-- The eight tuning settings (R88). -/
structure Tuning where
  kp : Nat
  ki : Nat
  minBlower : Nat
  co2Low : Nat
  co2High : Nat
  hardLimit : Nat
  occupantFresh : Nat
  discharge : Int
  deriving DecidableEq, Repr

/-- The five part-wide outputs of ZON (R79 to R82). -/
structure ZonOutputs where
  fresh : Nat
  breathing : Bool
  front : Nat
  rear : Nat
  heat : Nat
  deriving DecidableEq, Repr

/-- ZON: four zone records and the part-wide items (R72). -/
structure Zon where
  zones : Vector Zone 4
  tuning : Tuning
  defrost : Bool
  orderedDefrost : Option Nat
  out : ZonOutputs
  deriving DecidableEq, Repr

/-! ### Damper drive -/

/-- The class of an order (R96). -/
inductive OrderClass where
  | safety | normal
  deriving DecidableEq, Repr

/-- The source of an order (R96). -/
inductive OrderSource where
  | adm | zon | link | start
  deriving DecidableEq, Repr

/-- The kind of an order in hand (R96). -/
inductive OrderKind where
  | move | home
  deriving DecidableEq, Repr

/-- What an order in the queue asks for: a MOVE to a target, or a HOME with its pending target (R96). -/
inductive Goal where
  | move (target : Nat)
  | home (pending : Option Nat)
  deriving DecidableEq, Repr

/-- An order of the move queue (R96). -/
structure QueuedOrder where
  damper : DamperIx
  goal : Goal
  cls : OrderClass
  source : OrderSource
  seq : Nat
  deriving DecidableEq, Repr

/-- The order a damper is carrying out (R92). -/
structure OrderInHand where
  kind : OrderKind
  cls : OrderClass
  source : OrderSource
  seq : Nat
  deriving DecidableEq, Repr

/-- An order taken during a settle that holds no lane (R101), its target in steps. -/
structure DeferredOrder where
  target : Nat
  cls : OrderClass
  source : OrderSource
  deriving DecidableEq, Repr

/-- The outcome of the latest order to a damper (R92). -/
inductive LastResult where
  | none | done | jammed | refused | superseded
  deriving DecidableEq, Repr

/-- The four settings of a damper (05, Settings and requests): steps, steps per second, ms, home end OPEN or not. -/
structure DamperSettings where
  span : Nat
  rate : Nat
  settle : Nat
  homeOpen : Bool
  deriving DecidableEq, Repr

/-- One damper record (R92). `overtravel` marks the search of R104, `stepDue` the time of the next step
completion (R95), `homeInput` the level of HOME as DDR last took it (R105). While a HOME order waits in the
queue, its pending target is the order's. -/
structure Damper where
  state : DamperState
  position : Option Nat
  target : Option Nat
  pending : Option Nat
  order : Option OrderInHand
  lane : Option LaneIx
  stepCount : Nat
  overtravel : Bool
  stepDue : Option Time
  settle : Option Time
  deferred : Option DeferredOrder
  slip : Nat
  jam : Bool
  last : LastResult
  homeInput : Bool
  settings : DamperSettings
  deriving DecidableEq, Repr

/-- One lane record (R94). `fltInput` is the level of LANEFLT as DDR last took it (R109); `pulses` counts the
pulses put out on STEP since hardware reset, a field of the model's own. -/
structure Lane where
  state : LaneState
  holder : Option DamperIx
  recovery : Option Time
  history : List Time
  lockout : Bool
  fltInput : Bool
  pulses : Nat
  deriving DecidableEq, Repr

/-- DDR: eight damper records, two lane records, the move queue in grant order, the sequence counter (R96). -/
structure Ddr where
  dampers : Vector Damper 8
  lanes : Vector Lane 2
  queue : List QueuedOrder
  seq : Nat
  deriving DecidableEq, Repr

/-! ### Mover unit -/

/-- The state of a mover (R121). -/
inductive MoverState where
  | off | running | stalled | failed
  deriving DecidableEq, Repr

/-- The six settings of a mover (06, Settings and requests). -/
structure MoverSettings where
  rampRate : Nat
  stallSpeed : Nat
  stallTime : Nat
  minStallDuty : Nat
  restartDelay : Nat
  retries : Nat
  deriving DecidableEq, Repr

/-- One mover record (R121), with its update timer (R123). -/
structure Mover where
  state : MoverState
  demand : Nat
  duty : Nat
  speed : Nat
  retry : Nat
  stall : Option Time
  restart : Option Time
  cleanRun : Option Time
  edge : Option Time
  lastEdge : Option Time
  update : Option Time
  settings : MoverSettings
  deriving DecidableEq, Repr

/-- The phase of the pressure loop (R131); `running` is the manual's ACTIVE. -/
inductive LoopPhase where
  | inactive | running | holding
  deriving DecidableEq, Repr

/-- The loop record (R131). -/
structure Loop where
  phase : LoopPhase
  duty : Nat
  lastError : Int
  update : Option Time
  lost : Option Time
  lostFlag : Bool
  deriving DecidableEq, Repr

/-- The phase of the filter watch (R134). -/
inductive FilterPhase where
  | armed | timing | raised
  deriving DecidableEq, Repr

/-- The filter watch (R134). -/
structure Filter where
  phase : FilterPhase
  timer : Option Time
  deriving DecidableEq, Repr

/-- The four pressure settings (R136). -/
structure PressureSettings where
  target : Nat
  gain : Nat
  breachDuty : Nat
  filterLimit : Nat
  deriving DecidableEq, Repr

/-- MOV: three mover records, the loop record, the filter watch, the pressure settings, and the group
demands and admission picture as MOV last took them (R129, R130), with the CPD and FPD values of the latest SC13
and SC14 reports that it took (R133, R134). -/
structure Mov where
  movers : Vector Mover 3
  loop : Loop
  filter : Filter
  pressure : PressureSettings
  picture : Picture
  front : Nat
  rear : Nat
  cpd : Int
  fpd : Int
  deriving DecidableEq, Repr

/-! ### Heat unit -/

/-- The state of the auxiliary heater (R146). -/
inductive HeaterState where
  | off | prestart | running | cooldown | locked
  deriving DecidableEq, Repr

/-- The eight heat settings (07, Settings and requests): tenths of a degree, seconds, percents. -/
structure HeatSettings where
  coolantMin : Nat
  valveHold : Nat
  auxStart : Nat
  release : Nat
  coolantTarget : Nat
  releaseHold : Nat
  ignition : Nat
  cooldown : Nat
  deriving DecidableEq, Repr

/-- The heater record (R146). -/
structure Heater where
  state : HeaterState
  attempts : Nat
  restart : Bool
  inhibit : Bool
  auxDemand : Bool
  flame : Bool
  ignition : Option Time
  cooldown : Option Time
  coolantRelease : Option Time
  demandRelease : Option Time
  deriving DecidableEq, Repr

/-- HEU: the valve record, the heater record, and the heat demand and CLT as last taken (R142). -/
structure Heu where
  valveOpen : Bool
  valveHold : KeptTimer
  heater : Heater
  demand : Nat
  cltStatus : Status
  clt : Int
  settings : HeatSettings
  deriving DecidableEq, Repr

/-! ### Terminal binding -/

/-- The 51 functions a terminal can carry (R159). -/
inductive Func where
  | sc (i : ChannelIx)
  | home (i : DamperIx)
  | door (i : DoorIx)
  | laneFlt (i : LaneIx)
  | sealReq
  | auxFlame
  | tach (i : MoverIx)
  | sel (i : DamperIx)
  | step (i : LaneIx)
  | dir (i : LaneIx)
  | hvOpen
  | auxRun
  | pwm (i : MoverIx)
  deriving DecidableEq, Repr

/-- The debounce setting of a terminal entry (R158). -/
inductive Debounce where
  | ms0 | ms10 | ms50 | ms200
  deriving DecidableEq, Repr

/-- One terminal entry (R158). `level` is the level that the outside puts on the pin (true is high): the pin
level of R158 is that one where the part does not drive the pin. -/
structure Terminal where
  func : Option Func
  invert : Bool
  debounce : Debounce
  openDrain : Bool
  level : Bool
  debounced : Bool
  timer : Option Time
  deriving DecidableEq, Repr

/-- TRM: 48 terminal entries and the function-to-terminal map, whose entry `c - 1` is that of the function
of code `c` (R158, R159). -/
structure Trm where
  entries : Vector Terminal 48
  map : Vector (Option TerminalIx) 51
  deriving DecidableEq, Repr

/-! ### Attention unit -/

/-- One attention source record (R168). -/
structure Source where
  level : Nat
  pending : Bool
  count : Nat
  detail : Nat
  deriving DecidableEq, Repr

/-- ATN: sixteen source records and the two lines, true while asserted (R168, R170, R175). -/
structure Atn where
  sources : Vector Source 16
  attn : Bool
  fault : Bool
  deriving DecidableEq, Repr

/-! ### Operating states -/

/-- The part state (10, The part record). -/
inductive PartState where
  | init | config | run
  deriving DecidableEq, Repr

/-- Why the part last started (10, The part record). -/
inductive Cause where
  | powerOn | resetPin | linkReset
  deriving DecidableEq, Repr

/-- OPS: the part record, and whether the RESET terminal is asserted (R178). -/
structure Part where
  state : PartState
  retain : Bool
  cause : Cause
  resetAsserted : Bool
  deriving DecidableEq, Repr

/-! ### Link -/

/-- The receive phase (R184). -/
inductive RxPhase where
  | hunt | length | data | check
  deriving DecidableEq, Repr

/-- A complete frame: KIND and BODY in `data`, and the two CHECK bytes (R185). -/
structure Frame where
  len : Byte
  data : List Byte
  checkLo : Byte
  checkHi : Byte
  deriving DecidableEq, Repr

/-- A reply in progress: its KIND and its BODY, which opens with STATUS (R188). -/
structure Reply where
  kind : Byte
  body : List Byte
  deriving DecidableEq, Repr

/-- LNK: the receive record and the reply record (R184). `resetDue` marks a LINK_RESET answered and not yet
acted on, `resetting` the time from its reply's last byte to the end of the reset (R180). -/
structure Link where
  phase : RxPhase
  len : Byte
  data : List Byte
  check : List Byte
  gap : Option Time
  busy : Bool
  held : Option Frame
  reply : Option Reply
  resetDue : Bool
  resetting : Bool
  deriving DecidableEq, Repr

/-- A block that takes entries to RUN, leavings of RUN and link resets (R179, R180). -/
inductive Block where
  | sns | asr | adm | zon | ddr | mov | heu | atn
  deriving DecidableEq, Repr

end Sys2Proof.Machine
end

