-- ==== Sys2Proof/Machine/Defaults.lean ====
section
/-! DEFINITION. The defaults of every setting and the record of every block after hardware reset, each from
the chapter's own table and its hardware-reset rule. -/

namespace Sys2Proof.Machine

/-- Default scaling, warm-up and failsafe of a temperature channel (R5, R8, R12). -/
def temperatureDefaults : ChannelSettings := ⟨2000, -500, -500, 1499, 0, 3000, 0, 3⟩
/-- Defaults of a CO channel. -/
def coDefaults : ChannelSettings := ⟨500, 0, 0, 499, 30, 3000, 499, 3⟩
/-- Defaults of the particulate channel. -/
def particulateDefaults : ChannelSettings := ⟨1000, 0, 0, 999, 10, 3000, 999, 3⟩
/-- Defaults of a CO2 channel. -/
def co2Defaults : ChannelSettings := ⟨5000, 0, 0, 4998, 60, 3000, 4998, 3⟩
/-- Defaults of the cab pressure channel. -/
def cabPressureDefaults : ChannelSettings := ⟨2000, -1000, -1000, 999, 0, 3000, 0, 3⟩
/-- Defaults of the filter pressure channel. -/
def filterPressureDefaults : ChannelSettings := ⟨1000, 0, 0, 999, 0, 3000, 0, 3⟩

/-- The default settings of each channel (R5, R6, R8, R12). -/
def channelDefaults (ch : ChannelIx) : ChannelSettings :=
  match ch.val with
  | 8 => coDefaults
  | 9 => particulateDefaults
  | 10 => coDefaults
  | 11 => co2Defaults
  | 12 => co2Defaults
  | 13 => cabPressureDefaults
  | 14 => filterPressureDefaults
  | _ => temperatureDefaults

/-- A channel after hardware reset (R22). -/
def channelReset (ch : ChannelIx) : Channel :=
  { state := .absent, raw := 0, value := 0, lastGood := none, warmUp := .stopped, hold := none
    recovery := 0, slot := none, settings := channelDefaults ch }

/-- SNS after hardware reset (R22). -/
def snsReset : Sns :=
  { channels := tableOf 15 channelReset, slots := Vector.replicate 4 none }

/-- The default settings of each assessor (02, Settings and requests). -/
def assessorDefaults (a : AssessorIx) : AssessorSettings :=
  match a.val with
  | 0 => ⟨16, 8, 50, 15, 10, 35, 50, 4, 3, 20⟩
  | 1 => ⟨8, 4, 100, 60, 40, 150, 250, 10, 5, 50⟩
  | _ => ⟨16, 8, 50, 15, 15, 35, 50, 4, 3, 20⟩

/-- An assessor record after hardware reset (R40). -/
def assessorReset (a : AssessorIx) : Assessor :=
  { active := false, initialised := false, f := 0, b := 0, s := 0, level := .clear
    up := 0, down := 0, interval := 0, settings := assessorDefaults a }

/-- ASR after hardware reset (R40). -/
def asrReset : Vector Assessor 3 := tableOf 3 assessorReset

/-- The default admission settings (03, Settings and requests). -/
def admDefaults : AdmSettings := ⟨30, 15, 60, 45, 30, 90, 3⟩

/-- ADM after hardware reset (R43, R67). The inputs as last taken, for which the spec gives no reset
value, stand at the values that unbound inputs give (R45, R46, R52): assumption 4. -/
def admReset : Adm :=
  { accepted := .inactive, demanded := .opened, directive := .auto, hold := none, breach := none
    purge := none, cabCo := false, breathing := false, sealImpaired := false, check := none
    ordered := Vector.replicate 3 none, intake := .clear, cab := .clear, sealLine := false
    doors := Vector.replicate 4 false, fresh := 0, breathingFlag := false, minFresh := 10
    settings := admDefaults }

/-- The default tuning (R86). -/
def tuningDefaults : Tuning := ⟨32, 32, 20, 800, 1400, 2500, 4, 650⟩

/-- The default setpoint, 21.0 °C (R86). -/
def setpointDefault : Nat := 210

/-- A zone after hardware reset (R86). -/
def zoneReset : Zone :=
  { enabled := false, setpoint := setpointDefault, occupancy := 0, mode := .off, error := 0, integral := 0
    demand := 0, blend := 0, ordered := none, fresh := 0, blower := 0, breathing := false, update := none }

/-- Every output of ZON at 0 or clear (R73). -/
def zonOutputsZero : ZonOutputs := ⟨0, false, 0, 0, 0⟩

/-- ZON after hardware reset (R86). -/
def zonReset : Zon :=
  { zones := Vector.replicate 4 zoneReset, tuning := tuningDefaults, defrost := false
    orderedDefrost := none, out := zonOutputsZero }

/-- The default damper settings (05, Settings and requests). -/
def damperDefaults : DamperSettings := ⟨800, 200, 100, false⟩

/-- A damper after hardware reset (R120). -/
def damperReset : Damper :=
  { state := .absent, position := none, target := none, pending := none, order := none, lane := none
    stepCount := 0, overtravel := false, stepDue := none, settle := none, deferred := none, slip := 0
    jam := false, last := .none, homeInput := false, settings := damperDefaults }

/-- A lane after hardware reset (R120). -/
def laneReset : Lane :=
  { state := .absent, holder := none, recovery := none, history := [], lockout := false
    fltInput := false, pulses := 0 }

/-- DDR after hardware reset (R120). -/
def ddrReset : Ddr :=
  { dampers := Vector.replicate 8 damperReset, lanes := Vector.replicate 2 laneReset, queue := [], seq := 0 }

/-- The default mover settings (06, Settings and requests). -/
def moverDefaults : MoverSettings := ⟨20, 300, 2000, 25, 5000, 3⟩

/-- The default pressure settings (06, Settings and requests). -/
def pressureDefaults : PressureSettings := ⟨250, 4, 100, 250⟩

/-- A mover after hardware reset (R141). -/
def moverReset : Mover :=
  { state := .off, demand := 0, duty := 0, speed := 0, retry := 0, stall := none, restart := none
    cleanRun := none, edge := none, lastEdge := none, update := none, settings := moverDefaults }

/-- The loop after hardware reset (R141). -/
def loopReset : Loop := ⟨.inactive, 0, 0, none, none, false⟩

/-- The admission picture outside RUN (R129, R140). -/
def pictureNone : Picture := ⟨.inactive, false, none⟩

/-- MOV after hardware reset (R141); the two values are those of an ABSENT channel (R22). -/
def movReset : Mov :=
  { movers := Vector.replicate 3 moverReset, loop := loopReset, filter := ⟨.armed, none⟩
    pressure := pressureDefaults, picture := pictureNone, front := 0, rear := 0, cpd := 0, fpd := 0 }

/-- The default heat settings (07, Settings and requests). -/
def heatDefaults : HeatSettings := ⟨600, 30, 40, 10, 750, 60, 90, 120⟩

/-- The heater after hardware reset (R157). -/
def heaterReset : Heater :=
  { state := .off, attempts := 0, restart := false, inhibit := false, auxDemand := false, flame := false
    ignition := none, cooldown := none, coolantRelease := none, demandRelease := none }

/-- HEU after hardware reset (R157). The CLT value, for which the spec gives none, is that of an absent
channel, 0: assumption 4. -/
def heuReset : Heu :=
  { valveOpen := false, valveHold := .stopped, heater := heaterReset, demand := 0, cltStatus := .absent
    clt := 0, settings := heatDefaults }

/-- A terminal entry after hardware reset (R167), its pin at the given level. -/
def terminalReset (level : Bool) : Terminal :=
  { func := none, invert := false, debounce := .ms50, openDrain := false, level := level
    debounced := false, timer := none }

/-- TRM after hardware reset (R167), every pin low: assumption 5. -/
def trmReset : Trm :=
  { entries := Vector.replicate 48 (terminalReset false), map := Vector.replicate 51 none }

/-- The default levels of the sixteen sources (R168). -/
def levelDefault (i : SourceIx) : Nat :=
  match i.val with
  | 0 => 3
  | 1 => 3
  | 2 => 3
  | 10 => 1
  | 11 => 1
  | 12 => 1
  | 13 => 0
  | 14 => 1
  | 15 => 1
  | _ => 2

/-- ATN after hardware reset (R176). -/
def atnReset : Atn :=
  { sources := tableOf 16 fun i => ⟨levelDefault i, false, 0, 0⟩, attn := false, fault := false }

/-- The part record after a power-on with the RESET terminal negated (R178). -/
def partReset : Part := ⟨.init, false, .powerOn, false⟩

/-- LNK after hardware reset (R184). -/
def linkAfterReset : Link :=
  { phase := .hunt, len := 0#8, data := [], check := [], gap := none, busy := false, held := none
    reply := none, resetDue := false, resetting := false }

/-- The order in which the model's blocks take an entry to RUN, a leaving of RUN or a link reset:
the spec gives them no order (R179, R180). Assumption 3. -/
def blockOrderReset : List Block := [.sns, .asr, .adm, .zon, .ddr, .mov, .heu, .atn]

end Sys2Proof.Machine
end

