-- ==== Sys2Proof/Machine/State.lean ====
section
/-! DEFINITION. The machine's state, the reasons a step can stop, and the state right after a power-on. -/

namespace Sys2Proof.Machine

/-- The state of the part: one record for each block, the commands that wait (`pending`), the events that
one block has handed another and that are not yet taken (`handed`, oldest first), the clock in
microseconds, the counter that the free values are read at, and the order in which the blocks take the
part-wide events. -/
structure State where
  pending : List Instr
  handed : List Instr
  now : Time
  free : Nat
  blockOrder : List Block
  sns : Sns
  asr : Vector Assessor 3
  adm : Adm
  zon : Zon
  ddr : Ddr
  mov : Mov
  heu : Heu
  trm : Trm
  atn : Atn
  part : Part
  link : Link
  deriving DecidableEq, Repr

/-- The reasons a step stops with a fault. There is none: the spec gives every command an effect in every
state, so no meaning stops. -/
inductive Fault where
  deriving DecidableEq, Repr

/-- The reasons a step is refused. -/
inductive Refusal where
  /-- Raised by `exec` for a command that has no meaning yet. Safe. No arm of this model raises it. -/
  | notModelled (mnemonic : String)
  deriving DecidableEq, Repr

/-- The part right after a power-on: every block as its hardware-reset rule leaves it, in INIT (R178). -/
def State.reset : State :=
  { pending := [], handed := [], now := 0, free := 0, blockOrder := blockOrderReset
    sns := snsReset, asr := asrReset, adm := admReset, zon := zonReset, ddr := ddrReset, mov := movReset
    heu := heuReset, trm := trmReset, atn := atnReset, part := partReset, link := linkAfterReset }

end Sys2Proof.Machine
end

