-- ==== Sys2Proof/Machine/Ops.lean ====
section
/-! DEFINITION. The operations every block shares: the arithmetic of 00_scope, timers, the events one block
hands another, raising an attention source, the reply to a request, and the two shapes of a meaning. -/

namespace Sys2Proof.Machine

/-- What a step answers. -/
abbrev Out := Host.Outcome State Fault Refusal

/-! ### Arithmetic -/

/-- R1: RHA(x / d), for a positive even divisor `d`. -/
def rha (x : Int) (d : Nat) : Int := x.sign * (((x.natAbs + d / 2) / d : Nat) : Int)

/-- Saturation of an integer to an inclusive range (00_scope, Arithmetic). -/
def clampInt (lo hi x : Int) : Int := max lo (min hi x)

/-- Saturation of a natural to an inclusive range (00_scope, Arithmetic). -/
def clampNat (lo hi x : Nat) : Nat := max lo (min hi x)

/-- The 16-bit two's complement of a value, as a natural (R133, R185). -/
def twos16 (x : Int) : Nat := (x % 65536).toNat

/-! ### Timers -/

/-- The time `ms` milliseconds from now. -/
def inMs (now : Time) (ms : Nat) : Time := now + ms * 1000

/-- The time `s` seconds from now. -/
def inSec (now : Time) (s : Nat) : Time := now + s * 1000000

/-- Microseconds in tenths of a second, rounded as R1 rounds (R70, R154): assumption 11. -/
def tenths (t : Time) : Nat := (rha (t : Int) 100000).toNat

/-- The time left on a timer, 0 where it is stopped. -/
def timeLeft (now : Time) : Option Time → Time
  | none => 0
  | some due => due - now

/-- A running timer runs on; a stopped one starts (R9, R50, R126, R133, R149). -/
def startIfStopped (t : Option Time) (due : Time) : Option Time :=
  match t with
  | none => some due
  | some d => some d

/-! ### Handing events from block to block -/

/-- A block hands another an event: it waits behind the events handed before it (R14, R34, R110, R122). -/
def State.hand (s : State) (c : Instr) : State := { s with handed := s.handed ++ [c] }

/-- Several events handed, in order. -/
def State.handAll (s : State) (cs : List Instr) : State := { s with handed := s.handed ++ cs }

/-- A handed event is taken: it waits no longer. -/
def State.strike (s : State) (c : Instr) : State := { s with handed := s.handed.erase c }

/-- A free value's counter moves on. -/
def State.spendFree (s : State) (n : Nat) : State := { s with free := s.free + n }

/-! ### The part state -/

/-- The part is in RUN. -/
def State.inRun (s : State) : Bool := decide (s.part.state = .run)

/-- The part is in CONFIG. -/
def State.inConfig (s : State) : Bool := decide (s.part.state = .config)

/-- The part is in INIT, where every block stands at its reset values and takes nothing (10, table of blocks). -/
def State.inInit (s : State) : Bool := decide (s.part.state = .init)

/-! ### Attention -/

/-- AS0 to AS15 by name (R168). -/
def asCabCo : SourceIx := 0
def asSealImpaired : SourceIx := 1
def asBreathing : SourceIx := 2
def asAdmission : SourceIx := 3
def asDamper : SourceIx := 4
def asLane : SourceIx := 5
def asMover : SourceIx := 6
def asHeater : SourceIx := 7
def asSensor : SourceIx := 8
def asPressure : SourceIx := 9
def asFilter : SourceIx := 10
def asZone : SourceIx := 11
def asPurgeDone : SourceIx := 12
def asSettled : SourceIx := 13
def asLink : SourceIx := 14
def asRestart : SourceIx := 15

/-- A source is pending at level 1 or more (R170). -/
def Source.calls (r : Source) : Bool := r.pending && decide (1 ≤ r.level)

/-- R170: the ATTN line is asserted exactly while a source is pending at level 1 or more. -/
def Atn.judge (a : Atn) : Atn := { a with attn := a.sources.toList.any Source.calls }

/-- R169, at the record: pending, one more raise up to 15, the latest detail. -/
def Source.raise (r : Source) (detail : Nat) : Source :=
  { r with pending := true, count := min 15 (r.count + 1), detail := detail }

/-- A change of one source record, with the line judged. -/
def Atn.update (a : Atn) (i : SourceIx) (f : Source → Source) : Atn :=
  ({ a with sources := a.sources.set i (f a.sources[i]) } : Atn).judge

/-- R169: a raise reaches ATN. -/
def Atn.raise (a : Atn) (i : SourceIx) (detail : Nat) : Atn := a.update i fun r => r.raise detail

/-- R169: a block raises a source with a detail. -/
def State.raise (s : State) (i : SourceIx) (detail : Nat) : State := { s with atn := s.atn.raise i detail }

/-- Several raises, in order. -/
def State.raiseAll (s : State) (l : List (SourceIx × Nat)) : State :=
  l.foldl (fun t (i, detail) => t.raise i detail) s

/-- R175: the FAULT line is asserted while one of ADM's three conditions is active. -/
def State.judgeFault (s : State) : State :=
  { s with atn := { s.atn with fault := s.adm.cabCo || s.adm.breathing || s.adm.sealImpaired } }

/-! ### Replies -/

/-- STATUS (R189). -/
inductive StatusCode where
  | ok | okClamped | unknown | length | check | range | state | bound | inUse | notBound | duplicate
  | jammed | incomplete
  deriving DecidableEq, Repr

/-- The STATUS byte (R189). -/
def StatusCode.code : StatusCode → Byte
  | .ok => 0#8
  | .okClamped => 1#8
  | .unknown => 16#8
  | .length => 17#8
  | .check => 18#8
  | .range => 19#8
  | .state => 20#8
  | .bound => 21#8
  | .inUse => 22#8
  | .notBound => 23#8
  | .duplicate => 24#8
  | .jammed => 25#8
  | .incomplete => 26#8

/-- The reply KIND: the request KIND + 80h, and FFh for a KIND of 80h or above (R187, R188). -/
def replyKind (kind : Byte) : Byte := if kind.msb then 0xFF#8 else kind + 0x80#8

/-- The part sends a reply; LNK is busy until its last byte has been sent (R187, R188). -/
def State.sendReply (s : State) (kind : Byte) (body : List Byte) : State :=
  { s with link := { s.link with busy := true, reply := some ⟨replyKind kind, body⟩ } }

/-- R185: the bytes of a reply on the line, SYNC, LEN, KIND, BODY and CHECK. -/
def Reply.frame (r : Reply) : List Byte := frameBytes r.kind r.body

/-- R184, R185: the frame that LNK is sending, if it is sending one. -/
def State.sending (s : State) : Option (List Byte) := s.link.reply.map Reply.frame

/-- A request is answered with a STATUS and, for an accepted read, its data (R188). -/
def State.answer (s : State) (r : Req) (status : StatusCode) (data : List Byte) : State :=
  s.sendReply r.code (status.code :: data)

/-- A request is answered with a STATUS alone (R188). -/
def State.status (s : State) (r : Req) (status : StatusCode) : State := s.answer r status []

/-! ### The shapes of a meaning -/

/-- An event that a block may have been handed, or a request that LNK has passed on: it is taken, and waits
no longer. In INIT nothing is taken (R178): assumption 12. -/
def State.take (s : State) (c : Instr) (effect : State → State) : Out :=
  .next (if s.inInit then s.strike c else effect (s.strike c))

/-- An event of a block's own or from outside the part. In INIT nothing is taken (R178): assumption 12. -/
def State.own (s : State) (effect : State → State) : Out :=
  .next (if s.inInit then s else effect s)

end Sys2Proof.Machine
end

