-- ==== Sys2Proof/Machine/Operands.lean ====
section
/-! DEFINITION. The operands of requests and the fields of replies: how a setting request's fields become
settings, which values are clamped and to what (each chapter's settings table), and how a value is laid
out in a reply (R185, R191 to R194). -/

namespace Sys2Proof.Machine

/-! ### Fields of a request -/

/-- An index field, where it names one of `n` records (R189: otherwise refused RANGE). -/
def indexOf (n : Nat) (b : Byte) : Option (Fin n) :=
  if h : b.toNat < n then some ⟨b.toNat, h⟩ else none

/-- OK, or OK_CLAMPED where a stored value differs from the one sent (R189). -/
def clampStatus (changed : Bool) : StatusCode := if changed then .okClamped else .ok

/-- The eight settings of a SET_CHANNEL body as sent (R19, R190). -/
def channelSettingsOf (gain offset low high warmUp hold failsafe : Half) (recovery : Byte) : ChannelSettings :=
  { gain := gain.toNat, offset := offset.toInt, low := low.toInt, high := high.toInt
    warmUp := warmUp.toNat, hold := hold.toNat, failsafe := failsafe.toInt, recovery := recovery.toNat }

/-- R19: warm-up time, hold time and recovery samples brought into range. -/
def ChannelSettings.clamp (c : ChannelSettings) : ChannelSettings :=
  { c with warmUp := clampNat 0 300 c.warmUp, hold := clampNat 100 30000 c.hold
           recovery := clampNat 1 15 c.recovery }

/-- R19: gain above 32767 and range low above range high are refused. -/
def ChannelSettings.refusable (c : ChannelSettings) : Bool := decide (32767 < c.gain) || decide (c.high < c.low)

/-- The ten settings of a SET_ASSESS body as sent (R37, R190). -/
def assessorSettingsOf (alpha beta n : Byte) (ceiling low high abs h : Half) (p d : Byte) : AssessorSettings :=
  { alpha := alpha.toNat, beta := beta.toNat, n := n.toNat, ceiling := ceiling.toNat, low := low.toNat
    high := high.toNat, abs := abs.toNat, h := h.toNat, p := p.toNat, d := d.toNat }

/-- R37: the ranges outside which a SET_ASSESS is refused. -/
def AssessorSettings.inRange (c : AssessorSettings) : Bool :=
  decide (1 ≤ c.alpha ∧ c.alpha ≤ 64) && decide (c.beta ≤ 255) && decide (1 ≤ c.n ∧ c.n ≤ 255) &&
  decide (c.ceiling ≤ 32767) && decide (1 ≤ c.abs ∧ c.abs ≤ 32767) && decide (1 ≤ c.p ∧ c.p ≤ 15) &&
  decide (1 ≤ c.d ∧ c.d ≤ 255) && decide (1 ≤ c.low ∧ c.low ≤ 32767) &&
  decide (1 ≤ c.high ∧ c.high ≤ 32767) && decide (c.low ≤ c.high)

/-- R37: the hysteresis stored as low - 1 where it exceeds it. -/
def AssessorSettings.clamp (c : AssessorSettings) : AssessorSettings := { c with h := min c.h (c.low - 1) }

/-- The seven settings of a SET_ADMISSION body as sent (R69, R190). -/
def admSettingsOf (limitFraction pressFraction : Byte) (sealHold scrubHold limitHold purgeTime : Half)
    (breachMin : Byte) : AdmSettings :=
  { limitFraction := limitFraction.toNat, pressFraction := pressFraction.toNat, sealHold := sealHold.toNat
    scrubHold := scrubHold.toNat, limitHold := limitHold.toNat, purgeTime := purgeTime.toNat
    breachMin := breachMin.toNat }

/-- R69: each admission setting brought into range. -/
def AdmSettings.clamp (c : AdmSettings) : AdmSettings :=
  { limitFraction := clampNat 0 100 c.limitFraction, pressFraction := clampNat 0 100 c.pressFraction
    sealHold := clampNat 1 600 c.sealHold, scrubHold := clampNat 1 600 c.scrubHold
    limitHold := clampNat 1 600 c.limitHold, purgeTime := clampNat 10 600 c.purgeTime
    breachMin := clampNat 0 60 c.breachMin }

/-- The eight tuning settings of a SET_ZONE_TUNING body as sent (R88, R190). -/
def tuningOf (kp ki : Half) (minBlower : Byte) (co2Low co2High hardLimit : Half) (occupantFresh : Byte)
    (discharge : Half) : Tuning :=
  { kp := kp.toNat, ki := ki.toNat, minBlower := minBlower.toNat, co2Low := co2Low.toNat
    co2High := co2High.toNat, hardLimit := hardLimit.toNat, occupantFresh := occupantFresh.toNat
    discharge := discharge.toInt }

/-- R88: what a SET_ZONE_TUNING is refused for. -/
def Tuning.refusable (c : Tuning) : Bool :=
  decide (255 < c.kp) || decide (255 < c.ki) || decide (9999 < c.co2Low) || decide (9999 < c.co2High) ||
  decide (c.co2High ≤ c.co2Low)

/-- R88: the operating quantities brought into range. -/
def Tuning.clamp (c : Tuning) : Tuning :=
  { c with minBlower := clampNat 0 100 c.minBlower, hardLimit := clampNat 1 9999 c.hardLimit
           occupantFresh := clampNat 0 25 c.occupantFresh, discharge := clampInt (-500) 1499 c.discharge }

/-- The four settings of a SET_DAMPER body as sent, its home end already judged (R113). -/
def damperSettingsOf (span rate settle : Half) (homeOpen : Bool) : DamperSettings :=
  { span := span.toNat, rate := rate.toNat, settle := settle.toNat, homeOpen := homeOpen }

/-- R113: step rate and settle time brought into range. -/
def DamperSettings.clamp (c : DamperSettings) : DamperSettings :=
  { c with rate := clampNat 50 500 c.rate, settle := clampNat 0 1000 c.settle }

/-- The six settings of a SET_MOVER body as sent (R135). -/
def moverSettingsOf (rampRate : Byte) (stallSpeed stallTime : Half) (minStallDuty : Byte) (restartDelay : Half)
    (retries : Byte) : MoverSettings :=
  { rampRate := rampRate.toNat, stallSpeed := stallSpeed.toNat, stallTime := stallTime.toNat
    minStallDuty := minStallDuty.toNat, restartDelay := restartDelay.toNat, retries := retries.toNat }

/-- R135: each mover setting brought into range. -/
def MoverSettings.clamp (c : MoverSettings) : MoverSettings :=
  { rampRate := clampNat 1 100 c.rampRate, stallSpeed := clampNat 0 10000 c.stallSpeed
    stallTime := clampNat 500 10000 c.stallTime, minStallDuty := clampNat 0 100 c.minStallDuty
    restartDelay := clampNat 1000 60000 c.restartDelay, retries := clampNat 0 15 c.retries }

/-- The four settings of a SET_PRESSURE body as sent (R136). -/
def pressureSettingsOf (target : Half) (gain breachDuty : Byte) (filterLimit : Half) : PressureSettings :=
  { target := target.toNat, gain := gain.toNat, breachDuty := breachDuty.toNat, filterLimit := filterLimit.toNat }

/-- R136: each pressure setting brought into range. -/
def PressureSettings.clamp (c : PressureSettings) : PressureSettings :=
  { target := clampNat 0 1000 c.target, gain := clampNat 0 255 c.gain, breachDuty := clampNat 0 100 c.breachDuty
    filterLimit := clampNat 1 999 c.filterLimit }

/-- The eight settings of a SET_HEAT body as sent (R153). -/
def heatSettingsOf (coolantMin valveHold : Half) (auxStart release : Byte)
    (coolantTarget releaseHold ignition cooldown : Half) : HeatSettings :=
  { coolantMin := coolantMin.toNat, valveHold := valveHold.toNat, auxStart := auxStart.toNat
    release := release.toNat, coolantTarget := coolantTarget.toNat, releaseHold := releaseHold.toNat
    ignition := ignition.toNat, cooldown := cooldown.toNat }

/-- R153: each heat setting brought into range. -/
def HeatSettings.clamp (c : HeatSettings) : HeatSettings :=
  { coolantMin := clampNat 300 900 c.coolantMin, valveHold := clampNat 5 600 c.valveHold
    auxStart := clampNat 1 100 c.auxStart, release := clampNat 0 99 c.release
    coolantTarget := clampNat 300 1000 c.coolantTarget, releaseHold := clampNat 10 600 c.releaseHold
    ignition := clampNat 10 300 c.ignition, cooldown := clampNat 30 600 c.cooldown }

/-- R153, on the clamped values: release demand not below aux start demand, or coolant target not above
coolant minimum. -/
def HeatSettings.refusable (c : HeatSettings) : Bool :=
  decide (c.auxStart ≤ c.release) || decide (c.coolantTarget ≤ c.coolantMin)

/-! ### Functions of a terminal -/

/-- The code of a function (R159). -/
def Func.code : Func → Nat
  | .sc i => 1 + i.val
  | .home i => 16 + i.val
  | .door i => 24 + i.val
  | .laneFlt i => 28 + i.val
  | .sealReq => 30
  | .auxFlame => 31
  | .tach i => 32 + i.val
  | .sel i => 35 + i.val
  | .step i => 43 + i.val
  | .dir i => 45 + i.val
  | .hvOpen => 47
  | .auxRun => 48
  | .pwm i => 49 + i.val

/-- The function of a code of the table (R159). -/
def Func.ofCode (c : Nat) : Option Func :=
  if h : 1 ≤ c ∧ c < 16 then some (.sc ⟨c - 1, by omega⟩)
  else if h : 16 ≤ c ∧ c < 24 then some (.home ⟨c - 16, by omega⟩)
  else if h : 24 ≤ c ∧ c < 28 then some (.door ⟨c - 24, by omega⟩)
  else if h : 28 ≤ c ∧ c < 30 then some (.laneFlt ⟨c - 28, by omega⟩)
  else if c = 30 then some .sealReq
  else if c = 31 then some .auxFlame
  else if h : 32 ≤ c ∧ c < 35 then some (.tach ⟨c - 32, by omega⟩)
  else if h : 35 ≤ c ∧ c < 43 then some (.sel ⟨c - 35, by omega⟩)
  else if h : 43 ≤ c ∧ c < 45 then some (.step ⟨c - 43, by omega⟩)
  else if h : 45 ≤ c ∧ c < 47 then some (.dir ⟨c - 45, by omega⟩)
  else if c = 47 then some .hvOpen
  else if c = 48 then some .auxRun
  else if h : 49 ≤ c ∧ c < 52 then some (.pwm ⟨c - 49, by omega⟩)
  else none

/-- The place of a function in the function-to-terminal map. -/
def Func.slot (f : Func) : Fin 51 :=
  ⟨f.code - 1, by cases f <;> simp only [Func.code] <;> omega⟩

/-- R159: the terminals allowed to carry a function. -/
def Func.allowedOn (f : Func) (t : TerminalIx) : Bool :=
  match f with
  | .sc _ => decide (t.val < 16)
  | .home _ | .door _ | .laneFlt _ | .sealReq | .auxFlame => true
  | .tach _ => decide (16 ≤ t.val ∧ t.val < 24)
  | .sel _ | .step _ | .dir _ | .hvOpen | .auxRun => decide (16 ≤ t.val ∧ t.val < 40)
  | .pwm _ => decide (40 ≤ t.val)

/-- A digital input function (R159). -/
def Func.isDigitalInput : Func → Bool
  | .home _ | .door _ | .laneFlt _ | .sealReq | .auxFlame => true
  | .sc _ | .tach _ | .sel _ | .step _ | .dir _ | .hvOpen | .auxRun | .pwm _ => false

/-- An output or PWM output function (R159). -/
def Func.isOutput : Func → Bool
  | .sel _ | .step _ | .dir _ | .hvOpen | .auxRun | .pwm _ => true
  | .sc _ | .home _ | .door _ | .laneFlt _ | .sealReq | .auxFlame | .tach _ => false

/-- The debounce setting of a code (R160). -/
def Debounce.ofCode (b : Byte) : Option Debounce :=
  match b.toNat with
  | 0 => some .ms0
  | 1 => some .ms10
  | 2 => some .ms50
  | 3 => some .ms200
  | _ => none

/-- The code of a debounce setting (R160). -/
def Debounce.code : Debounce → Nat
  | .ms0 => 0
  | .ms10 => 1
  | .ms50 => 2
  | .ms200 => 3

/-- The debounce time in milliseconds (R158). -/
def Debounce.ms : Debounce → Nat
  | .ms0 => 0
  | .ms10 => 10
  | .ms50 => 50
  | .ms200 => 200

/-- The terminal that carries a function, where one does (R158). -/
def Trm.terminalOf (t : Trm) (f : Func) : Option TerminalIx := t.map[f.slot]

/-- A function is bound (R158). -/
def State.bound (s : State) (f : Func) : Bool := (s.trm.terminalOf f).isSome

/-- A digital input function is bound and its debounced input is at its active level (R46). -/
def State.inputAsserted (s : State) (f : Func) : Bool :=
  match s.trm.terminalOf f with
  | none => false
  | some t => s.trm.entries[t].debounced

/-! ### Fields of a reply -/

/-- A one-byte field. -/
def byteOf (n : Nat) : Byte := BitVec.ofNat 8 n

/-- A signed one-byte field (R185: two's complement). -/
def byteOfInt (n : Int) : Byte := BitVec.ofInt 8 n

/-- A flag. -/
def byteOfBool (b : Bool) : Byte := if b then 1#8 else 0#8

/-- A two-byte field, little-endian (R185). -/
def halfBytes (n : Nat) : List Byte := [Half.lo (BitVec.ofNat 16 n), Half.hi (BitVec.ofNat 16 n)]

/-- A signed two-byte field (R185). -/
def halfBytesInt (n : Int) : List Byte := [Half.lo (BitVec.ofInt 16 n), Half.hi (BitVec.ofInt 16 n)]

/-- A field that holds 255 for none or unknown (R70, R90, R117). -/
def byteOrNone : Option Nat → Byte
  | none => 255#8
  | some n => byteOf n

end Sys2Proof.Machine
end

