-- ==== Sys2Proof/Machine/LinkRx.lean ====
section
/-! DEFINITION. Link Protocol and Requests (11): the receive record, a complete frame, the end of a reply, and
the frame held through a link reset. -/

namespace Sys2Proof.Machine

/-! ### A complete frame -/

/-- R187, R188: a frame is taken with busy set: its CHECK compared, its KIND and BODY passed on. -/
def State.takeFrame (s : State) (f : Frame) : State :=
  let s := { s with link := { s.link with busy := true } }
  match f.data with
  | [] => s
  | kind :: body =>
    if Half.ofBytes f.checkLo f.checkHi = crc (f.len :: f.data) then
      match dispatch kind body with
      | .unknown => s.sendReply kind [StatusCode.unknown.code]
      | .badLength => s.sendReply kind [StatusCode.length.code]
      | .request i => s.hand i
    else (s.sendReply kind [StatusCode.check.code]).raise asLink 768

/-- R180, R187: a frame completes: OVERRUN while LNK is busy or a frame is held, held during a link reset,
else taken. -/
def State.frameComplete (s : State) (f : Frame) : State :=
  if s.link.busy || s.link.held.isSome then s.raise asLink 1024
  else if s.link.resetting then { s with link := { s.link with held := some f } }
  else s.takeFrame f

/-! ### Reception -/

/-- The receive record in HUNT with nothing gathered (R186). -/
def Link.hunt (l : Link) : Link := { l with phase := .hunt, len := 0#8, data := [], check := [], gap := none }

/-- R186: the frame in assembly is discarded for a reason. -/
def State.discard (s : State) (reason : Nat) : State := { s with link := s.link.hunt }.raise asLink (256 * reason)

/-- The gap timer restarted (R186). -/
def gapDue (now : Time) : Option Time := some (inMs now 4)

/-- R186: a byte in HUNT. -/
def State.rxHunt (s : State) (b : Byte) (framing : Bool) : State :=
  if b = syncByte ∧ framing = false then { s with link := { s.link.hunt with phase := .length, gap := gapDue s.now } } else s

/-- R186: a byte in LENGTH. -/
def State.rxLength (s : State) (b : Byte) : State :=
  if 1 ≤ b.toNat ∧ b.toNat ≤ 57 then
    { s with link := { s.link with phase := .data, len := b, gap := gapDue s.now } }
  else s.discard 2

/-- R186: a byte in DATA. -/
def State.rxData (s : State) (b : Byte) : State :=
  let data := s.link.data ++ [b]
  { s with
    link := { s.link with
      data := data, phase := if s.link.len.toNat ≤ data.length then .check else .data, gap := gapDue s.now } }

/-- R186, R187: a byte in CHECK; the second completes the frame. -/
def State.rxCheck (s : State) (b : Byte) : State :=
  match s.link.check with
  | [] => { s with link := { s.link with check := [b], gap := gapDue s.now } }
  | lo :: _ => { s with link := s.link.hunt }.frameComplete ⟨s.link.len, s.link.data, lo, b⟩

/-- R186: a received byte at the receive record. -/
def State.rxByte (s : State) (b : Byte) (framing : Bool) : State :=
  match s.link.phase with
  | .hunt => s.rxHunt b framing
  | .length => if framing then s.discard 5 else s.rxLength b
  | .data => if framing then s.discard 5 else s.rxData b
  | .check => if framing then s.discard 5 else s.rxCheck b

/-! ### The events -/

/-- LINK_BYTE_RECEIVED (R186 to R188); in INIT the receive record stays in HUNT (R184). -/
def execLinkByteReceived (byte : Byte) (framingError : Bool) (s : State) : Out :=
  s.own fun s => s.rxByte byte framingError

/-- GAP_TIMER_EXPIRY (R186). -/
def execGapTimerExpiry (s : State) : Out :=
  s.own fun s =>
    match s.link.gap with
    | none => s
    | some _ => s.discard 1

/-- R180, R187: the last byte of the reply has been sent; the reply to LINK_RESET is followed by the reset. -/
def State.endReply (s : State) : State :=
  let s' := { s with link := { s.link with busy := false, reply := none } }
  if s.link.resetDue then { s' with link := { s'.link with resetDue := false, resetting := true } }.hand .linkResetEffect
  else s'

/-- REPLY_END (R180, R187). -/
def execReplyEnd (s : State) : Out := s.own fun s => if s.link.reply.isSome then s.endReply else s

/-- HELD_FRAME_TAKEN (R180, R187): once every block has completed its link reset. -/
def execHeldFrameTaken (s : State) : Out :=
  s.take .heldFrameTaken fun s =>
    match s.link.held with
    | none => s
    | some f => if s.link.resetting then s else { s with link := { s.link with held := none } }.takeFrame f

end Sys2Proof.Machine
end

