-- ==== Sys2Proof/Machine/Assess.lean ====
section
/-! DEFINITION. Contamination Assessment (02): the five actions of an assessor on a channel report, the stages
of one sample, the requests and the link reset. -/

namespace Sys2Proof.Machine

/-- The rank of a level in CLEAR < ELEVATED < HIGH (R25); UNKNOWN stands outside the order. -/
def Level.rank : Level → Nat
  | .clear => 0
  | .elevated => 1
  | .high => 2
  | .unknown => 3

/-- A step of at least one toward the goal: the RHA quotient, forced to ±1 where it is 0 and the goal
differs (R35). -/
def stepToward (quotient : Int) (from_ goal : Nat) : Int :=
  if quotient = 0 then
    if from_ < goal then 1 else if goal < from_ then -1 else 0
  else quotient

/-- R35: the fast value after the fast filter stage on the sample `v`. -/
def fastFilter (alpha f v : Nat) : Nat :=
  ((f : Int) + stepToward (rha (((v : Int) - f) * alpha) 64) f v).toNat

/-- R35: the baseline after an update toward `f`, no higher than the ceiling. -/
def baselineUpdate (beta ceiling b f : Nat) : Nat :=
  let q := rha (((f : Int) - b) * beta) 256
  let step := if beta = 0 then q else stepToward q b f
  min ((b : Int) + step).toNat ceiling

/-- R31: the strength stage. -/
def Assessor.strength (a : Assessor) : Assessor := { a with s := a.f - a.b }

/-- R35: the fast filter stage. -/
def Assessor.filter (a : Assessor) (v : Nat) : Assessor := { a with f := fastFilter a.settings.alpha a.f v }

/-- R35: the interval stage. -/
def Assessor.intervalStage (a : Assessor) : Assessor :=
  if a.settings.n ≤ a.interval + 1 then
    { a with
      interval := 0
      b := if a.level = .clear then baselineUpdate a.settings.beta a.settings.ceiling a.b a.f else a.b }
  else { a with interval := a.interval + 1 }

/-- R32: the up-candidate. -/
def Assessor.upCandidate (a : Assessor) : Level :=
  if a.settings.high ≤ a.s ∨ a.settings.abs ≤ a.f then .high
  else if a.settings.low ≤ a.s then .elevated
  else .clear

/-- R32: the down-candidate, with the thresholds lowered by h. -/
def Assessor.downCandidate (a : Assessor) : Level :=
  let h : Int := a.settings.h
  if (a.settings.high : Int) - h ≤ a.s ∨ (a.settings.abs : Int) - h ≤ a.f then .high
  else if (a.settings.low : Int) - h ≤ a.s then .elevated
  else .clear

/-- R33: the persistence stage. -/
def Assessor.persist (a : Assessor) : Assessor :=
  let cu := a.upCandidate
  let cd := a.downCandidate
  if a.level.rank < cu.rank then
    if a.settings.p ≤ a.up + 1 then { a with level := cu, up := 0, down := 0 }
    else { a with up := a.up + 1, down := 0 }
  else if cd.rank < a.level.rank then
    if a.settings.d ≤ a.down + 1 then { a with level := cd, up := 0, down := 0 }
    else { a with up := 0, down := a.down + 1 }
  else { a with up := 0, down := 0 }

/-- R26: a sample to an initialised record. -/
def Assessor.process (a : Assessor) (v : Nat) : Assessor :=
  (((a.filter v).intervalStage).strength).persist

/-- R27: a sample to a record that is not initialised. -/
def Assessor.initialise (a : Assessor) (v : Nat) : Assessor :=
  (({ a with
      active := true, initialised := true, f := v, b := min v a.settings.ceiling, level := .clear
      up := 0, down := 0, interval := 0 } : Assessor).strength).persist

/-- R28: a held report. -/
def Assessor.pause (a : Assessor) : Assessor :=
  if a.active then a else { a with active := true, initialised := false, level := .clear }

/-- R29: a failed report. -/
def Assessor.fail (a : Assessor) : Assessor :=
  { a with active := true, initialised := false, level := .unknown, up := 0, down := 0 }

/-- R30: an absent report. -/
def Assessor.goInactive (a : Assessor) : Assessor :=
  { a with
    active := false, initialised := false, level := .clear, f := 0, b := 0, s := 0, up := 0, down := 0, interval := 0 }

/-- R26: a usable report is one sample, 0 where its value is negative. -/
def Assessor.sample (a : Assessor) (value : Int) : Assessor :=
  if a.active ∧ a.initialised then a.process value.toNat else a.initialise value.toNat

/-- The action of an assessor on a channel report (02, Channel reports at the assessor). -/
def Assessor.takeReport (a : Assessor) (status : Status) (value : Int) : Assessor :=
  match status with
  | .usable => a.sample value
  | .held => a.pause
  | .failed => a.fail
  | .absent => a.goInactive

/-- R38: new settings; a baseline above the new ceiling comes down to it, and the strength with it, in a record that is
not initialised too, as a FAILED channel leaves it (R29): assumption 42. -/
def Assessor.settle (a : Assessor) (set : AssessorSettings) : Assessor :=
  if set.ceiling < a.b then ({ a with settings := set, b := set.ceiling } : Assessor).strength
  else { a with settings := set }

/-- An assessor record replaced. -/
def State.putAssessor (s : State) (a : AssessorIx) (r : Assessor) : State := { s with asr := s.asr.set a r }

/-- ASSESSOR_CHANNEL_REPORT (R26 to R34): the action, and a level report where the level has changed. -/
def execAssessorChannelReport (a : AssessorIx) (status : Status) (value : Int) (s : State) : Out :=
  s.take (.assessorChannelReport a status value) fun s =>
    let before := s.asr[a]
    let after := before.takeReport status value
    let s' := s.putAssessor a after
    if after.level = before.level then s' else s'.hand (.admLevelReport a after.level)

/-- SET_ASSESS (R37, R38). -/
def execSetAssess (assessor alpha beta n : Byte) (ceiling low high abs h : Half) (p d : Byte) (s : State) : Out :=
  s.take (.setAssess assessor alpha beta n ceiling low high abs h p d) fun s =>
    match indexOf 3 assessor with
    | none => s.status .setAssess .range
    | some a =>
      let sent := assessorSettingsOf alpha beta n ceiling low high abs h p d
      if sent.inRange then
        (s.putAssessor a (s.asr[a].settle sent.clamp)).status .setAssess (clampStatus (sent.clamp != sent))
      else s.status .setAssess .range

/-- The code of a level in a reply (R39, R70). -/
def Level.code : Level → Nat
  | .clear => 0
  | .elevated => 1
  | .high => 2
  | .unknown => 3

/-- One entry of READ_ASSESS (R39). -/
def Assessor.bytes (a : Assessor) : List Byte :=
  [byteOfBool a.active, byteOfBool a.initialised, byteOf a.level.code] ++ halfBytes a.f ++ halfBytes a.b ++
    halfBytes a.s ++ [byteOf a.up, byteOf a.down, byteOf a.interval]

/-- READ_ASSESS (R39). -/
def execReadAssess (s : State) : Out :=
  s.take .readAssess fun s => s.answer .readAssess .ok (s.asr.toList.flatMap Assessor.bytes)

/-- The assessors in order. -/
def allAssessors : List AssessorIx := List.finRange 3

/-- R41: the records are kept; the settings return to their defaults where retain is clear. -/
def State.asrLinkReset (s : State) : State :=
  if s.part.retain then s
  else allAssessors.foldl (fun t a => t.putAssessor a (t.asr[a].settle (assessorDefaults a))) s

end Sys2Proof.Machine
end

