-- ==== Sys2Proof/Machine/Attention.lean ====
section
/-! DEFINITION. Attention and Fault Lines (09): COLLECT, CLEAR, ASSERT, SET_LEVELS and ATN's link reset. The
raise and the two lines stand in Ops. -/

namespace Sys2Proof.Machine

/-- The sources in table order (R168). -/
def allSources : List SourceIx := List.finRange 16

/-- R171, R172, R177: pending and count cleared, the detail kept. -/
def Source.clear (r : Source) : Source := { r with pending := false, count := 0 }

/-- R171: the pending source of the highest level, the earliest of those in table order. -/
def Atn.chosen (a : Atn) : Option SourceIx :=
  allSources.foldl
    (fun best i =>
      if a.sources[i].pending then
        match best with
        | none => some i
        | some j => if a.sources[j].level < a.sources[i].level then some i else some j
      else best)
    none

/-- COLLECT (R171, R192). -/
def execCollect (s : State) : Out :=
  s.take .collect fun s =>
    match s.atn.chosen with
    | none => s.answer .collect .ok ([255#8, 0#8, 0#8] ++ halfBytes 0)
    | some i =>
      let r := s.atn.sources[i]
      { s with atn := s.atn.update i Source.clear }.answer .collect .ok
        ([byteOf i.val, byteOf r.level, byteOf r.count] ++ halfBytes r.detail)

/-- R190: a mask names source n. -/
def named (mask : Half) (i : SourceIx) : Bool := mask.getLsbD i.val

/-- R172: the sources that a mask names are cleared, and the line judged. -/
def Atn.clearNamed (a : Atn) (mask : Half) : Atn :=
  ({ a with sources := tableOf 16 fun i => if named mask i then a.sources[i].clear else a.sources[i] } : Atn).judge

/-- CLEAR (R172). -/
def execClearSources (mask : Half) (s : State) : Out :=
  s.take (.clearSources mask) fun s => { s with atn := s.atn.clearNamed mask }.status .clear .ok

/-- R173: one raise with detail 0 for each source that a mask names, in table order. -/
def Atn.assertNamed (a : Atn) (mask : Half) : Atn :=
  (allSources.filter (named mask)).foldl (fun b i => b.raise i 0) a

/-- ASSERT (R173). -/
def execAssertSources (mask : Half) (s : State) : Out :=
  s.take (.assertSources mask) fun s => { s with atn := s.atn.assertNamed mask }.status .assertMask .ok

/-- R174: all sixteen levels replaced, and the line judged. -/
def Atn.setLevels (a : Atn) (levels : Vector Byte 16) : Atn :=
  ({ a with sources := tableOf 16 fun i => { a.sources[i] with level := levels[i].toNat } } : Atn).judge

/-- SET_LEVELS (R174). -/
def execSetLevels (levels : Vector Byte 16) (s : State) : Out :=
  s.take (.setLevels levels) fun s =>
    if levels.toList.any (fun b => decide (3 < b.toNat)) then s.status .setLevels .range
    else { s with atn := s.atn.setLevels levels }.status .setLevels .ok

/-- R177: pending and counts cleared, the levels at their defaults where retain is clear. -/
def Atn.linkCleared (a : Atn) (retain : Bool) : Atn :=
  { a with
    sources := tableOf 16 fun i =>
      { a.sources[i].clear with level := if retain then a.sources[i].level else levelDefault i } }

/-- R177: ATN's link reset, RESTART raised with detail LINK_RESET. -/
def State.atnLinkReset (s : State) : State := { s with atn := (s.atn.linkCleared s.part.retain).raise asRestart 768 }

end Sys2Proof.Machine
end

