-- ==== Sys2Proof/Machine/Flags.lean ====
section
/-! DEFINITION. The flags and lines that follow from the records: heat availability (R145), the level of every
output function as its owner holds it (R94, R124, R142, R146), the dedicated outputs ATTN, FAULT and LTX (R170, R175, R184) and
the level at every pin (R158, R165). -/

namespace Sys2Proof.Machine

/-- R142: the coolant is usable. -/
def Heu.coolantUsable (h : Heu) : Bool := decide (h.cltStatus = .usable)

/-- R145: heat is available. -/
def Heu.heatAvailable (h : Heu) : Bool :=
  h.valveOpen && h.coolantUsable && decide ((h.settings.coolantMin : Int) ≤ h.clt)

/-- R146: AUX_RUN is asserted exactly in PRESTART and RUNNING. -/
def Heater.auxRun (h : Heater) : Bool := decide (h.state = .prestart ∨ h.state = .running)

/-- The level of an output function as its owner holds it; `moving` where the rules do not state the level at
one moment (a PWM output between duty 0 and 100, a STEP output of a stepping lane, a DIR output in a reversal
settle). -/
inductive Line where
  | asserted
  | negated
  | moving
  deriving DecidableEq, Repr

/-- The line of a flag. -/
def Line.ofBool (b : Bool) : Line := if b then .asserted else .negated

/-- The damper that holds a lane (R94). -/
def Ddr.holderOf (r : Ddr) (l : LaneIx) : Option Damper := r.lanes[l].holder.map fun d => r.dampers[d]

/-- R94: the STEP output of a lane. -/
def Ddr.stepLine (r : Ddr) (l : LaneIx) : Line :=
  match r.holderOf l with
  | none => .negated
  | some c => if c.state = .settling then .negated else .moving

/-- R94: the DIR output of a lane, asserted while its holder steps toward larger positions. -/
def Ddr.dirLine (r : Ddr) (l : LaneIx) : Line :=
  match r.holderOf l with
  | none => .negated
  | some c =>
    if c.state = .settling then .moving
    else if c.state = .homing ∨ c.overtravel then Line.ofBool c.settings.homeOpen
    else Line.ofBool (decide (c.position.getD 0 < c.target.getD 0))

/-- R124: the PWM output of a mover. -/
def Mover.pwmLine (m : Mover) : Line :=
  if m.duty = 0 then .negated else if m.duty = 100 then .asserted else .moving

/-- R165: the level of an output function as its owner holds it. -/
def State.line (s : State) (f : Func) : Line :=
  match f with
  | .sel d => Line.ofBool s.ddr.dampers[d].lane.isSome
  | .step l => s.ddr.stepLine l
  | .dir l => s.ddr.dirLine l
  | .hvOpen => Line.ofBool s.heu.valveOpen
  | .auxRun => Line.ofBool s.heu.heater.auxRun
  | .pwm m => s.mov.movers[m].pwmLine
  | .sc _ | .home _ | .door _ | .laneFlt _ | .sealReq | .auxFlame | .tach _ => .negated

/-- What a terminal's pin or a dedicated output is driven to (R165, R170, R175). -/
inductive Drive where
  | high
  | low
  | released
  deriving DecidableEq, Repr

/-- R170, R175: a dedicated output is driven low while asserted and released while negated; in INIT it is
released. -/
def State.dedicatedDrive (s : State) (asserted : Bool) : Drive :=
  if asserted && !s.inInit then .low else .released

/-- R170: the drive of the ATTN output. -/
def State.attnDrive (s : State) : Drive := s.dedicatedDrive s.atn.attn

/-- R175: the drive of the FAULT output. -/
def State.faultDrive (s : State) : Drive := s.dedicatedDrive s.atn.fault

/-- R184: the levels of one byte on the line, a bit time each: the start bit low, the data bits from the least significant
on, no parity, the stop bit high. -/
def lineBits (b : Byte) : List Bool := false :: (List.finRange 8).map (fun i => b.getLsb i) ++ [true]

/-- R184: the levels that LTX takes through the reply in progress, its bytes back to back; none where none is in
progress. -/
def State.ltxBits (s : State) : List Bool := (s.sending.getD []).flatMap lineBits

/-- R184: the drive of LTX, high while no reply is in progress, as from a hardware reset on. Within a reply it is that of the
bit being sent, which the model does not time and takes as `bit`: assumption 39. -/
def State.ltxDrive (s : State) (bit : Bool) : Drive := if s.sending.isSome && !bit then .low else .high

/-- R165: the drive of a bound output at an asserted or negated level. -/
def Terminal.driveOf (t : Terminal) (asserted : Bool) : Drive :=
  if asserted != t.invert then (if t.openDrain then .released else .high) else .low

/-- R165: the drive of a terminal, with the level `moving` taken as `bit`. -/
def State.pinDrive (s : State) (t : TerminalIx) (bit : Bool) : Drive :=
  let e := s.trm.entries[t]
  match e.func with
  | none => .released
  | some f =>
    if f.isOutput then
      match s.line f with
      | .asserted => e.driveOf true
      | .negated => e.driveOf false
      | .moving => e.driveOf bit
    else .released

/-- R158, R166: the pin level, the level that the part drives or, where it drives none, the level at the pin. -/
def State.pinLevel (s : State) (t : TerminalIx) (bit : Bool) : Bool :=
  match s.pinDrive t bit with
  | .high => true
  | .low => false
  | .released => s.trm.entries[t].level

/-- The level at a terminal's pin is one that the rules do not state (assumption 9). -/
def State.pinUnstated (s : State) (t : TerminalIx) : Bool :=
  match s.trm.entries[t].func with
  | none => false
  | some f => f.isOutput && decide (s.line f = .moving)

end Sys2Proof.Machine
end

