-- ==== Sys2Proof/Machine/Sensors.lean ====
section
/-! DEFINITION. Sensor Channels (01): the sample, the channel states, the override slots, their requests and
what a link reset does at SNS. -/

namespace Sys2Proof.Machine

/-! ### One channel -/

/-- R13: the status under which consumers see a channel. -/
def ChannelState.status : ChannelState → Status
  | .valid | .forced => .usable
  | .held => .held
  | .failed => .failed
  | .absent | .warming => .absent

/-- R5: offset plus floor(raw × gain / 4096), saturated. -/
def scaledSample (c : ChannelSettings) (raw : Nat) : Int :=
  clampInt (-32768) 32767 (c.offset + ((raw * c.gain / 4096 : Nat) : Int))

/-- R6: within the open-short window and within the channel's range. -/
def plausible (c : ChannelSettings) (raw : Nat) (v : Int) : Bool :=
  decide (16 ≤ raw) && decide (raw ≤ 4079) && decide (c.low ≤ v) && decide (v ≤ c.high)

/-- R9, R10, R11: VALID on a plausible sample, with the hold timer stopped. -/
def Channel.toValid (c : Channel) (v : Int) : Channel :=
  { c with state := .valid, value := v, lastGood := some v, hold := none }

/-- R8: a sample while the warm-up timer runs. -/
def Channel.sampleWarming (c : Channel) (v : Int) (good : Bool) : Channel :=
  { c with value := v, lastGood := if good then some v else c.lastGood }

/-- R9: a sample in WARMING after warm-up. -/
def Channel.sampleWarm (c : Channel) (now : Time) (v : Int) (good : Bool) : Channel :=
  if good then c.toValid v
  else { c with value := v, hold := startIfStopped c.hold (inMs now c.settings.hold) }

/-- R10: a sample in VALID. -/
def Channel.sampleValid (c : Channel) (now : Time) (v : Int) (good : Bool) : Channel :=
  if good then c.toValid v
  else { c with state := .held, value := c.lastGood.getD c.value, hold := some (inMs now c.settings.hold) }

/-- R11: a sample in HELD. -/
def Channel.sampleHeld (c : Channel) (v : Int) (good : Bool) : Channel :=
  if good then c.toValid v else c

/-- R12: a sample in FAILED. -/
def Channel.sampleFailed (c : Channel) (v : Int) (good : Bool) : Channel :=
  if good then
    if c.settings.recovery ≤ c.recovery + 1 then { c.toValid v with recovery := 0 }
    else { c with recovery := c.recovery + 1, lastGood := some v }
  else { c with recovery := 0 }

/-- R4: one sample arrival at a bound channel, handled by the channel's state. -/
def Channel.sample (c : Channel) (now : Time) (raw : Nat) : Channel :=
  let v := scaledSample c.settings raw
  let good := plausible c.settings raw v
  let c := { c with raw := raw }
  match c.state with
  | .absent => c
  | .warming =>
    match c.warmUp with
    | .running _ => c.sampleWarming v good
    | .stopped | .expired => c.sampleWarm now v good
  | .valid => c.sampleValid now v good
  | .held => c.sampleHeld v good
  | .failed => c.sampleFailed v good
  | .forced => c

/-- R7: binding. A warm-up time of 0 starts the timer already expired. -/
def Channel.bind (c : Channel) (now : Time) : Channel :=
  { c with
    state := .warming, value := 0, lastGood := none, hold := none, recovery := 0
    warmUp := if c.settings.warmUp = 0 then .expired else .running (inSec now c.settings.warmUp) }

/-- R7: unbinding. -/
def Channel.unbind (c : Channel) : Channel :=
  { c with
    state := .absent, value := 0, lastGood := none, hold := none, recovery := 0, warmUp := .stopped, slot := none }

/-- R12: entry to FAILED. -/
def Channel.fail (c : Channel) : Channel :=
  { c with state := .failed, value := c.settings.failsafe, hold := none, recovery := 0 }

/-- R16: a channel is forced by a slot. -/
def Channel.force (c : Channel) (slot : SlotIx) (v : Int) : Channel :=
  { c with
    state := .forced, value := v, warmUp := .stopped, hold := none, recovery := 0, slot := some slot }

/-- R18: a forced channel that stays bound is released into HELD. -/
def Channel.release (c : Channel) (now : Time) (v : Int) : Channel :=
  { c with
    state := .held, value := v, lastGood := some v, hold := some (inMs now c.settings.hold), slot := none }

/-- R20: new settings; a FAILED channel takes a new failsafe value at once. -/
def Channel.settle (c : Channel) (set : ChannelSettings) : Channel :=
  if c.state = .failed then { c with settings := set, value := set.failsafe } else { c with settings := set }

/-! ### Channels in the part -/

/-- A channel record. -/
def State.channel (s : State) (ch : ChannelIx) : Channel := s.sns.channels[ch]

/-- A channel record replaced. -/
def State.putChannel (s : State) (ch : ChannelIx) (c : Channel) : State :=
  { s with sns := { s.sns with channels := s.sns.channels.set ch c } }

/-- An override slot replaced. -/
def State.putSlot (s : State) (i : SlotIx) (o : Option Override) : State :=
  { s with sns := { s.sns with slots := s.sns.slots.set i o } }

/-- The status of a channel as it stands (R13). -/
def State.channelStatus (s : State) (ch : ChannelIx) : Status := (s.channel ch).state.status

/-- R2, R14: the event that a channel's report is at its consumer; ZON takes no reports. -/
def reportEvent (ch : ChannelIx) (st : Status) (v : Int) : Option Instr :=
  match ch.val with
  | 0 => some (.oatReport st v)
  | 1 => some (.cltReport st v)
  | 8 => some (.assessorChannelReport 0 st v)
  | 9 => some (.assessorChannelReport 1 st v)
  | 10 => some (.assessorChannelReport 2 st v)
  | 13 => some (.cpdReport st v)
  | 14 => some (.fpdReport st v)
  | _ => none

/-- R14: SNS hands a channel report with the status and the value after the event. -/
def State.report (s : State) (ch : ChannelIx) : State :=
  match reportEvent ch (s.channelStatus ch) (s.channel ch).value with
  | none => s
  | some e => s.hand e

/-- R7: the binding of a sensor function, taken by SNS. -/
def State.bindChannel (s : State) (ch : ChannelIx) : State :=
  (s.putChannel ch ((s.channel ch).bind s.now)).report ch

/-- R7: the unbinding of a sensor function; a slot that names the channel is emptied. -/
def State.unbindChannel (s : State) (ch : ChannelIx) : State :=
  let s' := match (s.channel ch).slot with
    | none => s
    | some i => s.putSlot i none
  (s'.putChannel ch (s.channel ch).unbind).report ch

/-- R18: what a slot forces is released and the slot emptied; an empty slot changes nothing. -/
def State.releaseSlot (s : State) (i : SlotIx) : State :=
  match s.sns.slots[i] with
  | none => s
  | some o =>
    ((s.putSlot i none).putChannel o.channel ((s.channel o.channel).release s.now o.value)).report o.channel

/-- R16: an accepted SET_OVERRIDE. -/
def State.force (s : State) (i : SlotIx) (ch : ChannelIx) (v : Int) : State :=
  let s' := match s.sns.slots[i] with
    | none => s
    | some o => if o.channel = ch then s else s.releaseSlot i
  ((s'.putSlot i (some ⟨ch, v⟩)).putChannel ch ((s'.channel ch).force i v)).report ch

/-- R20: new settings reach a channel; a FAILED channel whose failsafe value changes hands a report (R14). -/
def State.settleChannel (s : State) (ch : ChannelIx) (set : ChannelSettings) : State :=
  let c := s.channel ch
  let s' := s.putChannel ch (c.settle set)
  if c.state = .failed ∧ c.settings.failsafe ≠ set.failsafe then s'.report ch else s'

/-! ### The events -/

/-- SAMPLE_ARRIVAL (R4): an ABSENT channel takes no samples. -/
def execSampleArrival (ch : ChannelIx) (raw : BitVec 12) (s : State) : Out :=
  s.own fun s =>
    if (s.channel ch).state = .absent then s
    else (s.putChannel ch ((s.channel ch).sample s.now raw.toNat)).report ch

/-- WARM_UP_EXPIRY (R8): the channel stays WARMING with the timer expired; no report. -/
def execWarmUpExpiry (ch : ChannelIx) (s : State) : Out :=
  s.own fun s =>
    match (s.channel ch).warmUp with
    | .running _ => s.putChannel ch { s.channel ch with warmUp := .expired }
    | .stopped | .expired => s

/-- CHANNEL_HOLD_EXPIRY (R9, R11, R12): FAILED, SENSOR raised with the reason, a failed report. -/
def execChannelHoldExpiry (ch : ChannelIx) (s : State) : Out :=
  s.own fun s =>
    let c := s.channel ch
    match c.hold with
    | none => s
    | some _ =>
      let reason := if c.state = .held then 1 else 2
      ((s.putChannel ch c.fail).raise asSensor (ch.val + 256 * reason)).report ch

/-! ### The requests -/

/-- SET_CHANNEL (R19, R20). -/
def execSetChannel (channel : Byte) (gain offset low high warmUp hold failsafe : Half) (recovery : Byte)
    (s : State) : Out :=
  s.take (.setChannel channel gain offset low high warmUp hold failsafe recovery) fun s =>
    if s.inRun then s.status .setChannel .state
    else match indexOf 15 channel with
      | none => s.status .setChannel .range
      | some ch =>
        let sent := channelSettingsOf gain offset low high warmUp hold failsafe recovery
        if sent.refusable then s.status .setChannel .range
        else (s.settleChannel ch sent.clamp).status .setChannel (clampStatus (sent.clamp != sent))

/-- The code of a channel state (R192). -/
def ChannelState.code : ChannelState → Nat
  | .absent => 0
  | .warming => 1
  | .valid => 2
  | .held => 3
  | .failed => 4
  | .forced => 5

/-- READ_CHANNELS (R21, R192). -/
def execReadChannels (s : State) : Out :=
  s.take .readChannels fun s =>
    s.answer .readChannels .ok
      (s.sns.channels.toList.flatMap fun c => byteOf c.state.code :: halfBytesInt c.value)

/-- SET_OVERRIDE (R16). -/
def execSetOverride (slot channel : Byte) (value : Half) (s : State) : Out :=
  s.take (.setOverride slot channel value) fun s =>
    match indexOf 4 slot, indexOf 15 channel with
    | some i, some ch =>
      let c := s.channel ch
      if c.state = .absent then s.status .setOverride .notBound
      else if c.slot ≠ none ∧ c.slot ≠ some i then s.status .setOverride .duplicate
      else (s.force i ch value.toInt).status .setOverride .ok
    | _, _ => s.status .setOverride .range

/-- CLEAR_OVERRIDE (R18). -/
def execClearOverride (slot : Byte) (s : State) : Out :=
  s.take (.clearOverride slot) fun s =>
    match indexOf 4 slot with
    | none => s.status .clearOverride .range
    | some i => (s.releaseSlot i).status .clearOverride .ok

/-! ### Link reset -/

/-- The channels in index order. -/
def allChannels : List ChannelIx := List.finRange 15

/-- The override slots in index order. -/
def allSlots : List SlotIx := List.finRange 4

/-- R23: settings to their defaults where retain is clear, then every override released. -/
def State.snsLinkReset (s : State) : State :=
  let s' := if s.part.retain then s
    else allChannels.foldl (fun t ch => t.settleChannel ch (channelDefaults ch)) s
  allSlots.foldl (fun t i => t.releaseSlot i) s'

end Sys2Proof.Machine
end

