-- ==== Sys2Proof/Machine/Heat.lean ====
section
/-! DEFINITION. Heat Sources (07): the coolant valve, the auxiliary heater, the requests, entry to RUN and
leaving it. At an event that reaches both, the valve is judged before the heater (R142). -/

namespace Sys2Proof.Machine

/-! ### The coolant valve -/

/-- R143, R144: the valve closes, its hold timer stopped. -/
def Heu.closeValve (h : Heu) : Heu := { h with valveOpen := false, valveHold := .stopped }

/-- R144: the coolant is usable and below the closing level. -/
def Heu.coolantLow (h : Heu) : Bool := h.coolantUsable && decide (h.clt < (h.settings.coolantMin : Int) - 50)

/-- R143: what opens a CLOSED valve. -/
def Heu.valveWanted (h : Heu) : Bool :=
  decide (0 < h.demand) && h.coolantUsable && decide ((h.settings.coolantMin : Int) ≤ h.clt)

/-- R144: an OPEN valve that finds no demand. -/
def Heu.valveIdle (h : Heu) (now : Time) : Heu :=
  match h.valveHold with
  | .stopped => { h with valveHold := .running (inSec now h.settings.valveHold) }
  | .running _ => h
  | .expired => if h.coolantUsable then h.closeValve else h

/-- R143, R144: a judgement of the valve in RUN. -/
def Heu.judgeValve (h : Heu) (now : Time) : Heu :=
  if h.valveOpen then
    if h.coolantLow then h.closeValve
    else if h.demand = 0 then h.valveIdle now
    else { h with valveHold := .stopped }
  else if h.valveWanted then { h with valveOpen := true, valveHold := .stopped }
  else h

/-! ### The heater -/

/-- R147: the aux demand holds. -/
def Heu.auxWanted (h : Heu) (inRun : Bool) : Bool :=
  inRun && !h.heater.inhibit && h.coolantUsable && decide (h.settings.auxStart ≤ h.demand) &&
    decide (h.clt < h.settings.coolantMin)

/-- R147, R150: PRESTART is entered, one attempt more. -/
def Heu.prestart (h : Heu) (now : Time) : Heu :=
  { h with
    heater := { h.heater with
      state := .prestart, attempts := h.heater.attempts + 1, ignition := some (inSec now h.settings.ignition) } }

/-- R148, R149, R152, R156: COOLDOWN is entered, the timers of PRESTART and RUNNING stopped. -/
def Heu.coolDown (h : Heu) (now : Time) (restart : Bool) : Heu :=
  { h with
    heater := { h.heater with
      state := .cooldown, restart := restart, ignition := none, coolantRelease := none, demandRelease := none
      cooldown := some (inSec now h.settings.cooldown) } }

/-- R147: a judgement of the aux demand. -/
def Heu.judgeAux (h : Heu) (now : Time) (inRun : Bool) : Heu :=
  let holds := h.auxWanted inRun
  let h := { h with heater := { h.heater with auxDemand := holds } }
  if holds then
    match h.heater.state with
    | .off => h.prestart now
    | .cooldown => { h with heater := { h.heater with restart := true } }
    | .prestart | .running | .locked => h
  else h

/-- R149: a judgement of the release timers; they run only in RUNNING. -/
def Heu.judgeRelease (h : Heu) (now : Time) : Heu :=
  if h.heater.state = .running then
    let due := inSec now h.settings.releaseHold
    { h with
      heater := { h.heater with
        coolantRelease :=
          if h.coolantUsable ∧ (h.settings.coolantTarget : Int) ≤ h.clt then startIfStopped h.heater.coolantRelease due
          else none
        demandRelease := if h.demand ≤ h.settings.release then startIfStopped h.heater.demandRelease due else none } }
  else h

/-- R142: every judgement of an event that reaches valve and heater; outside RUN the valve is not judged. -/
def Heu.judge (h : Heu) (now : Time) (inRun : Bool) : Heu :=
  ((if inRun then h.judgeValve now else h).judgeAux now inRun).judgeRelease now

/-- R148, R149: AUX_FLAME as taken, and whether the flame is lost. An event acts by the level that it carries, where
that is no change too: assumption 45. -/
def Heu.takeFlame (h : Heu) (now : Time) (asserted : Bool) : Heu × Bool :=
  let h := { h with heater := { h.heater with flame := asserted } }
  match h.heater.state, asserted with
  | .prestart, true =>
    (({ h with heater := { h.heater with state := .running, attempts := 0, ignition := none } } : Heu).judgeRelease now,
      false)
  | .running, false => (h.coolDown now true, true)
  | _, _ => (h, false)

/-- R150: the cooldown expiry, and whether the heater locks. -/
def Heu.cooldownEnd (h : Heu) (now : Time) (inRun : Bool) : Heu × Bool :=
  let h := h.judgeAux now inRun
  let wanted := h.heater.restart && h.heater.auxDemand
  let h := { h with heater := { h.heater with cooldown := none, restart := false } }
  if 2 ≤ h.heater.attempts then ({ h with heater := { h.heater with state := .locked } }, true)
  else if wanted then (h.prestart now, false)
  else ({ h with heater := { h.heater with state := .off } }, false)

/-- R152: inhibit set, by the heater state. -/
def Heu.setInhibit (h : Heu) (now : Time) : Heu :=
  let h := { h with heater := { h.heater with inhibit := true } }
  match h.heater.state with
  | .prestart | .running => h.coolDown now false
  | .cooldown => { h with heater := { h.heater with restart := false } }
  | .off | .locked => h

/-! ### HEU in the part -/

/-- HEU replaced. -/
def State.putHeu (s : State) (h : Heu) : State := { s with heu := h }

/-- HEU judged as it stands (R142). -/
def State.heuJudge (s : State) : State := s.putHeu (s.heu.judge s.now s.inRun)

/-- R148, R149: a debounced change of AUX_FLAME. -/
def State.flameEffect (s : State) (asserted : Bool) : State :=
  let (h, lost) := s.heu.takeFlame s.now asserted
  if lost then (s.putHeu h).raise asHeater 512 else s.putHeu h

/-- R155: HEU's entry to RUN. -/
def State.heuEnterRun (s : State) : State :=
  let h := { s.heu with demand := s.zon.out.heat, cltStatus := s.channelStatus 1, clt := (s.channel 1).value }
  s.putHeu ((h.judgeValve s.now).judgeAux s.now s.inRun)

/-- R156: what leaving RUN and link reset do to the records. -/
def Heu.leave (h : Heu) (now : Time) : Heu :=
  let h := { h.closeValve with demand := 0, heater := { h.heater with auxDemand := false, restart := false } }
  match h.heater.state with
  | .prestart | .running => h.coolDown now false
  | .off | .cooldown | .locked => h

/-- R156: HEU leaves RUN. -/
def State.heuLeaveRun (s : State) : State := s.putHeu (s.heu.leave s.now)

/-- R156: HEU's link reset; the settings first return to their defaults where retain is clear. -/
def State.heuLinkReset (s : State) : State :=
  (if s.part.retain then s else s.putHeu { s.heu with settings := heatDefaults }).heuLeaveRun

/-! ### The events -/

/-- HEAT_DEMAND_CHANGE (R142). -/
def execHeatDemandChange (percent : Nat) (s : State) : Out :=
  s.take (.heatDemandChange percent) fun s => (s.putHeu { s.heu with demand := percent }).heuJudge

/-- CLT_REPORT (R142). -/
def execCltReport (status : Status) (value : Int) (s : State) : Out :=
  s.take (.cltReport status value) fun s => (s.putHeu { s.heu with cltStatus := status, clt := value }).heuJudge

/-- AUX_FLAME_CHANGE (R148, R149, R150). -/
def execAuxFlameChange (asserted : Bool) (s : State) : Out :=
  s.take (.auxFlameChange asserted) fun s => s.flameEffect asserted

/-- VALVE_HOLD_TIMER_EXPIRY (R144). -/
def execValveHoldTimerExpiry (s : State) : Out :=
  s.own fun s =>
    match s.heu.valveHold with
    | .running _ =>
      s.putHeu (if s.heu.coolantUsable then s.heu.closeValve else { s.heu with valveHold := .expired })
    | .stopped | .expired => s

/-- IGNITION_TIMER_EXPIRY (R148): NO_FLAME. -/
def execIgnitionTimerExpiry (s : State) : Out :=
  s.own fun s =>
    match s.heu.heater.ignition with
    | none => s
    | some _ => (s.putHeu (s.heu.coolDown s.now false)).raise asHeater 256

/-- COOLDOWN_TIMER_EXPIRY (R150). -/
def execCooldownTimerExpiry (s : State) : Out :=
  s.own fun s =>
    match s.heu.heater.cooldown with
    | none => s
    | some _ =>
      let (h, locked) := s.heu.cooldownEnd s.now s.inRun
      if locked then (s.putHeu h).raise asHeater 768 else s.putHeu h

/-- COOLANT_RELEASE_EXPIRY (R149): released. -/
def execCoolantReleaseExpiry (s : State) : Out :=
  s.own fun s =>
    match s.heu.heater.coolantRelease with
    | none => s
    | some _ => s.putHeu (s.heu.coolDown s.now false)

/-- DEMAND_RELEASE_EXPIRY (R149): released. -/
def execDemandReleaseExpiry (s : State) : Out :=
  s.own fun s =>
    match s.heu.heater.demandRelease with
    | none => s
    | some _ => s.putHeu (s.heu.coolDown s.now false)

/-! ### The requests -/

/-- SET_HEAT (R153). -/
def execSetHeat (coolantMin valveHold : Half) (auxStart release : Byte)
    (coolantTarget releaseHold ignition cooldown : Half) (s : State) : Out :=
  s.take (.setHeat coolantMin valveHold auxStart release coolantTarget releaseHold ignition cooldown) fun s =>
    let sent := heatSettingsOf coolantMin valveHold auxStart release coolantTarget releaseHold ignition cooldown
    if sent.clamp.refusable then s.status .setHeat .range
    else ((s.putHeu { s.heu with settings := sent.clamp }).heuJudge).status .setHeat (clampStatus (sent.clamp != sent))

/-- R152: a change of inhibit. -/
def State.changeInhibit (s : State) (flag : Bool) : State :=
  if flag = s.heu.heater.inhibit then s
  else if flag then s.putHeu ((s.heu.setInhibit s.now).judgeAux s.now s.inRun)
  else s.putHeu (({ s.heu with heater := { s.heu.heater with inhibit := false } } : Heu).judgeAux s.now s.inRun)

/-- AUX_INHIBIT (R152). -/
def execAuxInhibit (flag : Byte) (s : State) : Out :=
  s.take (.auxInhibit flag) fun s =>
    if 1 < flag.toNat then s.status .auxInhibit .range
    else (s.changeInhibit (flag == 1#8)).status .auxInhibit .ok

/-- AUX_CLEAR_LOCK (R151). -/
def execAuxClearLock (s : State) : Out :=
  s.take .auxClearLock fun s =>
    if s.heu.heater.state = .locked then
      (s.putHeu (({ s.heu with heater := { s.heu.heater with state := .off, attempts := 0, restart := false } } : Heu).judgeAux
        s.now s.inRun)).status .auxClearLock .ok
    else s.status .auxClearLock .state

/-- The code of a coolant status (R154). -/
def Status.code : Status → Nat
  | .usable => 0
  | .held => 1
  | .failed => 2
  | .absent => 3

/-- The code of a heater state (R154). -/
def HeaterState.code : HeaterState → Nat
  | .off => 0
  | .prestart => 1
  | .running => 2
  | .cooldown => 3
  | .locked => 4

/-- R154: the heater timer that READ_HEAT shows. -/
def Heater.shownTimer (h : Heater) (now : Time) : Time :=
  match h.state with
  | .prestart => timeLeft now h.ignition
  | .cooldown => timeLeft now h.cooldown
  | .off | .running | .locked => 0

/-- The time left on a kept timer, 0 where it is stopped or expired (R154). -/
def KeptTimer.left (now : Time) : KeptTimer → Time
  | .running due => due - now
  | .stopped | .expired => 0

/-- The reply data of READ_HEAT (R154). -/
def Heu.bytes (h : Heu) (now : Time) : List Byte :=
  [byteOfBool h.valveOpen] ++ halfBytes (tenths (h.valveHold.left now)) ++
  [byteOfBool (decide (h.valveHold = .expired)), byteOfBool h.heatAvailable, byteOf h.demand, byteOf h.cltStatus.code] ++
  halfBytesInt h.clt ++
  [byteOf h.heater.state.code, byteOf h.heater.attempts, byteOfBool h.heater.restart, byteOfBool h.heater.inhibit,
    byteOfBool h.heater.auxDemand, byteOfBool h.heater.flame] ++
  halfBytes (tenths (h.heater.shownTimer now)) ++ halfBytes (tenths (timeLeft now h.heater.coolantRelease)) ++
  halfBytes (tenths (timeLeft now h.heater.demandRelease))

/-- READ_HEAT (R154). -/
def execReadHeat (s : State) : Out := s.take .readHeat fun s => s.answer .readHeat .ok (s.heu.bytes s.now)

end Sys2Proof.Machine
end

