-- ==== Sys2Proof/Machine/Drive.lean ====
section
/-! DEFINITION. Damper Drive (05): the dampers, the lanes, the move queue and its arbiter, homing, slip, jams and
lane faults, presence, the requests, and leaving RUN. An event at DDR works on a `Work`, which keeps beside the
records what the event has to report once it is complete (R110). -/

namespace Sys2Proof.Machine

/-! ### Settings and conversions -/

/-- R93: an ordered percent in steps. -/
def toSteps (span percent : Nat) : Nat := (percent * span + 50) / 100

/-- R93: a step count in percent, rounded half up. -/
def toPercent (span n : Nat) : Nat := (n * 200 + span) / (2 * span)

/-- The distance between two step counts (R93). -/
def stepDistance (m n : Nat) : Nat := (m - n) + (n - m)

/-- R93: within the deadband of 8 steps. -/
def withinDeadband (m n : Nat) : Bool := decide (stepDistance m n ≤ 8)

/-- R93: the home position, 0 for a home end CLOSED and span for OPEN. -/
def Damper.homePosition (c : Damper) : Nat := if c.settings.homeOpen then c.settings.span else 0

/-- R95: the time of one step in microseconds, rounded down: assumption 13. -/
def Damper.period (c : Damper) : Time := 1000000 / c.settings.rate

/-- The damper steps toward larger positions: toward the home end in a search (R104, R106), else toward its
target. -/
def Damper.stepsUp (c : Damper) : Bool :=
  if c.state = .homing ∨ c.overtravel then c.settings.homeOpen
  else decide (c.position.getD 0 < c.target.getD 0)

/-- R91: homed when its position is known. -/
def Damper.homed (c : Damper) : Bool := c.position.isSome

/-! ### The records an event works on -/

/-- A damper or a lane. -/
inductive DriveUnit where
  | damper (d : DamperIx)
  | lane (l : LaneIx)
  deriving DecidableEq, Repr

/-- DDR's records in the middle of an event: with the clock, the units whose state has changed, and the
attention to raise. -/
structure Work where
  ddr : Ddr
  now : Time
  free : Nat
  changed : List DriveUnit
  alarms : List (SourceIx × Nat)
  deriving DecidableEq, Repr

/-- A damper record. -/
def Work.damper (w : Work) (d : DamperIx) : Damper := w.ddr.dampers[d]

/-- A lane record. -/
def Work.lane (w : Work) (l : LaneIx) : Lane := w.ddr.lanes[l]

/-- A damper record replaced; a change of its state is noted for R110. -/
def Work.putDamper (w : Work) (d : DamperIx) (c : Damper) : Work :=
  { w with
    ddr := { w.ddr with dampers := w.ddr.dampers.set d c }
    changed := if c.state = (w.damper d).state then w.changed else w.changed ++ [.damper d] }

/-- A lane record replaced; a change of its state is noted for R110. -/
def Work.putLane (w : Work) (l : LaneIx) (r : Lane) : Work :=
  { w with
    ddr := { w.ddr with lanes := w.ddr.lanes.set l r }
    changed := if r.state = (w.lane l).state then w.changed else w.changed ++ [.lane l] }

/-- The queue replaced. -/
def Work.putQueue (w : Work) (q : List QueuedOrder) : Work := { w with ddr := { w.ddr with queue := q } }

/-- An attention to raise. -/
def Work.alarm (w : Work) (i : SourceIx) (detail : Nat) : Work := { w with alarms := w.alarms ++ [(i, detail)] }

/-! ### The move queue -/

/-- R96: the grant order, SAFETY before NORMAL, each by rising sequence number. -/
def QueuedOrder.before (a b : QueuedOrder) : Bool :=
  if a.cls = b.cls then decide (a.seq < b.seq) else decide (a.cls = .safety)

/-- An order put in its place in the grant order (R96). -/
def insertOrder (o : QueuedOrder) : List QueuedOrder → List QueuedOrder
  | [] => [o]
  | x :: xs => if o.before x then o :: x :: xs else x :: insertOrder o xs

/-- The order of a damper in the queue (R96). -/
def Ddr.queuedOrder (r : Ddr) (d : DamperIx) : Option QueuedOrder := r.queue.find? fun o => o.damper = d

/-- A damper's order leaves the queue (R96). -/
def Work.unqueue (w : Work) (d : DamperIx) : Work := w.putQueue (w.ddr.queue.filter fun o => o.damper ≠ d)

/-- An order enters the queue with the number it has. -/
def Work.enqueue (w : Work) (o : QueuedOrder) : Work := w.putQueue (insertOrder o w.ddr.queue)

/-- An order of the queue changed in place; its place follows from its class and number (R96). -/
def Work.requeue (w : Work) (o : QueuedOrder) : Work := (w.unqueue o.damper).enqueue o

/-- R96: the counter moves to the next sequence number. -/
def Work.advanceSeq (w : Work) : Work :=
  if w.ddr.seq + 1 < 4294967296 then { w with ddr := { w.ddr with seq := w.ddr.seq + 1 } }
  else { w with ddr := { w.ddr with seq := (Config.freeSequence w.free).toNat }, free := w.free + 1 }

/-- An order that enters the queue for the first time takes the next sequence number (R96). -/
def Work.enqueueNew (w : Work) (d : DamperIx) (goal : Goal) (cls : OrderClass) (source : OrderSource) : Work :=
  (w.enqueue ⟨d, goal, cls, source, w.ddr.seq⟩).advanceSeq

/-- R99, R100: a class is raised to SAFETY and not lowered. -/
def OrderClass.raisedBy (old new : OrderClass) : OrderClass := if new = .safety then .safety else old

/-- R100: the order in hand takes a new order's source, and its class where that is SAFETY. -/
def OrderInHand.supersede (o : OrderInHand) (cls : OrderClass) (source : OrderSource) : OrderInHand :=
  { o with cls := o.cls.raisedBy cls, source := source }

/-! ### Lanes, arrival and settle -/

/-- The lane a damper holds becomes FREE with no holder (R103). -/
def Work.freeLaneOf (w : Work) (d : DamperIx) : Work :=
  match (w.damper d).lane with
  | none => w
  | some l => w.putLane l { w.lane l with state := .free, holder := none }

/-- R98: an order to an IDLE damper, its target in steps. -/
def Work.takeIdle (w : Work) (d : DamperIx) (t : Nat) (cls : OrderClass) (source : OrderSource) : Work :=
  let c := w.damper d
  if cls = .normal ∧ withinDeadband t (c.target.getD t) then w
  else if c.position = some t then w.putDamper d { c with last := .done }
  else (w.enqueueNew d (.move t) cls source).putDamper d { c with state := .waiting, target := some t }

/-- R103: the end of a settle after arrival; a deferred order is then taken. -/
def Work.settled (w : Work) (d : DamperIx) : Work :=
  let c := w.damper d
  let w' := w.putDamper d { c with state := .idle, settle := none, order := none, last := .done, deferred := none }
  match c.deferred with
  | none => w'
  | some o => w'.takeIdle d o.target o.cls o.source

/-- R103: arrival; the lane is released and the settle starts, or ends at once where its time is 0. -/
def Work.arrive (w : Work) (d : DamperIx) : Work :=
  let c := w.damper d
  let w' := (w.freeLaneOf d).putDamper d
    { c with
      state := .settling, lane := none, target := c.position, pending := none, overtravel := false
      stepCount := 0, stepDue := none, settle := some (inMs w.now c.settings.settle) }
  if c.settings.settle = 0 then w'.settled d else w'

/-- R104: an arrival at the home position without HOME asserted goes on into the overtravel search. -/
def Work.arriveChecked (w : Work) (d : DamperIx) : Work :=
  let c := w.damper d
  if c.position = some c.homePosition ∧ c.homeInput = false then
    w.putDamper d { c with overtravel := true, stepCount := 0, stepDue := some (c.stepDue.getD (w.now + c.period)) }
  else w.arrive d

/-- The end of the settle of a direction reversal (R100, R101): the damper moves on, or is IDLE where its
target equals its position. -/
def Work.continueMove (w : Work) (d : DamperIx) : Work :=
  let c := w.damper d
  if c.target = c.position then
    (w.freeLaneOf d).putDamper d
      { c with state := .idle, lane := none, settle := none, order := none, stepDue := none, last := .done }
  else w.putDamper d { c with state := .moving, settle := none, stepDue := some (w.now + c.period) }

/-- R100: a direction reversal toward a target, the lane kept. -/
def Work.reverse (w : Work) (d : DamperIx) (t : Nat) : Work :=
  let c := w.damper d
  let w' := w.putDamper d
    { c with
      state := .settling, target := some t, overtravel := false, stepCount := 0, stepDue := none
      settle := some (inMs w.now c.settings.settle) }
  if c.settings.settle = 0 then w'.continueMove d else w'

/-- R106: the home end found in a homing search. -/
def Work.homeFound (w : Work) (d : DamperIx) : Work :=
  let c := w.damper d
  let p := c.homePosition
  let c' := { c with position := some p, slip := 0, stepCount := 0, pending := none }
  let goal := c.pending.getD p
  if goal = p then (w.putDamper d { c' with target := some p }).arrive d
  else (w.putDamper d
    { c' with target := some goal, order := c.order.map fun o => { o with kind := .move } }).reverse d goal

/-- R107: JAMMED. -/
def Work.jam (w : Work) (d : DamperIx) : Work :=
  let c := w.damper d
  ((w.freeLaneOf d).putDamper d
    { c with
      state := .jammed, lane := none, position := none, target := none, pending := none, deferred := none
      order := none, stepCount := 0, overtravel := false, stepDue := none, settle := none, last := .jammed
      jam := true }).alarm asDamper (d.val + 256)

/-- Slip found is added to the slip total, and reported where it leaves the total above 24 (R104, R105). -/
def Work.addSlip (w : Work) (d : DamperIx) (n : Nat) : Work :=
  let c := w.damper d
  let total := min 65535 (c.slip + n)
  let w' := w.putDamper d { c with slip := total }
  if 0 < n ∧ 24 < total then w'.alarm asDamper (d.val + 512) else w'

/-! ### The arbiter -/

/-- R102: a lane granted to an order: MOVING toward the target, or HOMING (R106). -/
def Work.grantTo (w : Work) (l : LaneIx) (o : QueuedOrder) : Work :=
  let d := o.damper
  let c := w.damper d
  let w' := w.putLane l { w.lane l with state := .busy, holder := some d }
  match o.goal with
  | .move t =>
    let w'' := w'.putDamper d
      { c with
        state := .moving, target := some t, lane := some l, order := some ⟨.move, o.cls, o.source, o.seq⟩
        stepDue := some (w.now + c.period) }
    if c.position = some t then w''.arriveChecked d else w''
  | .home p =>
    let w'' := w'.putDamper d
      { c with
        state := .homing, position := none, target := none, pending := p, lane := some l, stepCount := 0
        order := some ⟨.home, o.cls, o.source, o.seq⟩, stepDue := some (w.now + c.period) }
    if c.homeInput then w''.homeFound d else w''

/-- The lanes in index order. -/
def allLanes : List LaneIx := List.finRange 2

/-- The FREE lanes, L0 before L1 (R102). -/
def Ddr.freeLanes (r : Ddr) : List LaneIx := allLanes.filter fun l => r.lanes[l].state = .free

/-- R102: a lane is granted to the first order in grant order, if there is one. -/
def Work.grantLane (w : Work) (l : LaneIx) : Work :=
  match w.ddr.queue with
  | [] => w
  | o :: rest => (w.putQueue rest).grantTo l o

/-- R102: at most `n` grants, one after another. Each grants the lanes that are FREE as it begins, so that L0 takes
the first order and L1 the next even where the first frees L0 again at once (R106). -/
def Work.grantUpTo : Nat → Work → Work
  | 0, w => w
  | n + 1, w =>
    if w.ddr.freeLanes = [] ∨ w.ddr.queue = [] then w
    else (w.ddr.freeLanes.foldl Work.grantLane w).grantUpTo n

/-- R102: the grant, judged at the end of every event; it can take no more orders than the queue holds. -/
def Work.grant (w : Work) : Work := w.grantUpTo (w.ddr.queue.length + 1)

/-! ### Taking an order -/

/-- R97: an order to an UNHOMED damper. -/
def Work.takeUnhomed (w : Work) (d : DamperIx) (t : Nat) (cls : OrderClass) (source : OrderSource) : Work :=
  (w.enqueueNew d (.home (some t)) cls source).putDamper d { w.damper d with state := .waiting }

/-- R99: an order to a WAITING damper. -/
def Work.takeWaiting (w : Work) (d : DamperIx) (t : Nat) (cls : OrderClass) (source : OrderSource) : Work :=
  let c := w.damper d
  match w.ddr.queuedOrder d with
  | none => w
  | some o =>
    let o' := { o with cls := o.cls.raisedBy cls, source := source }
    match o.goal with
    | .move _ =>
      if c.position = some t then
        (w.unqueue d).putDamper d { c with state := .idle, target := some t, last := .done }
      else (w.requeue { o' with goal := .move t }).putDamper d { c with target := some t, last := .superseded }
    | .home _ => (w.requeue { o' with goal := .home (some t) }).putDamper d { c with last := .superseded }

/-- R100, R104: an order to a MOVING damper. In the overtravel search only the target is replaced, the home position
too; that the last result is SUPERSEDED then is assumption 43. -/
def Work.takeMoving (w : Work) (d : DamperIx) (t : Nat) (cls : OrderClass) (source : OrderSource) : Work :=
  let c : Damper := { w.damper d with order := (w.damper d).order.map fun o => o.supersede cls source }
  let pos := c.position.getD 0
  if c.overtravel then w.putDamper d { c with target := some t, last := .superseded }
  else if t = pos then (w.putDamper d { c with target := some t }).arriveChecked d
  else if decide (pos < t) = c.stepsUp then w.putDamper d { c with target := some t, last := .superseded }
  else (w.putDamper d { c with last := .superseded }).reverse d t

/-- R101: an order to a HOMING damper. -/
def Work.takeHoming (w : Work) (d : DamperIx) (t : Nat) (cls : OrderClass) (source : OrderSource) : Work :=
  let c := w.damper d
  w.putDamper d
    { c with
      pending := some t, order := c.order.map fun o => o.supersede cls source
      last := if c.pending.isSome then .superseded else c.last }

/-- R101: an order to a SETTLING damper. -/
def Work.takeSettling (w : Work) (d : DamperIx) (t : Nat) (cls : OrderClass) (source : OrderSource) : Work :=
  let c := w.damper d
  if c.lane.isNone then w.putDamper d { c with deferred := some ⟨t, cls, source⟩ }
  else w.putDamper d
    { c with target := some t, last := .superseded, order := c.order.map fun o => o.supersede cls source }

/-- R97 to R101: a new order, by the state of the damper. -/
def Work.takeOrder (w : Work) (d : DamperIx) (percent : Nat) (cls : OrderClass) (source : OrderSource) : Work :=
  let c := w.damper d
  let t := toSteps c.settings.span percent
  (match c.state with
    | .absent | .jammed => w.putDamper d { c with last := .refused }
    | .unhomed => w.takeUnhomed d t cls source
    | .idle => w.takeIdle d t cls source
    | .waiting => w.takeWaiting d t cls source
    | .moving => w.takeMoving d t cls source
    | .homing => w.takeHoming d t cls source
    | .settling => w.takeSettling d t cls source).grant

/-! ### Steps, settles and HOME -/

/-- One pulse on the STEP output of the lane a damper holds (R94). -/
def Work.pulse (w : Work) (d : DamperIx) : Work :=
  match (w.damper d).lane with
  | none => w
  | some l => w.putLane l { w.lane l with pulses := (w.lane l).pulses + 1 }

/-- One step of a search: the step counter rises, and the damper jams where the search runs out (R104, R106). -/
def Work.searchStep (w : Work) (d : DamperIx) (limit : Nat) : Work :=
  let c := w.damper d
  if limit ≤ c.stepCount + 1 then w.jam d
  else w.putDamper d { c with stepCount := c.stepCount + 1, stepDue := some (w.now + c.period) }

/-- One step of a move: the position moves by one, and the damper arrives where that is its target (R95). -/
def Work.moveStep (w : Work) (d : DamperIx) : Work :=
  let c := w.damper d
  let pos := if c.stepsUp then c.position.getD 0 + 1 else c.position.getD 0 - 1
  if c.target = some pos then (w.putDamper d { c with position := some pos, stepDue := none }).arriveChecked d
  else w.putDamper d { c with position := some pos, stepDue := some (w.now + c.period) }

/-- R95: a step completion of a damper that is stepping. -/
def Work.stepComplete (w : Work) (d : DamperIx) : Work :=
  let c := w.damper d
  (match c.state with
    | .homing => (w.pulse d).searchStep d (c.settings.span + 64)
    | .moving => if c.overtravel then (w.pulse d).searchStep d 16 else (w.pulse d).moveStep d
    | .absent | .unhomed | .idle | .waiting | .settling | .jammed => w).grant

/-- The expiry of a settle timer (R100, R101, R103). -/
def Work.settleExpire (w : Work) (d : DamperIx) : Work :=
  let c := w.damper d
  (match c.settle with
    | none => w
    | some _ => if c.lane.isNone then w.settled d else w.continueMove d).grant

/-- R104: HOME found in the overtravel search. -/
def Work.overtravelFound (w : Work) (d : DamperIx) : Work :=
  let n := (w.damper d).stepCount
  let w' := w.addSlip d n
  let c : Damper := { w'.damper d with stepCount := 0, overtravel := false }
  let goal := c.target.getD c.homePosition
  if goal = c.homePosition then (w'.putDamper d c).arrive d else (w'.putDamper d c).reverse d goal

/-- R105: HOME asserted while MOVING: a slip where the position is further than 16 steps from the home end. -/
def Work.slipJudge (w : Work) (d : DamperIx) : Work :=
  let c := w.damper d
  let pos := c.position.getD 0
  let p := c.homePosition
  let t := c.target.getD p
  if stepDistance pos p ≤ 16 then w
  else
    let w' := (w.putDamper d { c with position := some p }).addSlip d (stepDistance pos p)
    if t = p then w'.arrive d
    else if decide (p < t) = c.stepsUp then w'
    else w'.reverse d t

/-- R105, R106: a debounced HOME change. -/
def Work.homeChange (w : Work) (d : DamperIx) (asserted : Bool) : Work :=
  let c : Damper := { w.damper d with homeInput := asserted }
  let w' := w.putDamper d c
  (if asserted then
    match c.state with
    | .homing => w'.homeFound d
    | .moving => if c.overtravel then w'.overtravelFound d else w'.slipJudge d
    | .absent | .unhomed | .idle | .waiting | .settling | .jammed => w'
  else w').grant

/-! ### Lane faults -/

/-- R108: the holder of a lane that is lost stops, and its order goes back to the queue with its number. -/
def Work.stopHolder (w : Work) (d : DamperIx) : Work :=
  let c := w.damper d
  let home := decide (c.state = .homing) || c.overtravel
  let goal : Goal :=
    if c.state = .homing then .home c.pending
    else if c.overtravel then .home c.target
    else .move (c.target.getD 0)
  let w' := match c.order with
    | none => w
    | some o => w.enqueue ⟨d, goal, o.cls, o.source, o.seq⟩
  w'.putDamper d
    { c with
      state := .waiting, lane := none, order := none, stepCount := 0, overtravel := false, stepDue := none
      settle := none, pending := none, position := if home then none else c.position
      target := if home then none else c.target }

/-- The holder of a lane, where it has one, stops (R108, R112). -/
def Work.stopHolderOf (w : Work) (l : LaneIx) : Work :=
  match (w.lane l).holder with
  | none => w
  | some d => w.stopHolder d

/-- R108, R109: a lane fault; the third within 60 s locks the lane out. -/
def Work.laneFault (w : Work) (l : LaneIx) : Work :=
  let r := w.lane l
  let third := decide (2 ≤ r.history.length)
  ((w.stopHolderOf l).putLane l
    { r with
      state := if third then .lockedOut else .out, holder := none, recovery := none
      history := if third then r.history else r.history ++ [w.now], lockout := r.lockout || third }).alarm
    asLane (l.val + 256 * (if third then 2 else 1))

/-- R108, R109: a LANEFLT change. -/
def Work.laneFltChange (w : Work) (l : LaneIx) (asserted : Bool) : Work :=
  let r : Lane := { w.lane l with fltInput := asserted }
  let w' := w.putLane l r
  (match r.state with
    | .free | .busy => if asserted then w'.laneFault l else w'
    | .out =>
      if asserted then (if r.recovery.isSome then w'.laneFault l else w')
      else w'.putLane l { r with recovery := startIfStopped r.recovery (inMs w.now 2000) }
    | .absent | .lockedOut => w').grant

/-- R109: the recovery timer of an OUT lane expires. -/
def Work.laneRecover (w : Work) (l : LaneIx) : Work :=
  let r := w.lane l
  match r.recovery with
  | none => w
  | some _ => (w.putLane l { r with state := .free, recovery := none }).grant

/-- R109: the oldest entry leaves the history of a lane that is not LOCKED_OUT. -/
def Work.historyExpire (w : Work) (l : LaneIx) : Work :=
  let r := w.lane l
  if r.state = .lockedOut then w else w.putLane l { r with history := r.history.tail }

/-! ### Presence -/

/-- R112: a damper becomes present. -/
def Work.damperPresent (w : Work) (d : DamperIx) : Work :=
  let c := w.damper d
  w.putDamper d
    { c with
      state := if c.jam then .jammed else .unhomed, position := none, target := none, slip := 0, last := .none }

/-- R112: a damper becomes ABSENT. -/
def Work.damperAbsent (w : Work) (d : DamperIx) : Work :=
  let c := w.damper d
  (((w.freeLaneOf d).unqueue d).putDamper d
    { c with
      state := .absent, lane := none, position := none, target := none, pending := none, deferred := none
      order := none, stepCount := 0, overtravel := false, stepDue := none, settle := none }).grant

/-- R112: a lane becomes present. -/
def Work.lanePresent (w : Work) (l : LaneIx) : Work :=
  let r := w.lane l
  (w.putLane l
    { r with
      state := if r.lockout then .lockedOut else if r.fltInput then .out else .free
      holder := none, recovery := none }).grant

/-- R112: a lane becomes ABSENT. -/
def Work.laneAbsent (w : Work) (l : LaneIx) : Work :=
  let r := w.lane l
  ((w.stopHolderOf l).putLane l { r with state := .absent, holder := none, recovery := none, history := [] }).grant

/-! ### REHOME and LANE_ENABLE -/

/-- R115: in CONFIG, the target of the damper's latest unfinished order. -/
def Work.unfinishedTarget (w : Work) (d : DamperIx) : Option Nat :=
  let c := w.damper d
  match c.state with
  | .waiting =>
    match w.ddr.queuedOrder d with
    | none => none
    | some o => match o.goal with | .move t => some t | .home p => p
  | .moving => c.target
  | .settling => match c.deferred with | some o => some o.target | none => c.target
  | .homing => c.pending
  | .absent | .unhomed | .idle | .jammed => none

/-- R115: a new HOME order from REHOME. -/
def Work.queueRehome (w : Work) (d : DamperIx) (pending : Option Nat) : Work :=
  let c := w.damper d
  (w.enqueueNew d (.home pending) (if d = 0 then .safety else .normal) .link).putDamper d
    { c with
      state := .waiting, lane := none, position := none, target := none, pending := none, order := none
      deferred := none, stepCount := 0, overtravel := false, stepDue := none, settle := none, jam := false }

/-- R115: REHOME, with the owner's last target in steps where the part is in RUN. A queued MOVE that becomes a HOME in
place keeps its class, its number and its source: assumption 44. -/
def Work.rehome (w : Work) (d : DamperIx) (inRun : Bool) (owner : Option Nat) : Work :=
  let c := w.damper d
  let pending := if inRun then owner else w.unfinishedTarget d
  (match c.state with
    | .absent => w
    | .jammed | .unhomed | .idle => w.queueRehome d pending
    | .waiting =>
      match w.ddr.queuedOrder d with
      | none => w
      | some o =>
        match o.goal with
        | .move _ =>
          (w.requeue { o with goal := .home pending }).putDamper d { c with position := none, target := none }
        | .home _ => if inRun then w.requeue { o with goal := .home pending } else w
    | .homing => if inRun then w.putDamper d { c with pending := pending } else w
    | .moving | .settling => (w.freeLaneOf d).queueRehome d pending).grant

/-- R116: LANE_ENABLE on a present lane. -/
def Work.enableLane (w : Work) (l : LaneIx) : Work :=
  let r := w.lane l
  (if r.state = .lockedOut then
    w.putLane l { r with state := if r.fltInput then .out else .free, history := [], lockout := false }
  else w.putLane l { r with history := [] }).grant

/-! ### Settings, leaving RUN, link reset -/

/-- R113, R119: new settings; an IDLE damper whose span or home end changes becomes UNHOMED. -/
def Damper.settleSettings (c : Damper) (set : DamperSettings) : Damper :=
  if c.state = .idle ∧ (set.span ≠ c.settings.span ∨ set.homeOpen ≠ c.settings.homeOpen) then
    { c with settings := set, state := .unhomed, position := none, target := none, slip := 0 }
  else { c with settings := set }

/-- R119: a damper with nothing left to carry out. -/
def Damper.cleared (c : Damper) : Damper :=
  { c with
    pending := none, order := none, lane := none, deferred := none, stepCount := 0, overtravel := false
    stepDue := none, settle := none }

/-- R119: a damper at leaving RUN or link reset, by its state before. -/
def Damper.leave (c : Damper) (queued : Option QueuedOrder) : Damper :=
  let idle := { c.cleared with state := .idle, target := c.position, last := .superseded }
  let unhomed := { c.cleared with state := .unhomed, position := none, target := none, last := .superseded }
  match c.state with
  | .waiting =>
    match queued with
    | some o => match o.goal with | .move _ => idle | .home _ => unhomed
    | none => c.cleared
  | .moving => if c.overtravel then unhomed else idle
  | .homing => unhomed
  | .settling => if c.lane.isNone then { c.cleared with state := .idle, last := .done } else idle
  | .absent | .unhomed | .idle | .jammed => c.cleared

/-- The dampers in index order. -/
def allDampers : List DamperIx := List.finRange 8

/-- R119: a held lane is released. -/
def Lane.leave (r : Lane) : Lane := if r.state = .busy then { r with state := .free, holder := none } else r

/-- R119: leaving RUN, and the first part of link reset. -/
def Work.leaveRun (w : Work) : Work :=
  let w1 := allDampers.foldl (fun v d => v.putDamper d ((v.damper d).leave (v.ddr.queuedOrder d))) w
  let w2 := allLanes.foldl (fun v l => v.putLane l (v.lane l).leave) w1
  { w2 with ddr := { w2.ddr with queue := [], seq := 0 } }

/-- R119: link reset; the damper settings return to their defaults where retain is clear. -/
def Work.linkReset (w : Work) (retain : Bool) : Work :=
  let w' := w.leaveRun
  if retain then w'
  else allDampers.foldl (fun v d => v.putDamper d ((v.damper d).settleSettings damperDefaults)) w'

/-- R111: a HOME order for each present damper that is UNHOMED, DMP0 as SAFETY; an order that waits already
stands, that of DMP0 raised to SAFETY. -/
def Work.startHoming (w : Work) (d : DamperIx) : Work :=
  let c := w.damper d
  match c.state with
  | .unhomed =>
    (w.enqueueNew d (.home none) (if d = 0 then .safety else .normal) .start).putDamper d { c with state := .waiting }
  | .waiting =>
    match w.ddr.queuedOrder d with
    | none => w
    | some o =>
      match o.goal with
      | .home _ => if d = 0 then w.requeue { o with cls := .safety } else w
      | .move _ => w
  | .absent | .idle | .homing | .moving | .settling | .jammed => w

/-- R111: start-up homing at entry to RUN. -/
def Work.enterRun (w : Work) : Work := (allDampers.foldl Work.startHoming w).grant

/-! ### DDR in the part -/

/-- R110: DDR's report of a damper or a lane, with the record as the event leaves it. -/
def Ddr.reportOf (r : Ddr) : DriveUnit → List Instr
  | .damper d =>
    if h : d.val < 3 then [.damperStateReport (.damper ⟨d.val, h⟩ r.dampers[d].state r.dampers[d].position)] else []
  | .lane l => [.damperStateReport (.lane l r.lanes[l].state)]

/-- One event at DDR: the records change, then the attention is raised and, after every change is complete,
one report is handed for each unit whose state changed (R110). -/
def State.drive (s : State) (f : Work → Work) : State :=
  let w := f ⟨s.ddr, s.now, s.free, [], []⟩
  ({ s with ddr := w.ddr, free := w.free }.raiseAll w.alarms).handAll (w.changed.dedup.flatMap w.ddr.reportOf)

/-- An owner's order (R97 to R101). -/
def State.order (s : State) (d : DamperIx) (percent : Nat) (cls : OrderClass) (source : OrderSource) : State :=
  s.drive fun w => w.takeOrder d percent cls source

/-- A damper record. -/
def State.damper (s : State) (d : DamperIx) : Damper := s.ddr.dampers[d]

/-- R91: the percent the owner of a damper last ordered. -/
def State.ownerTarget (s : State) (d : DamperIx) : Option Nat :=
  match d.val with
  | 0 => s.adm.ordered[0]
  | 1 => s.adm.ordered[1]
  | 2 => s.adm.ordered[2]
  | 3 => s.zon.zones[0].ordered
  | 4 => s.zon.zones[1].ordered
  | 5 => s.zon.zones[2].ordered
  | 6 => s.zon.zones[3].ordered
  | _ => s.zon.orderedDefrost

/-- A debounced HOME change at DDR (R105, R106). -/
def State.homeEffect (s : State) (d : DamperIx) (asserted : Bool) : State := s.drive fun w => w.homeChange d asserted

/-- A LANEFLT change at DDR (R108, R109). -/
def State.laneFltEffect (s : State) (l : LaneIx) (asserted : Bool) : State :=
  s.drive fun w => w.laneFltChange l asserted

/-! ### The events -/

/-- STEP_COMPLETION (R95, R103, R104, R107). -/
def execStepCompletion (d : DamperIx) (s : State) : Out := s.own fun s => s.drive fun w => w.stepComplete d

/-- SETTLE_TIMER_EXPIRY (R100, R101, R103). -/
def execSettleTimerExpiry (d : DamperIx) (s : State) : Out := s.own fun s => s.drive fun w => w.settleExpire d

/-- HOME_CHANGE (R105, R106). -/
def execHomeChange (d : DamperIx) (asserted : Bool) (s : State) : Out :=
  s.take (.homeChange d asserted) fun s => s.homeEffect d asserted

/-- LANEFLT_CHANGE (R108, R109). -/
def execLaneFltChange (l : LaneIx) (asserted : Bool) (s : State) : Out :=
  s.take (.laneFltChange l asserted) fun s => s.laneFltEffect l asserted

/-- LANE_RECOVERY_EXPIRY (R109). -/
def execLaneRecoveryExpiry (l : LaneIx) (s : State) : Out := s.own fun s => s.drive fun w => w.laneRecover l

/-- LANE_FAULT_HISTORY_EXPIRY (R109). -/
def execLaneFaultHistoryExpiry (l : LaneIx) (s : State) : Out := s.own fun s => s.drive fun w => w.historyExpire l

/-! ### The requests -/

/-- A damper is WAITING, HOMING, MOVING or SETTLING (R113). -/
def DamperState.atWork : DamperState → Bool
  | .waiting | .homing | .moving | .settling => true
  | .absent | .unhomed | .idle | .jammed => false

/-- SET_DAMPER (R113). -/
def execSetDamper (damper : Byte) (span rate settle : Half) (homeEnd : Byte) (s : State) : Out :=
  s.take (.setDamper damper span rate settle homeEnd) fun s =>
    if s.inRun then s.status .setDamper .state
    else match indexOf 8 damper with
      | none => s.status .setDamper .range
      | some d =>
        let sent := damperSettingsOf span rate settle (homeEnd == 1#8)
        if sent.span < 1 ∨ 2000 < sent.span ∨ 1 < homeEnd.toNat then s.status .setDamper .range
        else if (s.damper d).state.atWork then s.status .setDamper .state
        else (s.drive fun w => w.putDamper d ((w.damper d).settleSettings sent.clamp)).status .setDamper
          (clampStatus (sent.clamp != sent))

/-- The class of a MOVE's class field (R114). -/
def OrderClass.ofField (b : Byte) : OrderClass := if b = 1#8 then .safety else .normal

/-- MOVE (R114). -/
def execMove (damper percent cls : Byte) (s : State) : Out :=
  s.take (.move damper percent cls) fun s =>
    if s.inRun then s.status .move .state
    else match indexOf 8 damper with
      | none => s.status .move .range
      | some d =>
        if 1 < cls.toNat then s.status .move .range
        else
          let s' := s.order d (min percent.toNat 100) (OrderClass.ofField cls) .link
          match (s.damper d).state with
          | .absent => s'.status .move .notBound
          | .jammed => s'.status .move .jammed
          | .unhomed | .idle | .waiting | .homing | .moving | .settling =>
            s'.status .move (clampStatus (decide (100 < percent.toNat)))

/-- REHOME (R115). -/
def execRehome (damper : Byte) (s : State) : Out :=
  s.take (.rehome damper) fun s =>
    match indexOf 8 damper with
    | none => s.status .rehome .range
    | some d =>
      let c := s.damper d
      if c.state = .absent then s.status .rehome .notBound
      else
        let owner := (s.ownerTarget d).map (toSteps c.settings.span)
        (s.drive fun w => w.rehome d s.inRun owner).status .rehome .ok

/-- LANE_ENABLE (R116). -/
def execLaneEnable (lane : Byte) (s : State) : Out :=
  s.take (.laneEnable lane) fun s =>
    match indexOf 2 lane with
    | none => s.status .laneEnable .range
    | some l =>
      if s.ddr.lanes[l].state = .absent then s.status .laneEnable .notBound
      else (s.drive fun w => w.enableLane l).status .laneEnable .ok

/-- The code of a damper state (R117). -/
def DamperState.code : DamperState → Nat
  | .absent => 0
  | .unhomed => 1
  | .idle => 2
  | .waiting => 3
  | .homing => 4
  | .moving => 5
  | .settling => 6
  | .jammed => 7

/-- The code of a last result (R117). -/
def LastResult.code : LastResult → Nat
  | .none => 0
  | .done => 1
  | .jammed => 2
  | .refused => 3
  | .superseded => 4

/-- The code of a lane state (R117). -/
def LaneState.code : LaneState → Nat
  | .absent => 0
  | .free => 1
  | .busy => 2
  | .out => 3
  | .lockedOut => 4

/-- R117: the target shown, the pending target for a HOME order or a homing damper. -/
def Ddr.shownTarget (r : Ddr) (d : DamperIx) : Option Nat :=
  let c := r.dampers[d]
  match c.state with
  | .homing => c.pending
  | .waiting =>
    match r.queuedOrder d with
    | some o => match o.goal with | .move t => some t | .home p => p
    | none => c.target
  | .absent | .unhomed | .idle | .moving | .settling | .jammed => c.target

/-- One damper's entry of READ_DAMPERS (R193). -/
def Ddr.damperBytes (r : Ddr) (d : DamperIx) : List Byte :=
  let c := r.dampers[d]
  [byteOf (c.state.code + 8 * c.last.code), byteOrNone (c.lane.map Fin.val),
    byteOrNone (c.position.map (toPercent c.settings.span)),
    byteOrNone ((r.shownTarget d).map (toPercent c.settings.span))] ++ halfBytes c.slip

/-- One lane's entry of READ_DAMPERS (R193). -/
def Lane.bytes (r : Lane) : List Byte :=
  [byteOf r.state.code, byteOrNone (r.holder.map Fin.val), byteOf r.history.length]

/-- READ_DAMPERS (R117, R193). -/
def execReadDampers (s : State) : Out :=
  s.take .readDampers fun s =>
    s.answer .readDampers .ok (allDampers.flatMap s.ddr.damperBytes ++ s.ddr.lanes.toList.flatMap Lane.bytes)

/-- The code of a source (R118). -/
def OrderSource.code : OrderSource → Nat
  | .adm => 0
  | .zon => 1
  | .link => 2
  | .start => 3

/-- One order's entry of READ_QUEUE (R118, R193). -/
def Ddr.orderBytes (r : Ddr) (o : QueuedOrder) : List Byte :=
  let span := r.dampers[o.damper].settings.span
  let (target, kind) := match o.goal with
    | .move t => (some t, 0)
    | .home p => (p, 1)
  [byteOf o.damper.val, byteOrNone (target.map (toPercent span)), byteOf kind,
    byteOf (if o.cls = .safety then 1 else 0), byteOf o.source.code]

/-- READ_QUEUE (R118, R193). -/
def execReadQueue (s : State) : Out :=
  s.take .readQueue fun s =>
    s.answer .readQueue .ok (byteOf s.ddr.queue.length :: s.ddr.queue.flatMap s.ddr.orderBytes)

end Sys2Proof.Machine
end

