-- ==== Sys2Proof/Machine/Admission.lean ====
section
/-! DEFINITION. Intake Admission (03): the stages that ADM runs at each event in RUN (R44), the seal line in
CONFIG, entry to RUN and leaving it, and the requests. -/

namespace Sys2Proof.Machine

/-! ### Codes and orders -/

/-- The code of an admission state (R43); it also ranks the states by restrictiveness. -/
def AdmState.code : AdmState → Nat
  | .inactive => 0
  | .opened => 1
  | .limit => 2
  | .scrub => 3
  | .seal => 4

/-- One state is above another when it is more restrictive (R43). -/
def AdmState.above (a b : AdmState) : Bool := decide (b.code < a.code)

/-- The next less restrictive state (R43, R50). -/
def AdmState.stepDown : AdmState → AdmState
  | .inactive => .inactive
  | .opened => .opened
  | .limit => .opened
  | .scrub => .limit
  | .seal => .scrub

/-- LIMIT, SCRUB or SEAL (R55). -/
def AdmState.guarded : AdmState → Bool
  | .limit | .scrub | .seal => true
  | .inactive | .opened => false

/-- The code of a route (R43). -/
def Route.code : Route → Nat
  | .fresh => 1
  | .scrubbed => 2
  | .recirc => 3

/-- The code of a directive (R68). -/
def Directive.code : Directive → Nat
  | .auto => 0
  | .seal => 1
  | .vent => 2

/-- The directive of a code (R68). -/
def Directive.ofCode (b : Byte) : Option Directive :=
  match b.toNat with
  | 0 => some .auto
  | 1 => some .seal
  | 2 => some .vent
  | _ => none

/-- The code of an intake condition (R70). -/
def Intake.code : Intake → Nat
  | .clear => 0
  | .elevated => 1
  | .unknown => 2
  | .pmHigh => 3
  | .coHigh => 4

/-! ### Conditions, the demanded state, acceptance -/

/-- R45: the intake condition from the levels of AS-COI and AS-PMI. -/
def intakeOf (coi pmi : Level) : Intake :=
  if coi = .high then .coHigh
  else if pmi = .high then .pmHigh
  else if coi = .unknown ∨ pmi = .unknown then .unknown
  else if coi = .elevated ∨ pmi = .elevated then .elevated
  else .clear

/-- R47: the demanded state. -/
def demandedOf (sealLine : Bool) (directive : Directive) (intake : Intake) : AdmState :=
  if sealLine ∨ directive = .seal then .seal
  else if directive = .vent then .opened
  else match intake with
    | .coHigh => .seal
    | .pmHigh | .unknown => .scrub
    | .elevated => .limit
    | .clear => .opened

/-- R50: the hold time of an accepted state, in seconds. -/
def AdmSettings.holdTime (c : AdmSettings) : AdmState → Nat
  | .seal => c.sealHold
  | .scrub => c.scrubHold
  | .limit => c.limitHold
  | .opened | .inactive => 0

/-- R45, R47: the conditions and the demanded state formed again from the three levels. -/
def Adm.form (a : Adm) (coi pmi coc : Level) : Adm :=
  let intake := intakeOf coi pmi
  { a with intake := intake, cab := coc, demanded := demandedOf a.sealLine a.directive intake }

/-- R48 to R50: the acceptance stage. -/
def Adm.accept (a : Adm) (now : Time) (immediate : Bool) : Adm :=
  if a.demanded.above a.accepted then { a with accepted := a.demanded, hold := none }
  else if a.accepted.above a.demanded then
    if immediate then { a with accepted := a.demanded, hold := none }
    else { a with hold := startIfStopped a.hold (inSec now (a.settings.holdTime a.accepted)) }
  else { a with hold := none }

/-! ### Breach and purge -/

/-- A door is open (R46). -/
def Adm.doorOpen (a : Adm) : Bool := a.doors.toList.any id

/-- R55, R56: the breach stage, and whether a breach ended by the doors starts a purge. -/
def Adm.judgeBreach (a : Adm) (now : Time) : Adm × Bool :=
  match a.breach with
  | none => (if a.doorOpen ∧ a.accepted.guarded then { a with breach := some now } else a, false)
  | some since =>
    if a.doorOpen ∧ a.accepted.guarded then (a, false)
    else
      ({ a with breach := none },
        !a.doorOpen && decide (inSec 0 a.settings.breachMin ≤ now - since) &&
          decide (a.accepted = .scrub ∨ a.accepted = .seal))

/-- R59: the route of a purge in an accepted state. -/
def AdmState.route : AdmState → Route
  | .scrub => .scrubbed
  | .seal => .recirc
  | .inactive | .opened | .limit => .fresh

/-- R57, R58: the clock of a purge that starts, restarts or unfreezes: frozen while the cab condition is HIGH. -/
def Adm.freshPurgeClock (a : Adm) (now : Time) : PurgeClock :=
  if a.cab = .high then .frozen (inSec 0 a.settings.purgeTime) else .running (inSec now a.settings.purgeTime)

/-- R57 to R59: the purge stage. `started` says that a purge starts or restarts. -/
def Adm.judgePurge (a : Adm) (now : Time) (started : Bool) : Adm :=
  if started then { a with purge := some ⟨a.freshPurgeClock now, a.accepted.route⟩ }
  else match a.purge with
    | none => a
    | some p =>
      match p.clock with
      | .frozen _ =>
        if a.cab = .high then { a with purge := some ⟨p.clock, a.accepted.route⟩ }
        else { a with purge := some ⟨a.freshPurgeClock now, a.accepted.route⟩ }
      | .running _ => { a with purge := some ⟨p.clock, a.accepted.route⟩ }

/-! ### Targets -/

/-- R52: the minimum fresh fraction from SC0. -/
def minFreshOf (status : Status) (value : Int) : Nat := if status = .usable ∧ value < -100 then 5 else 10

/-- R53: the targets of FRESH, SCRUB and RELIEF that the accepted state gives. -/
def Adm.stateTargets (a : Adm) : Nat × Nat × Nat :=
  match a.accepted with
  | .opened => (max a.minFresh a.fresh, 0, 100)
  | .limit => (min a.settings.limitFraction (max a.minFresh a.fresh), 100, 60)
  | .scrub => (max a.settings.pressFraction (min a.fresh a.settings.limitFraction), 100, 20)
  | .seal => (0, 100, 0)
  | .inactive => (0, 0, 0)

/-- R53, R59: the three damper targets; the route of an active purge replaces those it names. -/
def Adm.targets (a : Adm) : Vector Nat 3 :=
  let (fresh, scrub, relief) := a.stateTargets
  match a.purge with
  | none => #v[fresh, scrub, relief]
  | some p =>
    match p.route with
    | .fresh => #v[100, scrub, 100]
    | .scrubbed => #v[100, 100, 100]
    | .recirc => #v[0, 100, 0]

/-- The admission picture handed to MOV (R122). -/
def Adm.picture (a : Adm) : Picture := ⟨a.accepted, a.breach.isSome, a.purge.map fun p => p.route⟩

/-! ### What ADM sees of DDR -/

/-- FRESH, SCRUB and RELIEF among the dampers (R91). -/
def admDamper (i : Fin 3) : DamperIx := i.castLE (by omega)

/-- FRESH and the lanes as ADM judges SEAL_IMPAIRED by them (R63). -/
structure DriveView where
  fresh : DamperState
  lanes : Vector LaneState 2
  deriving DecidableEq, Repr

/-- FRESH and the lanes as they stand, with the state that a report carries in its own place (R44, R110):
assumption 27. -/
def State.driveView (s : State) (r : Option DriveReport) : DriveView :=
  let now : DriveView := { fresh := (s.damper 0).state, lanes := tableMap (fun l => l.state) s.ddr.lanes }
  match r with
  | none => now
  | some (.damper d st _) => if d = 0 then { now with fresh := st } else now
  | some (.lane l st) => { now with lanes := now.lanes.set l st }

/-- R63: DMP0 is JAMMED. -/
def DriveView.freshJammed (v : DriveView) : Bool := decide (v.fresh = .jammed)

/-- R63: DMP0 is WAITING and neither lane is FREE or BUSY. -/
def DriveView.freshStranded (v : DriveView) : Bool :=
  decide (v.fresh = .waiting) && v.lanes.toList.all fun l => decide (l ≠ .free ∧ l ≠ .busy)

/-- R64: a damper is ABSENT, or IDLE within the deadband of the steps that its ordered target gives. -/
def Damper.atTarget (c : Damper) (ordered : Option Nat) : Bool :=
  match c.state, c.position, ordered with
  | .absent, _, _ => true
  | .idle, some p, some t => withinDeadband p (toSteps c.settings.span t)
  | _, _, _ => false

/-- R64: every present damper is at ADM's target, as the damper records stand. -/
def State.atTargets (s : State) : Bool :=
  (List.finRange 3).all fun i => (s.damper (admDamper i)).atTarget s.adm.ordered[i]

/-! ### One event in RUN -/

/-- What an ADM event brings to the stages of R44: a carried level, a drop that R49 makes at once, an
assertion of the SEAL line, the end of a purge (R60), the entry to RUN, a report of DDR. -/
structure AdmCause where
  level : Option (AssessorIx × Level) := none
  immediate : Bool := false
  sealAsserted : Bool := false
  purgeEnds : Bool := false
  entry : Bool := false
  drive : Option DriveReport := none
  deriving DecidableEq, Repr

/-- The level of an assessor at an event: the one that the event carries, else as it stands (R44, R45). -/
def State.levelAt (s : State) (c : AdmCause) (a : AssessorIx) : Level :=
  match c.level with
  | none => s.asr[a].level
  | some (b, l) => if a = b then l else s.asr[a].level

/-- The record after the stages up to the purge, and whether a purge started (R44, R57). -/
def State.admDecide (s : State) (c : AdmCause) (before : Adm) : Adm × Bool :=
  let a := (s.adm.form (s.levelAt c 0) (s.levelAt c 1) (s.levelAt c 2)).accept s.now c.immediate
  let (a, qualifies) := a.judgeBreach s.now
  let started := qualifies || (decide (a.cab = .high) && (c.entry || decide (before.cab ≠ .high)))
  (a.judgePurge s.now started, started)

/-- SEAL_IMPAIRED is judged at the reports of DMP0 and of the lanes, and at entry to RUN (R63). -/
def AdmCause.judgesImpaired (c : AdmCause) : Bool :=
  c.entry || match c.drive with
    | some (.damper d _ _) => decide (d = 0)
    | some (.lane _ _) => true
    | none => false

/-- R61 to R63: the condition stage. -/
def Adm.judgeConditions (a : Adm) (c : AdmCause) (v : DriveView) : Adm :=
  { a with
    cabCo := decide (a.cab = .high)
    breathing := decide (a.accepted = .seal) && a.breathingFlag
    sealImpaired := if c.judgesImpaired then v.freshJammed || v.freshStranded else a.sealImpaired }

/-- The accepted state changes at an event, or is set by the entry to RUN (R51, R66). The states before and after the whole
event are compared, so a step down at a hold expiry that the acceptance of the same event undoes is no change:
assumption 48. -/
def AdmCause.changes (c : AdmCause) (before after : Adm) : Bool :=
  c.entry || decide (after.accepted ≠ before.accepted)

/-- R51, R61 to R63: what the event raises. -/
def admRaises (c : AdmCause) (before after : Adm) (v : DriveView) (cocFast : Nat) : List (SourceIx × Nat) :=
  (if c.changes before after then [(asAdmission, after.accepted.code)] else []) ++
  (if after.cabCo && !before.cabCo then [(asCabCo, min cocFast 65535)] else []) ++
  (if after.breathing && !before.breathing then [(asBreathing, 0)] else []) ++
  (if after.sealImpaired && !before.sealImpaired then [(asSealImpaired, if v.freshJammed then 1 else 2)] else [])

/-- R54: the class of an event's orders. -/
def AdmCause.orderClass (c : AdmCause) (before after : Adm) (started : Bool) : OrderClass :=
  if c.entry || c.sealAsserted || started || after.accepted.above before.accepted then .safety else .normal

/-- FRESH, SCRUB and RELIEF, in the order in which ADM orders them (R54). -/
def admDampers : List (Fin 3) := List.finRange 3

/-- R54: a move order for each damper whose computed target differs from its ordered target. -/
def State.issueOrders (s : State) (cls : OrderClass) : State :=
  let t := s.adm.targets
  let due := admDampers.filter fun i => s.adm.ordered[i] ≠ some t[i]
  { s with adm := { s.adm with ordered := tableMap some t } }.drive fun w =>
    due.foldl (fun v i => v.takeOrder (admDamper i) t[i] cls .adm) w

/-- R64: a pending check ends, and raises SETTLED, where every present damper is at ADM's target once the event's
orders have been taken. -/
def State.judgeSettled (s : State) : State :=
  match s.adm.check with
  | none => s
  | some st =>
    if s.atTargets then { s with adm := { s.adm with check := none } }.raise asSettled st.code else s

/-- The settled check is judged at the event that started it and at the reports of the dampers (R64). -/
def AdmCause.judgesSettled (c : AdmCause) (before after : Adm) : Bool :=
  c.changes before after || match c.drive with
    | some (.damper _ _ _) => true
    | some (.lane _ _) => false
    | none => false

/-- R59, R122: a report to MOV where the accepted state, the breach, the purge or its route has changed, and where a purge
has started or ended. A restart is a start, which R57 calls it: assumption 46. -/
def State.handPicture (s : State) (before : Picture) (purged : Bool) : State :=
  if s.adm.picture = before ∧ purged = false then s else s.hand (.admissionReport s.adm.picture)

/-- R44: the stages of one ADM event in RUN, after it has recorded its input; `before` is the record as it
stood before the event. -/
def State.admStages (s : State) (c : AdmCause) (before : Adm) : State :=
  let (a, started) := s.admDecide c before
  let v := s.driveView c.drive
  let a := a.judgeConditions c v
  let a := if c.changes before a then { a with check := some a.accepted } else a
  let s1 := ({ s with adm := a }.raiseAll (admRaises c before a v s.asr[2].f)).judgeFault
  let s2 := s1.issueOrders (c.orderClass before a started)
  let s3 := if c.judgesSettled before a then s2.judgeSettled else s2
  s3.handPicture before.picture (started || c.purgeEnds)

/-- An event at ADM: taken in RUN, recorded nowhere outside it (R44). -/
def State.admEvent (s : State) (f : State → State) : State := if s.inRun then f s else s

/-! ### The inputs from TRM -/

/-- R46, R55: a debounced door change. -/
def State.doorEffect (s : State) (door : DoorIx) (isOpen : Bool) : State :=
  s.admEvent fun s =>
    { s with adm := { s.adm with doors := s.adm.doors.set door isOpen } }.admStages {} s.adm

/-- R65: an assertion of the SEAL line in CONFIG orders a homed FRESH to 0 % with SAFETY class. -/
def State.sealConfigOrder (s : State) : State := if (s.damper 0).homed then s.order 0 0 .safety .adm else s

/-- R48, R49, R65: a debounced change of SEAL_REQ. -/
def State.sealEffect (s : State) (asserted : Bool) : State :=
  if s.inRun then
    { s with adm := { s.adm with sealLine := asserted } }.admStages
      { sealAsserted := asserted, immediate := !asserted && decide (s.adm.directive = Directive.vent) } s.adm
  else if s.inConfig ∧ asserted then s.sealConfigOrder
  else s

/-! ### The events -/

/-- ADM_LEVEL_REPORT (R44). -/
def execAdmLevelReport (a : AssessorIx) (level : Level) (s : State) : Out :=
  s.take (.admLevelReport a level) fun s => s.admEvent fun s => s.admStages { level := some (a, level) } s.adm

/-- OAT_REPORT (R52). -/
def execOatReport (status : Status) (value : Int) (s : State) : Out :=
  s.take (.oatReport status value) fun s => s.admEvent fun s =>
    { s with adm := { s.adm with minFresh := minFreshOf status value } }.admStages {} s.adm

/-- SEAL_REQ_CHANGE (R48, R49, R65). -/
def execSealReqChange (asserted : Bool) (s : State) : Out :=
  s.take (.sealReqChange asserted) fun s => s.sealEffect asserted

/-- DOOR_CHANGE (R55, R56). -/
def execDoorChange (door : DoorIx) (isOpen : Bool) (s : State) : Out :=
  s.take (.doorChange door isOpen) fun s => s.doorEffect door isOpen

/-- ADM's record of a change of ZON's output (R44). -/
def Adm.takeZon (a : Adm) : ZonChange → Adm
  | .fresh n => { a with fresh := n }
  | .breathing b => { a with breathingFlag := b }

/-- ZON_OUTPUT_CHANGE (R62, R79, R80). -/
def execZonOutputChange (change : ZonChange) (s : State) : Out :=
  s.take (.zonOutputChange change) fun s => s.admEvent fun s =>
    { s with adm := s.adm.takeZon change }.admStages {} s.adm

/-- DAMPER_STATE_REPORT (R63, R64, R110). -/
def execDamperStateReport (report : DriveReport) (s : State) : Out :=
  s.take (.damperStateReport report) fun s => s.admEvent fun s => s.admStages { drive := some report } s.adm

/-- ADM_HOLD_TIMER_EXPIRY (R50): the accepted state steps down one level. -/
def execAdmHoldTimerExpiry (s : State) : Out :=
  s.own fun s => s.admEvent fun s =>
    match s.adm.hold with
    | none => s
    | some _ => { s with adm := { s.adm with accepted := s.adm.accepted.stepDown, hold := none } }.admStages {} s.adm

/-- PURGE_TIMER_EXPIRY (R60). -/
def execPurgeTimerExpiry (s : State) : Out :=
  s.own fun s => s.admEvent fun s =>
    match s.adm.purge with
    | some ⟨.running _, route⟩ =>
      ({ s with adm := { s.adm with purge := none } }.raise asPurgeDone route.code).admStages
        { purgeEnds := true } s.adm
    | some ⟨.frozen _, _⟩ | none => s

/-! ### Entry to RUN, leaving RUN, link reset -/

/-- R66: what ADM sets and reads at entry to RUN, before its stages. -/
def State.admEntryRecord (s : State) : Adm :=
  { s.adm with
    accepted := if (s.channel 8).state ≠ .absent ∨ (s.channel 9).state ≠ .absent then .scrub else .opened
    directive := .auto, hold := none, breach := none, purge := none, cabCo := false, breathing := false
    sealImpaired := false, check := none, ordered := Vector.replicate 3 none
    sealLine := s.inputAsserted .sealReq, doors := tableOf 4 fun d => s.inputAsserted (.door d)
    fresh := s.zon.out.fresh, breathingFlag := s.zon.out.breathing
    minFresh := minFreshOf (s.channelStatus 0) (s.channel 0).value }

/-- R66: ADM's entry to RUN. MOV is handed a report, as at any change of the accepted state (R122). -/
def State.admEnterRun (s : State) : State :=
  let r := s.admEntryRecord
  { s with adm := r }.admStages { entry := true } { r with accepted := .inactive }

/-- R67: the record at leaving RUN and at link reset. -/
def Adm.leave (a : Adm) : Adm :=
  { a with
    accepted := .inactive, demanded := .opened, directive := .auto, hold := none, breach := none, purge := none
    cabCo := false, breathing := false, sealImpaired := false, check := none, ordered := Vector.replicate 3 none }

/-- R67: ADM leaves RUN; the FAULT line negates. -/
def State.admLeaveRun (s : State) : State :=
  ({ s with adm := s.adm.leave }.judgeFault).handPicture s.adm.picture s.adm.purge.isSome

/-- R67: ADM's link reset. -/
def State.admLinkReset (s : State) : State :=
  let s' := s.admLeaveRun
  if s.part.retain then s' else { s' with adm := { s'.adm with settings := admDefaults } }

/-! ### The requests -/

/-- SET_DIRECTIVE (R68). -/
def execSetDirective (code : Byte) (s : State) : Out :=
  s.take (.setDirective code) fun s =>
    if s.inRun then
      match Directive.ofCode code with
      | none => s.status .setDirective .range
      | some d =>
        if d = s.adm.directive then s.status .setDirective .ok
        else ({ s with adm := { s.adm with directive := d } }.admStages { immediate := decide (d = Directive.vent) } s.adm).status
          .setDirective .ok
    else s.status .setDirective .state

/-- SET_ADMISSION (R69). -/
def execSetAdmission (limitFraction pressFraction : Byte) (sealHold scrubHold limitHold purgeTime : Half)
    (breachMin : Byte) (s : State) : Out :=
  s.take (.setAdmission limitFraction pressFraction sealHold scrubHold limitHold purgeTime breachMin) fun s =>
    let sent := admSettingsOf limitFraction pressFraction sealHold scrubHold limitHold purgeTime breachMin
    let s' := { s with adm := { s.adm with settings := sent.clamp } }
    (if s.inRun then s'.admStages {} s.adm else s').status .setAdmission (clampStatus (sent.clamp != sent))

/-- The record as READ_ADMISSION shows it: in CONFIG the conditions, the inputs from TRM and the minimum fresh
as they stand, and a fresh demand of 0 (R70). -/
def State.shownAdm (s : State) : Adm :=
  if s.inRun then s.adm
  else
    { s.adm.leave with
      intake := intakeOf s.asr[0].level s.asr[1].level, cab := s.asr[2].level
      sealLine := s.inputAsserted .sealReq, doors := tableOf 4 fun d => s.inputAsserted (.door d)
      fresh := 0, minFresh := minFreshOf (s.channelStatus 0) (s.channel 0).value }

/-- The code of a level as a cab condition (R70). -/
def cabCode : Level → Nat
  | .clear => 0
  | .elevated => 1
  | .high => 2
  | .unknown => 3

/-- The time left of a purge (R43). -/
def PurgeClock.left (now : Time) : PurgeClock → Time
  | .frozen r => r
  | .running due => due - now

/-- One flag for each open door (R70, R194). -/
def doorFlags (doors : Vector Bool 4) : Nat :=
  (if doors[0] then 1 else 0) + (if doors[1] then 2 else 0) + (if doors[2] then 4 else 0) + (if doors[3] then 8 else 0)

/-- The purge fields of READ_ADMISSION (R194). -/
def purgeBytes (now : Time) : Option Purge → List Byte
  | none => [0#8, 0#8, 0#8] ++ halfBytes 0
  | some p =>
    [1#8, byteOfBool (match p.clock with | .frozen _ => true | .running _ => false), byteOf p.route.code] ++
      halfBytes (tenths (p.clock.left now))

/-- The reply data of READ_ADMISSION (R70, R194). -/
def Adm.bytes (a : Adm) (now : Time) : List Byte :=
  [byteOf a.accepted.code, byteOf a.demanded.code, byteOf a.directive.code, byteOf a.intake.code,
    byteOf (cabCode a.cab), byteOfBool a.sealLine, byteOf (doorFlags a.doors)] ++
  halfBytes (tenths (timeLeft now a.hold)) ++
  [byteOfBool a.breach.isSome] ++
  halfBytes (match a.breach with | none => 0 | some since => min 65535 (tenths (now - since))) ++
  purgeBytes now a.purge ++
  [byteOf ((if a.cabCo then 1 else 0) + (if a.breathing then 2 else 0) + (if a.sealImpaired then 4 else 0)),
    byteOf (match a.check with | none => 0 | some st => st.code),
    byteOrNone a.ordered[0], byteOrNone a.ordered[1], byteOrNone a.ordered[2], byteOf a.fresh, byteOf a.minFresh]

/-- READ_ADMISSION (R70, R194). -/
def execReadAdmission (s : State) : Out :=
  s.take .readAdmission fun s => s.answer .readAdmission .ok (s.shownAdm.bytes s.now)

end Sys2Proof.Machine
end

