-- ==== Sys2Proof/Machine/Movers.lean ====
section
/-! DEFINITION. Air Movers and Cab Pressure (06): the update and the ramp, the speed measurement, stall and
restart, the demands, the pressure loop, the filter watch, the requests, entry to RUN and leaving it. -/

namespace Sys2Proof.Machine

/-! ### One mover -/

/-- A mover record. -/
def State.mover (s : State) (m : MoverIx) : Mover := s.mov.movers[m]

/-- A mover record replaced. -/
def State.putMover (s : State) (m : MoverIx) (r : Mover) : State :=
  { s with mov := { s.mov with movers := s.mov.movers.set m r } }

/-- R123: the step limit of one update. -/
def MoverSettings.stepLimit (c : MoverSettings) : Nat := max 1 (c.rampRate / 10)

/-- R123: one ramp step of a duty toward a demand. -/
def rampStep (limit duty demand : Nat) : Nat :=
  if duty < demand then duty + min limit (demand - duty) else duty - min limit (duty - demand)

/-- R126: the stall condition, `watched` saying that the part is in RUN with both functions bound. -/
def Mover.stallHolds (r : Mover) (watched : Bool) : Bool :=
  watched && decide (r.state = .running) && decide (r.settings.minStallDuty ≤ r.duty) &&
    decide (r.speed < r.settings.stallSpeed)

/-- R126: one judgement of the stall condition. -/
def Mover.judgeStall (r : Mover) (now : Time) (watched : Bool) : Mover :=
  { r with stall := if r.stallHolds watched then startIfStopped r.stall (inMs now r.settings.stallTime) else none }

/-- R128: the clean-run time. -/
def cleanRunDue (now : Time) : Time := inSec now 60

/-- R123: an update of an OFF mover. -/
def Mover.updateOff (r : Mover) (now : Time) : Mover :=
  if 0 < r.demand then
    { r with
      state := .running, retry := 0, cleanRun := some (cleanRunDue now)
      duty := rampStep r.settings.stepLimit 0 r.demand }
  else r

/-- R123: an update of a RUNNING mover. -/
def Mover.updateRunning (r : Mover) (now : Time) (watched : Bool) : Mover :=
  let duty := rampStep r.settings.stepLimit r.duty r.demand
  if duty = 0 ∧ r.demand = 0 then
    { r with state := .off, duty := 0, stall := none, cleanRun := none, retry := 0 }
  else ({ r with duty := duty } : Mover).judgeStall now watched

/-- R123: an update, by the mover's state; the update timer restarts. -/
def Mover.step (r : Mover) (now : Time) (watched : Bool) : Mover :=
  let r := { r with update := some (inMs now 100) }
  match r.state with
  | .off => r.updateOff now
  | .running => r.updateRunning now watched
  | .stalled | .failed => { r with duty := 0 }

/-- R126: the part is in RUN and both PWM and TACH of a mover are bound. -/
def State.stallWatched (s : State) (m : MoverIx) : Bool := s.inRun && s.bound (.pwm m) && s.bound (.tach m)

/-- R125: a measured speed; a change of it is judged against the stall condition. -/
def Mover.measured (r : Mover) (now : Time) (watched : Bool) (speed : Nat) : Mover :=
  if speed = r.speed then r else ({ r with speed := speed } : Mover).judgeStall now watched

/-- R125: the speed that an interval of microseconds above 0 measures. -/
def speedOf (interval : Time) : Nat := min 65535 (30000000 / interval)

/-- R125: an active edge; the speed that an interval of 0 measures is given. -/
def Mover.edgeTaken (r : Mover) (now : Time) (watched : Bool) (unstated : Nat) : Mover :=
  let speed := match r.lastEdge with
    | none => r.speed
    | some t => if now - t = 0 then unstated else speedOf (now - t)
  { r.measured now watched speed with lastEdge := some now, edge := some (inMs now 500) }

/-- The interval of an edge is 0, so that its speed is a free value (assumption 8). -/
def Mover.edgeUnstated (r : Mover) (now : Time) : Bool :=
  match r.lastEdge with
  | none => false
  | some t => decide (now - t = 0)

/-- R125: an active edge of a bound TACH reaches MOV. -/
def State.tachEffect (s : State) (m : MoverIx) : State :=
  if s.bound (.tach m) then
    let r := s.mover m
    (s.putMover m (r.edgeTaken s.now (s.stallWatched m) (Config.freeSpeed s.free).toNat)).spendFree
      (if r.edgeUnstated s.now then 1 else 0)
  else s

/-- R125: the measurement with nothing measured, as at binding, rebinding and unbinding of TACH. -/
def Mover.unmeasured (r : Mover) : Mover := { r with speed := 0, edge := none, lastEdge := none }

/-- R125, R162: TACH is bound, rebound with another invert, or unbound. -/
def State.tachStart (s : State) (m : MoverIx) : State := s.putMover m (s.mover m).unmeasured

/-! ### Demand -/

/-- R129: the purge demand. -/
def Picture.purgeDemand (p : Picture) : Nat := if p.purge.isSome then 100 else 0

/-- LIMIT or SCRUB (R130, R131). -/
def AdmState.pressurised : AdmState → Bool
  | .limit | .scrub => true
  | .inactive | .opened | .seal => false

/-- R130: the PRESS demand. -/
def pressDemand (inRun : Bool) (p : Picture) (loopDuty breachDuty : Nat) : Nat :=
  if !inRun ∨ p.accepted = .inactive then 0
  else match p.purge with
    | some .fresh | some .scrubbed => 100
    | some .recirc => 0
    | none =>
      if p.accepted.pressurised then if p.breach then breachDuty else loopDuty
      else 0

/-- A mover's demand replaced; the mover heads for it from its next update on (R123). -/
def State.setDemand (s : State) (m : MoverIx) (n : Nat) : State := s.putMover m { s.mover m with demand := n }

/-- R129: the FRONT blower's demand formed. -/
def State.formFront (s : State) : State := s.setDemand 0 (max s.mov.front s.mov.picture.purgeDemand)

/-- R129: the REAR blower's demand formed. -/
def State.formRear (s : State) : State := s.setDemand 1 (max s.mov.rear s.mov.picture.purgeDemand)

/-- R130: the PRESS demand formed. -/
def State.formPress (s : State) : State :=
  s.setDemand 2 (pressDemand s.inRun s.mov.picture s.mov.loop.duty s.mov.pressure.breachDuty)

/-- R129, R130: every demand formed. -/
def State.formDemands (s : State) : State := s.formFront.formRear.formPress

/-! ### The pressure loop -/

/-- R131: the phase that an admission picture gives. -/
def phaseOf (inRun : Bool) (p : Picture) : LoopPhase :=
  if inRun ∧ p.accepted.pressurised ∧ p.purge.isNone then (if p.breach then .holding else .running) else .inactive

/-- The loop update timer of a phase that is entered (R131). -/
def LoopPhase.timer (p : LoopPhase) (now : Time) : Option Time :=
  match p with
  | .running => some (inMs now 500)
  | .inactive | .holding => none

/-- R131: a judgement of the phase; `press` is ADM's press fraction. -/
def Loop.enter (l : Loop) (now : Time) (press : Nat) (p : LoopPhase) : Loop :=
  match l.phase, p with
  | .inactive, .inactive => l
  | .running, .running => l
  | .holding, .holding => l
  | .inactive, _ =>
    { phase := p, duty := press, lastError := 0, lostFlag := false, lost := none, update := p.timer now }
  | .holding, .running => { l with phase := .running, update := p.timer now }
  | .running, .holding => { l with phase := .holding, update := none, lost := none }
  | _, .inactive => { l with phase := .inactive, update := none, lost := none, duty := 0 }

/-- R131: MOV judges the phase. -/
def State.judgePhase (s : State) : State :=
  { s with
    mov := { s.mov with
      loop := s.mov.loop.enter s.now s.adm.settings.pressFraction (phaseOf s.inRun s.mov.picture) } }

/-- R132: the saturated error. -/
def loopError (target : Nat) (cpd : Int) : Int := clampInt (-2000) 2000 ((target : Int) - cpd)

/-- R132: the limited step. -/
def loopStep (gain : Nat) (err : Int) : Int := clampInt (-5) 5 (rha (err * gain) 256)

/-- R132: the loop after an update that reads a CPD; its timer restarts. -/
def Loop.step (l : Loop) (now : Time) (c : PressureSettings) (cpd : Status × Int) : Loop :=
  let l := { l with update := some (inMs now 500) }
  if cpd.1 = .usable then
    let err := loopError c.target cpd.2
    { l with duty := (clampInt 0 100 (l.duty + loopStep c.gain err)).toNat, lastError := err }
  else l

/-- R133: the pressure-lost condition. -/
def Loop.lostHolds (l : Loop) (c : PressureSettings) (cpd : Status × Int) : Bool :=
  decide (l.phase = .running) && !l.lostFlag && decide (95 ≤ l.duty) && decide (cpd.1 = .usable) &&
    decide (2 * cpd.2 < c.target)

/-- R133: one judgement of the pressure-lost watch. -/
def Loop.judgeLost (l : Loop) (now : Time) (c : PressureSettings) (cpd : Status × Int) : Loop :=
  { l with lost := if l.lostHolds c cpd then startIfStopped l.lost (inSec now 30) else none }

/-- A channel's status and value as MOV reads them (R132). -/
def State.pressureView (s : State) : Status × Int := (s.channelStatus 13, (s.channel 13).value)

/-- The loop record replaced. -/
def State.putLoop (s : State) (l : Loop) : State := { s with mov := { s.mov with loop := l } }

/-! ### The filter watch -/

/-- R134: a report of SC14 at the filter watch. -/
def Filter.take (f : Filter) (now : Time) (limit : Nat) (status : Status) (value : Int) : Filter :=
  let loaded := decide (status = .usable) && decide ((limit : Int) ≤ value)
  match f.phase with
  | .armed => if loaded then ⟨.timing, some (inSec now 10)⟩ else f
  | .timing => if loaded then f else ⟨.armed, none⟩
  | .raised => if !loaded && decide (status = .usable) && decide (10 * value < 9 * (limit : Int)) then ⟨.armed, none⟩ else f

/-! ### Entry to RUN, leaving RUN, link reset -/

/-- The movers in index order. -/
def allMovers : List MoverIx := List.finRange 3

/-- R139: MOV's entry to RUN. -/
def State.movEnterRun (s : State) : State :=
  let s1 := { s with
    mov := { s.mov with
      picture := s.adm.picture, front := s.zon.out.front, rear := s.zon.out.rear
      movers := tableMap (fun (r : Mover) => { r with update := some (inMs s.now 100) }) s.mov.movers } }
  s1.judgePhase.formDemands

/-- R140: a mover at leaving RUN and at link reset. -/
def Mover.leave (r : Mover) : Mover :=
  let r := { r with duty := 0, update := none, demand := 0 }
  match r.state with
  | .running | .stalled => { r with state := .off, retry := 0, stall := none, restart := none, cleanRun := none }
  | .off | .failed => r

/-- R140: the loop at leaving RUN and at link reset. -/
def Loop.leave (l : Loop) : Loop :=
  { l with phase := .inactive, duty := 0, update := none, lost := none, lostFlag := false }

/-- R140: MOV leaves RUN. -/
def State.movLeaveRun (s : State) : State :=
  { s with
    mov := { s.mov with
      movers := tableMap Mover.leave s.mov.movers, loop := s.mov.loop.leave
      picture := pictureNone, front := 0, rear := 0 } }

/-- R140: MOV's link reset. -/
def State.movLinkReset (s : State) : State :=
  let s' := s.movLeaveRun
  if s.part.retain then s'
  else
    { s' with
      mov := { s'.mov with
        movers := tableMap (fun (r : Mover) => { r with settings := moverDefaults }) s'.mov.movers
        pressure := pressureDefaults } }

/-! ### The events -/

/-- MOVER_UPDATE (R123, R124, R126). -/
def execMoverUpdate (m : MoverIx) (s : State) : Out :=
  s.own fun s =>
    match (s.mover m).update with
    | none => s
    | some _ => s.putMover m ((s.mover m).step s.now (s.stallWatched m))

/-- TACH_EDGE (R125, R126): an active edge of TACHn. -/
def execTachEdge (m : MoverIx) (s : State) : Out := s.take (.tachEdge m) fun s => s.tachEffect m

/-- EDGE_TIMER_EXPIRY (R125, R126): speed 0. -/
def execEdgeTimerExpiry (m : MoverIx) (s : State) : Out :=
  s.own fun s =>
    let r := s.mover m
    match r.edge with
    | none => s
    | some _ => s.putMover m { r.measured s.now (s.stallWatched m) 0 with edge := none, lastEdge := none }

/-- STALL_TIMER_EXPIRY (R126): STALLED. -/
def execStallTimerExpiry (m : MoverIx) (s : State) : Out :=
  s.own fun s =>
    let r := s.mover m
    match r.stall with
    | none => s
    | some _ =>
      s.putMover m
        { r with
          state := .stalled, duty := 0, stall := none, cleanRun := none
          restart := some (inMs s.now r.settings.restartDelay) }

/-- R127: the restart timer of a STALLED mover expires. -/
def State.restartMover (s : State) (m : MoverIx) : State :=
  let r := { s.mover m with retry := (s.mover m).retry + 1, restart := none, duty := 0 }
  if r.settings.retries < r.retry then (s.putMover m { r with state := .failed }).raise asMover (m.val + 256)
  else s.putMover m { r with state := .running, stall := none, cleanRun := some (cleanRunDue s.now) }

/-- RESTART_TIMER_EXPIRY (R127): RUNNING again, or FAILED. -/
def execRestartTimerExpiry (m : MoverIx) (s : State) : Out :=
  s.own fun s =>
    match (s.mover m).restart with
    | none => s
    | some _ => s.restartMover m

/-- CLEAN_RUN_TIMER_EXPIRY (R128): the retry count is 0. -/
def execCleanRunTimerExpiry (m : MoverIx) (s : State) : Out :=
  s.own fun s =>
    match (s.mover m).cleanRun with
    | none => s
    | some _ => s.putMover m { s.mover m with retry := 0, cleanRun := none }

/-- GROUP_DEMAND_CHANGE (R129). -/
def execGroupDemandChange (g : Group) (percent : Nat) (s : State) : Out :=
  s.take (.groupDemandChange g percent) fun s =>
    match g with
    | .front => { s with mov := { s.mov with front := percent } }.formFront
    | .rear => { s with mov := { s.mov with rear := percent } }.formRear

/-- ADMISSION_REPORT (R129 to R131). -/
def execAdmissionReport (picture : Picture) (s : State) : Out :=
  s.take (.admissionReport picture) fun s =>
    { s with mov := { s.mov with picture := picture } }.judgePhase.formDemands

/-- LOOP_UPDATE (R132, R133). The pressure-lost condition is judged after the step, by the new duty: assumption 47. -/
def execLoopUpdate (s : State) : Out :=
  s.own fun s =>
    let l := s.mov.loop
    match l.update with
    | none => s
    | some _ =>
      let cpd := s.pressureView
      (s.putLoop ((l.step s.now s.mov.pressure cpd).judgeLost s.now s.mov.pressure cpd)).formPress

/-- CPD_REPORT (R133). -/
def execCpdReport (status : Status) (value : Int) (s : State) : Out :=
  s.take (.cpdReport status value) fun s =>
    { s with
      mov := { s.mov with cpd := value, loop := s.mov.loop.judgeLost s.now s.mov.pressure (status, value) } }

/-- PRESSURE_LOST_EXPIRY (R133): PRESSURE raised, once in an activation, with the value before any report that
still waits: assumption 31. -/
def execPressureLostExpiry (s : State) : Out :=
  s.own fun s =>
    match s.mov.loop.lost with
    | none => s
    | some _ =>
      (s.putLoop { s.mov.loop with lost := none, lostFlag := true }).raise asPressure (twos16 s.mov.cpd)

/-- FPD_REPORT (R134). -/
def execFpdReport (status : Status) (value : Int) (s : State) : Out :=
  s.take (.fpdReport status value) fun s =>
    { s with
      mov := { s.mov with fpd := value, filter := s.mov.filter.take s.now s.mov.pressure.filterLimit status value } }

/-- FILTER_TIMER_EXPIRY (R134): FILTER raised, with the value before any report that still waits: assumption 31. -/
def execFilterTimerExpiry (s : State) : Out :=
  s.own fun s =>
    match s.mov.filter.timer with
    | none => s
    | some _ =>
      { s with mov := { s.mov with filter := ⟨.raised, none⟩ } }.raise asFilter (twos16 s.mov.fpd)

/-! ### The requests -/

/-- SET_MOVER (R135). -/
def execSetMover (mover rampRate : Byte) (stallSpeed stallTime : Half) (minStallDuty : Byte) (restartDelay : Half)
    (retries : Byte) (s : State) : Out :=
  s.take (.setMover mover rampRate stallSpeed stallTime minStallDuty restartDelay retries) fun s =>
    match indexOf 3 mover with
    | none => s.status .setMover .range
    | some m =>
      let sent := moverSettingsOf rampRate stallSpeed stallTime minStallDuty restartDelay retries
      (s.putMover m { s.mover m with settings := sent.clamp }).status .setMover (clampStatus (sent.clamp != sent))

/-- SET_PRESSURE (R136). -/
def execSetPressure (target : Half) (gain breachDuty : Byte) (filterLimit : Half) (s : State) : Out :=
  s.take (.setPressure target gain breachDuty filterLimit) fun s =>
    let sent := pressureSettingsOf target gain breachDuty filterLimit
    ({ s with mov := { s.mov with pressure := sent.clamp } }.formPress).status .setPressure
      (clampStatus (sent.clamp != sent))

/-- MOVER_RESTART (R137). -/
def execMoverRestart (mover : Byte) (s : State) : Out :=
  s.take (.moverRestart mover) fun s =>
    match indexOf 3 mover with
    | none => s.status .moverRestart .range
    | some m =>
      let r := s.mover m
      if r.state = .failed then
        (s.putMover m { r with state := .off, retry := 0, duty := 0, stall := none, restart := none, cleanRun := none }).status
          .moverRestart .ok
      else s.status .moverRestart .state

/-- The code of a mover state (R138). -/
def MoverState.code : MoverState → Nat
  | .off => 0
  | .running => 1
  | .stalled => 2
  | .failed => 3

/-- The code of a loop phase (R138). -/
def LoopPhase.code : LoopPhase → Nat
  | .inactive => 0
  | .running => 1
  | .holding => 2

/-- The code of a filter watch phase (R138). -/
def FilterPhase.code : FilterPhase → Nat
  | .armed => 0
  | .timing => 1
  | .raised => 2

/-- One mover's entry of READ_MOVERS (R138). -/
def Mover.bytes (r : Mover) : List Byte :=
  [byteOf r.state.code, byteOf r.demand, byteOf r.duty] ++ halfBytes r.speed ++
    [byteOf r.retry, byteOfBool r.stall.isSome]

/-- READ_MOVERS (R138). -/
def execReadMovers (s : State) : Out :=
  s.take .readMovers fun s =>
    let l := s.mov.loop
    s.answer .readMovers .ok
      (s.mov.movers.toList.flatMap Mover.bytes ++ [byteOf l.phase.code, byteOf l.duty] ++ halfBytesInt l.lastError ++
        [byteOfBool l.lostFlag, byteOf s.mov.filter.phase.code])

end Sys2Proof.Machine
end

