-- ==== Sys2Proof/Machine/Terminals.lean ====
section
/-! DEFINITION. Terminals and Binding (08): the pin levels and the debounce, BIND, rebinding and UNBIND with
what they hand the owners, and READ_BINDING. -/

namespace Sys2Proof.Machine

/-! ### Entries and the map -/

/-- A terminal entry. -/
def State.terminal (s : State) (t : TerminalIx) : Terminal := s.trm.entries[t]

/-- A terminal entry replaced. -/
def State.putTerminal (s : State) (t : TerminalIx) (e : Terminal) : State :=
  { s with trm := { s.trm with entries := s.trm.entries.set t e } }

/-- The map's place of a function replaced (R158). -/
def State.mapFunc (s : State) (f : Func) (t : Option TerminalIx) : State :=
  { s with trm := { s.trm with map := s.trm.map.set f.slot t } }

/-- R158, R164: a pin level read through the invert. -/
def Terminal.active (e : Terminal) : Bool := e.level != e.invert

/-- The entry carries a digital input function (R159). -/
def Terminal.isDigitalInput (e : Terminal) : Bool :=
  match e.func with
  | none => false
  | some f => f.isDigitalInput

/-! ### The events of an input at its owner -/

/-- The event that a level change or an edge of an input function is at its owner (R161, R164). -/
def Func.event (f : Func) (asserted : Bool) : Option Instr :=
  match f with
  | .home d => some (.homeChange d asserted)
  | .door d => some (.doorChange d asserted)
  | .laneFlt l => some (.laneFltChange l asserted)
  | .sealReq => some (.sealReqChange asserted)
  | .auxFlame => some (.auxFlameChange asserted)
  | .tach m => some (.tachEdge m)
  | .sc _ | .sel _ | .step _ | .dir _ | .hvOpen | .auxRun | .pwm _ => none

/-- A level of an input function reaches its owner at once, as within BIND and UNBIND (R161). -/
def State.levelEffect (s : State) (f : Func) (asserted : Bool) : State :=
  match f with
  | .home d => s.homeEffect d asserted
  | .door d => s.doorEffect d asserted
  | .laneFlt l => s.laneFltEffect l asserted
  | .sealReq => s.sealEffect asserted
  | .auxFlame => s.flameEffect asserted
  | .tach m => s.tachEffect m
  | .sc _ | .sel _ | .step _ | .dir _ | .hvOpen | .auxRun | .pwm _ => s

/-- What a handed event is of a function: its level. -/
def Func.levelOf (f : Func) (c : Instr) : Option Bool :=
  if f.event true = some c then some true else if f.event false = some c then some false else none

/-- Events of a function that were handed before a binding or unbinding of it reach the owner first (R161,
R164: the owner takes a terminal's events in the order in which TRM hands them). -/
def State.flush (s : State) (f : Func) : State :=
  (s.handed.filterMap f.levelOf).foldl (fun t b => t.levelEffect f b)
    { s with handed := s.handed.filter fun c => (f.levelOf c).isNone }

/-- A level event of a function handed to its owner. -/
def State.handLevel (s : State) (f : Func) (asserted : Bool) : State :=
  match f.event asserted with
  | none => s
  | some c => s.hand c

/-! ### Binding and unbinding at the owners -/

/-- The other function of a damper's or lane's pair (R112, R161). -/
def Func.partner (f : Func) : Option Func :=
  match f with
  | .home d => some (.sel d)
  | .sel d => some (.home d)
  | .step l => some (.dir l)
  | .dir l => some (.step l)
  | .sc _ | .door _ | .laneFlt _ | .sealReq | .auxFlame | .tach _ | .hvOpen | .auxRun | .pwm _ => none

/-- The partner of a function is bound. -/
def State.partnerBound (s : State) (f : Func) : Bool :=
  match f.partner with
  | none => false
  | some g => s.bound g

/-- R161: the binding of a function reaches its owner; a pair is completed only where its partner is bound. -/
def State.ownerBind (s : State) (f : Func) : State :=
  match f with
  | .sc ch => s.bindChannel ch
  | .home d | .sel d => if s.partnerBound f then s.drive fun w => w.damperPresent d else s
  | .step l | .dir l => if s.partnerBound f then s.drive fun w => w.lanePresent l else s
  | .tach m => s.tachStart m
  | .door _ | .laneFlt _ | .sealReq | .auxFlame | .hvOpen | .auxRun | .pwm _ => s

/-- R161, R163: the unbinding of a function reaches its owner. -/
def State.ownerUnbind (s : State) (f : Func) : State :=
  match f with
  | .sc ch => s.unbindChannel ch
  | .home d | .sel d => if s.partnerBound f then s.drive fun w => w.damperAbsent d else s
  | .step l | .dir l => if s.partnerBound f then s.drive fun w => w.laneAbsent l else s
  | .tach m => s.tachStart m
  | .door _ | .laneFlt _ | .sealReq | .auxFlame | .hvOpen | .auxRun | .pwm _ => s

/-- What a BIND sets beside the function (R160). -/
structure BindSettings where
  invert : Bool
  debounce : Debounce
  openDrain : Bool
  deriving DecidableEq, Repr

/-- An entry with a binding's settings, its debounce timer stopped. -/
def Terminal.withSettings (e : Terminal) (c : BindSettings) : Terminal :=
  { e with invert := c.invert, debounce := c.debounce, openDrain := c.openDrain, timer := none }

/-- R160, R161: a new binding. -/
def State.bindNew (s : State) (t : TerminalIx) (f : Func) (c : BindSettings) : State :=
  let e := (s.terminal t).withSettings c
  let e := { e with func := some f, debounced := f.isDigitalInput && e.active }
  let s1 := (((s.flush f).putTerminal t e).mapFunc f (some t)).ownerBind f
  if e.debounced then s1.levelEffect f true else s1

/-- R162: a rebinding. -/
def State.rebind (s : State) (t : TerminalIx) (f : Func) (c : BindSettings) : State :=
  let old := s.terminal t
  let e := old.withSettings c
  let e := { e with debounced := f.isDigitalInput && e.active }
  let s1 := (s.flush f).putTerminal t e
  match f with
  | .tach m => if old.invert = c.invert then s1 else s1.tachStart m
  | .home _ | .door _ | .laneFlt _ | .sealReq | .auxFlame =>
    if e.debounced = old.debounced then s1 else s1.levelEffect f e.debounced
  | .sc _ | .sel _ | .step _ | .dir _ | .hvOpen | .auxRun | .pwm _ => s1

/-- R161, R163: an unbinding, a negation first where the function is an asserted digital input. -/
def State.unbindTerminal (s : State) (t : TerminalIx) (f : Func) : State :=
  let e := s.terminal t
  let s1 := s.flush f
  let s2 := if e.debounced then s1.levelEffect f false else s1
  ((s2.ownerUnbind f).mapFunc f none).putTerminal t (terminalReset e.level)

/-! ### The requests -/

/-- A flag field of a request, refused above 1 (R189). -/
def flagOf (b : Byte) : Option Bool :=
  match b.toNat with
  | 0 => some false
  | 1 => some true
  | _ => none

/-- The fields of a BIND, where each is in range (R160). -/
def bindFields (terminal function invert debounce drive : Byte) : Option (TerminalIx × Func × BindSettings) :=
  match indexOf 48 terminal, Func.ofCode function.toNat, flagOf invert, Debounce.ofCode debounce, flagOf drive with
  | some t, some f, some i, some d, some o => some (t, f, ⟨i, d, o⟩)
  | _, _, _, _, _ => none

/-- BIND (R160 to R162). -/
def execBind (terminal function invert debounce drive : Byte) (s : State) : Out :=
  s.take (.bind terminal function invert debounce drive) fun s =>
    if s.inConfig then
      match bindFields terminal function invert debounce drive with
      | none => s.status .bind .range
      | some (t, f, c) =>
        if !f.allowedOn t then s.status .bind .range
        else match (s.terminal t).func with
          | some g => if g = f then (s.rebind t f c).status .bind .ok else s.status .bind .inUse
          | none => if s.bound f then s.status .bind .bound else (s.bindNew t f c).status .bind .ok
    else s.status .bind .state

/-- UNBIND (R163). -/
def execUnbind (terminal : Byte) (s : State) : Out :=
  s.take (.unbind terminal) fun s =>
    if s.inRun then s.status .unbind .state
    else match indexOf 48 terminal with
      | none => s.status .unbind .range
      | some t =>
        match (s.terminal t).func with
        | none => s.status .unbind .ok
        | some f => (s.unbindTerminal t f).status .unbind .ok

/-- The code of an entry's function, 0 for NONE (R159, R166). -/
def funcCode : Option Func → Nat
  | none => 0
  | some f => f.code

/-- One entry of READ_BINDING, with a level for a pin whose level the rules do not state (R194). -/
def State.terminalBytes (s : State) (t : TerminalIx) (bit : Bool) : List Byte :=
  let e := s.terminal t
  [byteOf t.val, byteOf (funcCode e.func),
    byteOf ((if e.invert then 1 else 0) + 2 * e.debounce.code + (if e.openDrain then 8 else 0)),
    byteOf ((if s.pinLevel t bit then 1 else 0) + (if e.debounced then 2 else 0) + (if e.timer.isSome then 4 else 0))]

/-- The entries of READ_BINDING, one after another; each unstated pin level is a free value of its own. -/
def State.bindingBytes (s : State) : List TerminalIx → List Byte
  | [] => []
  | t :: ts =>
    s.terminalBytes t (Config.freeLevel s.free) ++ (s.spendFree (if s.pinUnstated t then 1 else 0)).bindingBytes ts

/-- The terminals that a READ_BINDING from `first` shows: up to eight (R166). -/
def shownTerminals (first : TerminalIx) : List TerminalIx := ((List.finRange 48).drop first.val).take 8

/-- READ_BINDING (R166, R194). -/
def execReadBinding (first : Byte) (s : State) : Out :=
  s.take (.readBinding first) fun s =>
    match indexOf 48 first with
    | none => s.status .readBinding .range
    | some t =>
      let shown := shownTerminals t
      (s.answer .readBinding .ok (byteOf shown.length :: s.bindingBytes shown)).spendFree
        (shown.countP fun u => s.pinUnstated u)

/-! ### The events -/

/-- R164: the debounced state takes the level at the pin; the owner is handed a change of it. -/
def State.takeLevel (s : State) (t : TerminalIx) (f : Func) : State :=
  let e := s.terminal t
  let s1 := s.putTerminal t { e with debounced := e.active, timer := none }
  if e.active = e.debounced then s1 else s1.handLevel f e.active

/-- R164: a pin change at a bound digital input. -/
def State.debounce (s : State) (t : TerminalIx) (f : Func) : State :=
  let e := s.terminal t
  if e.debounce = .ms0 then s.takeLevel t f
  else s.putTerminal t
    { e with timer := if e.active = e.debounced then none else some (inMs s.now e.debounce.ms) }

/-- R164: a change of the level at a pin. -/
def State.pinChanged (s : State) (t : TerminalIx) (high : Bool) : State :=
  let e := { s.terminal t with level := high }
  let s1 := s.putTerminal t e
  match e.func with
  | none => s1
  | some (.tach m) => if e.active then s1.hand (.tachEdge m) else s1
  | some f => if f.isDigitalInput then s1.debounce t f else s1

/-- PIN_CHANGE (R164): a level that the pin already has is no change. In INIT no terminal carries a function,
and only the level at the pin is kept. -/
def execPinChange (t : TerminalIx) (high : Bool) (s : State) : Out :=
  .next (if (s.terminal t).level = high then s else s.pinChanged t high)

/-- DEBOUNCE_TIMER_EXPIRY (R164). -/
def execDebounceTimerExpiry (t : TerminalIx) (s : State) : Out :=
  s.own fun s =>
    match (s.terminal t).timer, (s.terminal t).func with
    | some _, some f => s.takeLevel t f
    | _, _ => s

end Sys2Proof.Machine
end

