-- ==== Sys2Proof/Machine/Zones.lean ====
section
/-! DEFINITION. Zones and Crew Demand (04): the zone update, the part-wide outputs, defrost, entry to RUN and
leaving it, and the requests. -/

namespace Sys2Proof.Machine

/-! ### A zone's fixed connections (R71) -/

/-- The temperature channel of a zone. -/
def zoneTemperature (z : ZoneIx) : ChannelIx := ⟨z.val + 2, by omega⟩

/-- The blower group of a zone. -/
def zoneGroup (z : ZoneIx) : Group := if z.val < 2 then .front else .rear

/-- The CO2 channel of a zone. -/
def zoneCo2 (z : ZoneIx) : ChannelIx := match zoneGroup z with | .front => 11 | .rear => 12

/-- The discharge channel of a zone's group. -/
def zoneDischarge (z : ZoneIx) : ChannelIx := match zoneGroup z with | .front => 6 | .rear => 7

/-- The blend damper of a zone. -/
def zoneDamper (z : ZoneIx) : DamperIx := ⟨z.val + 3, by omega⟩

/-! ### The zone update -/

/-- What a zone update reads: the statuses and values of its channels and the heat availability (R73). -/
structure ZoneInputs where
  temperature : Status × Int
  co2 : Status × Int
  discharge : Status × Int
  heat : Bool
  deriving DecidableEq, Repr

/-- A channel's status and value as they stand (R13). -/
def State.channelView (s : State) (ch : ChannelIx) : Status × Int := (s.channelStatus ch, (s.channel ch).value)

/-- R73: what a zone's update reads. -/
def State.zoneInputs (s : State) (z : ZoneIx) : ZoneInputs :=
  { temperature := s.channelView (zoneTemperature z), co2 := s.channelView (zoneCo2 z)
    discharge := s.channelView (zoneDischarge z), heat := s.heu.heatAvailable }

/-- R74: the saturated error. -/
def zoneError (setpoint : Nat) (t : Int) : Int := clampInt (-200) 200 ((setpoint : Int) - t)

/-- R75, R76: the discharge limit applies. -/
def Tuning.dischargeHot (c : Tuning) (i : ZoneInputs) : Bool :=
  decide (i.discharge.1 = .usable) && decide (c.discharge ≤ i.discharge.2)

/-- R75: the integral's move is held. -/
def Zone.integralHeld (z : Zone) (c : Tuning) (i : ZoneInputs) (e : Int) : Bool :=
  (decide (z.blend = 100) && decide (0 < e)) || (decide (z.blend = 0) && decide (e < 0)) ||
  (decide (0 < e) && !i.heat) || (decide (0 < e) && c.dischargeHot i)

/-- R75: the integral after an ACTIVE update. -/
def Zone.nextIntegral (z : Zone) (c : Tuning) (i : ZoneInputs) (e : Int) : Int :=
  if z.integralHeld c i e then z.integral else clampInt (-50) 50 (z.integral + rha (e * c.ki) 1024)

/-- R76: the blend target that a demand computes. -/
def blendOf (d : Int) : Nat := ((d + 100) / 2).toNat

/-- R74 to R77: the computation of an ACTIVE update. -/
def Zone.control (z : Zone) (c : Tuning) (i : ZoneInputs) : Zone :=
  let e := zoneError z.setpoint i.temperature.2
  let integral := z.nextIntegral c i e
  let d := clampInt (-100) 100 (rha (e * c.kp) 64 + integral)
  { z with
    mode := .active, error := e, integral := integral, demand := d
    blend := if c.dischargeHot i then min (blendOf d) z.blend else blendOf d
    blower := max c.minBlower d.natAbs }

/-- R79: the CO2 part of the fresh demand. -/
def Tuning.co2Part (c : Tuning) (co2 : Status × Int) : Nat :=
  if co2.1 = .usable then
    if co2.2 ≤ c.co2Low then 0
    else if (c.co2High : Int) ≤ co2.2 then 100
    else ((co2.2 - c.co2Low) * 100 / ((c.co2High : Int) - c.co2Low)).toNat
  else 50

/-- R79, R80: the fresh demand and the breathing judgement of an update. -/
def Zone.air (z : Zone) (c : Tuning) (i : ZoneInputs) : Zone :=
  { z with
    fresh := min 100 (max (c.co2Part i.co2) (z.occupancy * c.occupantFresh))
    breathing := decide (1 ≤ z.occupancy) && decide (i.co2.1 = .usable) && decide ((c.hardLimit : Int) ≤ i.co2.2) }

/-- R74 to R80: a zone record after its update, before the blend order. -/
def Zone.step (z : Zone) (c : Tuning) (i : ZoneInputs) : Zone :=
  (if i.temperature.1 = .usable then z.control c i else { z with mode := .hold }).air c i

/-- R77: the reason of a ZONE raise. -/
def Status.zoneReason : Status → Nat
  | .usable => 0
  | .held => 1
  | .failed => 2
  | .absent => 3

/-- A zone record. -/
def State.zone (s : State) (z : ZoneIx) : Zone := s.zon.zones[z]

/-- A zone record replaced. -/
def State.putZone (s : State) (z : ZoneIx) (r : Zone) : State :=
  { s with zon := { s.zon with zones := s.zon.zones.set z r } }

/-- R78: a blend order where the blend target differs from the ordered blend. -/
def State.orderBlend (s : State) (z : ZoneIx) : State :=
  let r := s.zone z
  if r.ordered = some r.blend then s
  else (s.putZone z { r with ordered := some r.blend }).order (zoneDamper z) r.blend .normal .zon

/-- R77: ZONE is raised on entry to HOLD from ACTIVE. -/
def State.raiseHold (s : State) (z : ZoneIx) (before : ZoneMode) (st : Status) : State :=
  if st ≠ .usable ∧ before = .active then s.raise asZone (z.val + 256 * st.zoneReason) else s

/-- R74 to R78: one update of a zone, its timer started again; the outputs are recomputed after it. -/
def State.stepZone (s : State) (z : ZoneIx) : State :=
  let r := s.zone z
  let i := s.zoneInputs z
  ((s.putZone z { r.step s.zon.tuning i with update := some (inMs s.now 1000) }).raiseHold z r.mode
    i.temperature.1).orderBlend z

/-! ### Outputs -/

/-- The largest of a demand over the zones that count (R79, R81). -/
def largest (zs : List Zone) (f : Zone → Nat) : Nat := zs.foldl (fun m z => max m (f z)) 0

/-- The enabled zones (R79). -/
def Zon.enabledZones (r : Zon) : List Zone := r.zones.toList.filter fun z => z.enabled

/-- The enabled zones of a group (R81). -/
def Zon.groupZones (r : Zon) : Group → List Zone
  | .front => [r.zones[0], r.zones[1]].filter fun z => z.enabled
  | .rear => [r.zones[2], r.zones[3]].filter fun z => z.enabled

/-- R81: the group demands. -/
def Zon.groupDemand (r : Zon) (g : Group) : Nat :=
  let d := largest (r.groupZones g) fun z => z.blower
  match g with
  | .front => if r.defrost then max 80 d else d
  | .rear => d

/-- R79 to R82: the outputs in RUN. -/
def Zon.outputs (r : Zon) : ZonOutputs :=
  { fresh := largest r.enabledZones fun z => z.fresh
    breathing := r.enabledZones.any fun z => z.breathing
    front := r.groupDemand .front, rear := r.groupDemand .rear
    heat := largest r.enabledZones fun z => z.demand.toNat }

/-- The events that a change of the outputs hands to their readers (R79 to R82). -/
def outputEvents (old new : ZonOutputs) : List Instr :=
  (if new.fresh = old.fresh then [] else [.zonOutputChange (.fresh new.fresh)]) ++
  (if new.breathing = old.breathing then [] else [.zonOutputChange (.breathing new.breathing)]) ++
  (if new.front = old.front then [] else [.groupDemandChange .front new.front]) ++
  (if new.rear = old.rear then [] else [.groupDemandChange .rear new.rear]) ++
  (if new.heat = old.heat then [] else [.heatDemandChange new.heat])

/-- The outputs replaced, each change handed to its reader. -/
def State.setOutputs (s : State) (o : ZonOutputs) : State :=
  { s with zon := { s.zon with out := o } }.handAll (outputEvents s.zon.out o)

/-- R79 to R82: every output recomputed; outside RUN each is 0 or clear (R73). -/
def State.recompute (s : State) : State := s.setOutputs (if s.inRun then s.zon.outputs else zonOutputsZero)

/-- R81: the group demands recomputed. -/
def State.recomputeGroups (s : State) : State :=
  s.setOutputs
    { s.zon.out with
      front := if s.inRun then s.zon.groupDemand .front else 0
      rear := if s.inRun then s.zon.groupDemand .rear else 0 }

/-! ### Entry to RUN and leaving it -/

/-- The zones in index order. -/
def allZones : List ZoneIx := List.finRange 4

/-- R84, R87: an enabled zone starts, and takes its first update at once. -/
def State.startZone (s : State) (z : ZoneIx) : State :=
  (s.putZone z { s.zone z with mode := .active, ordered := none, breathing := false }).stepZone z

/-- R83: the percent of the DEFROST damper for the flag. -/
def defrostPercent (flag : Bool) : Nat := if flag then 100 else 0

/-- R83, R84: the DEFROST damper ordered to the flag's percent. -/
def State.orderDefrost (s : State) : State :=
  let p := defrostPercent s.zon.defrost
  { s with zon := { s.zon with orderedDefrost := some p } }.order 7 p .normal .zon

/-- R84: ZON's entry to RUN. -/
def State.zonEnterRun (s : State) : State :=
  ((allZones.foldl (fun t z => if (t.zone z).enabled then t.startZone z else t) s).orderDefrost).recompute

/-- R85: a zone at leaving RUN and at link reset. -/
def Zone.leave (z : Zone) : Zone :=
  { z with
    mode := .off, update := none, integral := 0, error := 0, demand := 0, blend := 0, fresh := 0, blower := 0
    breathing := false, ordered := none, occupancy := 0 }

/-- R85: ZON leaves RUN. -/
def State.zonLeaveRun (s : State) : State :=
  ({ s with zon := { s.zon with zones := tableMap Zone.leave s.zon.zones, orderedDefrost := none } }).setOutputs
    zonOutputsZero

/-- R85: ZON's link reset. -/
def State.zonLinkReset (s : State) : State :=
  let s' := s.zonLeaveRun
  if s.part.retain then s'
  else
    { s' with
      zon := { s'.zon with
        zones := tableMap (fun z => { z with enabled := false, setpoint := setpointDefault }) s'.zon.zones
        tuning := tuningDefaults, defrost := false } }

/-! ### The event -/

/-- ZONE_UPDATE (R74 to R82): the expiry of a zone's update timer. -/
def execZoneUpdate (z : ZoneIx) (s : State) : Out :=
  s.own fun s =>
    match (s.zone z).update with
    | none => s
    | some _ => (s.stepZone z).recompute

/-! ### The requests -/

/-- R87: a zone disabled in RUN. -/
def State.stopZone (s : State) (z : ZoneIx) : State :=
  (s.putZone z
    { s.zone z with
      update := none, mode := .off, integral := 0, error := 0, demand := 0, blend := 0, breathing := false
      ordered := some 0, fresh := 0, blower := 0 }).order (zoneDamper z) 0 .normal .zon

/-- R87: the enabled flag and setpoint stored, and a change of the flag acted on in RUN. -/
def State.setZone (s : State) (z : ZoneIx) (enabled : Bool) (setpoint : Nat) : State :=
  let r := s.zone z
  let s' := s.putZone z { r with enabled := enabled, setpoint := setpoint }
  if s.inRun ∧ enabled ≠ r.enabled then
    (if enabled then (s'.putZone z { s'.zone z with integral := 0 }).startZone z else s'.stopZone z).recompute
  else s'

/-- SET_ZONE (R87). -/
def execSetZone (zone enabled : Byte) (setpoint : Half) (s : State) : Out :=
  s.take (.setZone zone enabled setpoint) fun s =>
    match indexOf 4 zone with
    | none => s.status .setZone .range
    | some z =>
      if 1 < enabled.toNat then s.status .setZone .range
      else
        let stored := clampNat 100 320 setpoint.toNat
        (s.setZone z (enabled == 1#8) stored).status .setZone (clampStatus (stored != setpoint.toNat))

/-- SET_ZONE_TUNING (R81, R88). -/
def execSetZoneTuning (kp ki : Half) (minBlower : Byte) (co2Low co2High hardLimit : Half) (occupantFresh : Byte)
    (discharge : Half) (s : State) : Out :=
  s.take (.setZoneTuning kp ki minBlower co2Low co2High hardLimit occupantFresh discharge) fun s =>
    let sent := tuningOf kp ki minBlower co2Low co2High hardLimit occupantFresh discharge
    if sent.refusable then s.status .setZoneTuning .range
    else
      let s' := { s with zon := { s.zon with tuning := sent.clamp } }
      (if s.inRun then s'.recomputeGroups else s').status .setZoneTuning (clampStatus (sent.clamp != sent))

/-- SET_CREW (R89). -/
def execSetCrew (zone occupancy : Byte) (s : State) : Out :=
  s.take (.setCrew zone occupancy) fun s =>
    match indexOf 4 zone with
    | none => s.status .setCrew .range
    | some z =>
      (s.putZone z { s.zone z with occupancy := min occupancy.toNat 4 }).status .setCrew
        (clampStatus (decide (4 < occupancy.toNat)))

/-- R83: the defrost flag set, and in RUN acted on. -/
def State.setDefrost (s : State) (flag : Bool) : State :=
  let s' := { s with zon := { s.zon with defrost := flag } }
  if s.inRun then
    (if flag = s.zon.defrost ∧ s.zon.orderedDefrost = some (defrostPercent flag) then s'
      else s'.orderDefrost).recomputeGroups
  else s'

/-- SET_DEFROST (R83). -/
def execSetDefrost (flag : Byte) (s : State) : Out :=
  s.take (.setDefrost flag) fun s =>
    if 1 < flag.toNat then s.status .setDefrost .range
    else (s.setDefrost (flag == 1#8)).status .setDefrost .ok

/-- The code of a mode (R90). -/
def ZoneMode.code : ZoneMode → Nat
  | .off => 0
  | .active => 1
  | .hold => 2

/-- One zone's entry of READ_ZONES (R194). -/
def Zone.bytes (z : Zone) : List Byte :=
  [byteOf ((if z.enabled then 1 else 0) + 2 * z.mode.code + (if z.breathing then 8 else 0))] ++
  halfBytes z.setpoint ++ [byteOf z.occupancy] ++ halfBytesInt z.error ++
  [byteOfInt z.integral, byteOfInt z.demand, byteOf z.blend, byteOrNone z.ordered, byteOf z.fresh, byteOf z.blower]

/-- READ_ZONES (R90, R194). -/
def execReadZones (s : State) : Out :=
  s.take .readZones fun s =>
    let o := s.zon.out
    s.answer .readZones .ok
      (s.zon.zones.toList.flatMap Zone.bytes ++
        [byteOf o.fresh, byteOfBool o.breathing, byteOf o.front, byteOf o.rear, byteOf o.heat,
          byteOfBool s.zon.defrost, byteOrNone s.zon.orderedDefrost])

end Sys2Proof.Machine
end

