-- ==== Sys2Proof/Machine/Operating.lean ====
section
/-! DEFINITION. Operating States (10): hardware reset and INIT, SET_STATE, the link reset, retain, and the reads
of identity and configuration. -/

namespace Sys2Proof.Machine

/-! ### Hardware reset -/

/-- R178: the cause of a hardware reset. -/
def ResetKind.cause : ResetKind → Cause
  | .powerOn => .powerOn
  | .resetPin => .resetPin

/-- R167: TRM after hardware reset; the levels that the outside puts on the pins are not the part's. -/
def Trm.hardwareReset (t : Trm) : Trm :=
  { entries := tableMap (fun e => terminalReset e.level) t.entries, map := Vector.replicate 51 none }

/-- R178: the part after a hardware reset. What a block had handed is lost with the block's state; the
commands that wait outside, the clock and the model's own fields stand. -/
def State.hardwareReset (s : State) (kind : ResetKind) : State :=
  { State.reset with
    pending := s.pending, now := s.now, free := s.free, blockOrder := s.blockOrder
    trm := s.trm.hardwareReset
    part := ⟨.init, false, kind.cause, s.part.resetAsserted || decide (kind = .resetPin)⟩ }

/-- HARDWARE_RESET (R178). -/
def execHardwareReset (kind : ResetKind) (s : State) : Out := .next (s.hardwareReset kind)

/-- RESET_NEGATION (R178). -/
def execResetNegation (s : State) : Out := .next { s with part := { s.part with resetAsserted := false } }

/-- The detail of RESTART for a cause (R176, R177). -/
def Cause.detail : Cause → Nat
  | .powerOn => 256
  | .resetPin => 512
  | .linkReset => 768

/-- INIT_END (R176, R178): CONFIG, and RESTART raised; not while RESET stays asserted. -/
def execInitEnd (s : State) : Out :=
  .next (if s.inInit && !s.part.resetAsserted then
    { s with part := { s.part with state := .config } }.raise asRestart s.part.cause.detail
  else s)

/-! ### SET_STATE -/

/-- R179: a block's entry to RUN. -/
def State.enterBlock (s : State) : Block → State
  | .adm => s.admEnterRun
  | .zon => s.zonEnterRun
  | .ddr => s.drive Work.enterRun
  | .mov => s.movEnterRun
  | .heu => s.heuEnterRun
  | .sns | .asr | .atn => s

/-- R179: a block's leaving of RUN. -/
def State.leaveBlock (s : State) : Block → State
  | .adm => s.admLeaveRun
  | .zon => s.zonLeaveRun
  | .ddr => s.drive Work.leaveRun
  | .mov => s.movLeaveRun
  | .heu => s.heuLeaveRun
  | .sns | .asr | .atn => s

/-- The part state replaced. -/
def State.setPart (s : State) (p : PartState) : State := { s with part := { s.part with state := p } }

/-- R179: the part enters RUN, every block taking its entry. -/
def State.enterRun (s : State) : State := s.blockOrder.foldl State.enterBlock (s.setPart .run)

/-- R179: the part leaves RUN, every block taking its leaving. -/
def State.leaveRun (s : State) : State := s.blockOrder.foldl State.leaveBlock (s.setPart .config)

/-- R179: DMP0 is ABSENT, or both lanes are. -/
def State.incomplete (s : State) : Bool :=
  decide ((s.damper 0).state = .absent) || s.ddr.lanes.toList.all fun l => decide (l.state = .absent)

/-- The part state of a code (R179). -/
def PartState.ofCode (b : Byte) : Option PartState :=
  match b.toNat with
  | 0 => some .config
  | 1 => some .run
  | _ => none

/-- SET_STATE (R179). -/
def execSetState (code : Byte) (s : State) : Out :=
  s.take (.setState code) fun s =>
    match PartState.ofCode code with
    | none => s.status .setState .range
    | some p =>
      if p = s.part.state then s.status .setState .state
      else if p = .run then
        if s.incomplete then s.status .setState .incomplete else s.enterRun.status .setState .ok
      else s.leaveRun.status .setState .ok

/-! ### Link reset -/

/-- LINK_RESET (R180): the reply is sent first; the reset follows its last byte. -/
def execLinkReset (s : State) : Out :=
  s.take .linkReset fun s =>
    { s with link := { s.link with resetDue := true } }.status .linkReset .ok

/-- R180: a block's link reset. -/
def State.resetBlock (s : State) : Block → State
  | .sns => s.snsLinkReset
  | .asr => s.asrLinkReset
  | .adm => s.admLinkReset
  | .zon => s.zonLinkReset
  | .ddr => s.drive fun w => w.linkReset s.part.retain
  | .mov => s.movLinkReset
  | .heu => s.heuLinkReset
  | .atn => s.atnLinkReset

/-- R180, R184: LNK once every block has completed its link reset; a held frame is then taken. -/
def State.linkAfterLinkReset (s : State) : State :=
  let s' := { s with link := { s.link with busy := false, resetDue := false, resetting := false } }
  if s'.link.held.isSome then s'.hand .heldFrameTaken else s'

/-- R180: the link reset. -/
def State.linkReset (s : State) : State :=
  (s.blockOrder.foldl State.resetBlock { s with part := { s.part with state := .config, cause := .linkReset } }).linkAfterLinkReset

/-- LINK_RESET_EFFECT (R180): it follows the last byte of the reply to LINK_RESET. -/
def execLinkResetEffect (s : State) : Out :=
  s.take .linkResetEffect fun s => if s.link.resetting then s.linkReset else s

/-! ### Retain, identity, configuration -/

/-- RETAIN (R181). -/
def execRetain (flag : Byte) (s : State) : Out :=
  s.take (.retain flag) fun s =>
    match flagOf flag with
    | none => s.status .retain .range
    | some b => { s with part := { s.part with retain := b } }.status .retain .ok

/-- The code of a cause (R182). -/
def Cause.code : Cause → Nat
  | .powerOn => 1
  | .resetPin => 2
  | .linkReset => 3

/-- The code of a part state in READ_IDENT (R182); INIT, in which nothing is answered, has none. -/
def PartState.code : PartState → Nat
  | .init => 0
  | .config => 1
  | .run => 2

/-- The part code LX610 (R182, R192). -/
def partCode : List Byte := [0x4C#8, 0x58#8, 0x36#8, 0x31#8, 0x30#8]

/-- READ_IDENT (R182, R192). -/
def execReadIdent (s : State) : Out :=
  s.take .readIdent fun s =>
    s.answer .readIdent .ok
      (partCode ++ [2#8, 1#8, byteOf s.part.cause.code, byteOf s.part.state.code, byteOfBool s.part.retain])

/-- A two-byte field that holds a natural. -/
def halfOf (n : Nat) : Half := BitVec.ofNat 16 n

/-- A two-byte field that holds an integer. -/
def halfOfInt (n : Int) : Half := BitVec.ofInt 16 n

/-- The SET_CHANNEL that sets a channel's settings as they stand. -/
def channelRequest (ch : ChannelIx) (c : ChannelSettings) : Instr :=
  .setChannel (byteOf ch.val) (halfOf c.gain) (halfOfInt c.offset) (halfOfInt c.low) (halfOfInt c.high)
    (halfOf c.warmUp) (halfOf c.hold) (halfOfInt c.failsafe) (byteOf c.recovery)

/-- The SET_ASSESS that sets an assessor's settings as they stand. -/
def assessorRequest (a : AssessorIx) (c : AssessorSettings) : Instr :=
  .setAssess (byteOf a.val) (byteOf c.alpha) (byteOf c.beta) (byteOf c.n) (halfOf c.ceiling) (halfOf c.low)
    (halfOf c.high) (halfOf c.abs) (halfOf c.h) (byteOf c.p) (byteOf c.d)

/-- The SET_ADMISSION that sets the admission settings as they stand. -/
def admRequest (c : AdmSettings) : Instr :=
  .setAdmission (byteOf c.limitFraction) (byteOf c.pressFraction) (halfOf c.sealHold) (halfOf c.scrubHold)
    (halfOf c.limitHold) (halfOf c.purgeTime) (byteOf c.breachMin)

/-- The SET_ZONE_TUNING that sets the tuning as it stands. -/
def tuningRequest (c : Tuning) : Instr :=
  .setZoneTuning (halfOf c.kp) (halfOf c.ki) (byteOf c.minBlower) (halfOf c.co2Low) (halfOf c.co2High)
    (halfOf c.hardLimit) (byteOf c.occupantFresh) (halfOfInt c.discharge)

/-- The SET_ZONE that sets a zone's enabled flag and setpoint as they stand. -/
def zoneRequest (z : ZoneIx) (r : Zone) : Instr := .setZone (byteOf z.val) (byteOfBool r.enabled) (halfOf r.setpoint)

/-- The SET_DAMPER that sets a damper's settings as they stand. -/
def damperRequest (d : DamperIx) (c : DamperSettings) : Instr :=
  .setDamper (byteOf d.val) (halfOf c.span) (halfOf c.rate) (halfOf c.settle) (byteOfBool c.homeOpen)

/-- The SET_MOVER that sets a mover's settings as they stand. -/
def moverRequest (m : MoverIx) (c : MoverSettings) : Instr :=
  .setMover (byteOf m.val) (byteOf c.rampRate) (halfOf c.stallSpeed) (halfOf c.stallTime) (byteOf c.minStallDuty)
    (halfOf c.restartDelay) (byteOf c.retries)

/-- The SET_PRESSURE that sets the pressure settings as they stand. -/
def pressureRequest (c : PressureSettings) : Instr :=
  .setPressure (halfOf c.target) (byteOf c.gain) (byteOf c.breachDuty) (halfOf c.filterLimit)

/-- The SET_HEAT that sets the heat settings as they stand. -/
def heatRequest (c : HeatSettings) : Instr :=
  .setHeat (halfOf c.coolantMin) (halfOf c.valveHold) (byteOf c.auxStart) (byteOf c.release)
    (halfOf c.coolantTarget) (halfOf c.releaseHold) (halfOf c.ignition) (halfOf c.cooldown)

/-- The SET_LEVELS that sets the levels as they stand. -/
def levelsRequest (a : Atn) : Instr := .setLevels (tableMap (fun r => byteOf r.level) a.sources)

/-- R183: the pages of ZON. -/
def State.zonePage (s : State) (page : Nat) : Option Instr :=
  if page = 0 then some (tuningRequest s.zon.tuning)
  else if h : 1 ≤ page ∧ page ≤ 4 then
    let z : ZoneIx := ⟨page - 1, by omega⟩
    some (zoneRequest z s.zon.zones[z])
  else if page = 5 then some (.setDefrost (byteOfBool s.zon.defrost))
  else none

/-- R183: the pages of MOV. -/
def State.moverPage (s : State) (page : Nat) : Option Instr :=
  if h : page < 3 then some (moverRequest ⟨page, h⟩ (s.mover ⟨page, h⟩).settings)
  else if page = 3 then some (pressureRequest s.mov.pressure)
  else none

/-- R183: the setting request that would set the settings of a page as they stand. -/
def State.configPage (s : State) (selector page : Nat) : Option Instr :=
  match selector with
  | 0 => if h : page < 15 then some (channelRequest ⟨page, h⟩ (s.channel ⟨page, h⟩).settings) else none
  | 1 => if h : page < 3 then some (assessorRequest ⟨page, h⟩ s.asr[page].settings) else none
  | 2 => if page = 0 then some (admRequest s.adm.settings) else none
  | 3 => s.zonePage page
  | 4 => if h : page < 8 then some (damperRequest ⟨page, h⟩ (s.damper ⟨page, h⟩).settings) else none
  | 5 => s.moverPage page
  | 6 => if page = 0 then some (heatRequest s.heu.settings) else none
  | 7 => if page = 0 then some (levelsRequest s.atn) else none
  | _ => none

/-- The body of a setting request (R183). -/
def pageBytes (i : Instr) : List Byte :=
  match i.request? with
  | none => []
  | some (_, body) => body

/-- READ_CONFIG (R183). -/
def execReadConfig (selector page : Byte) (s : State) : Out :=
  s.take (.readConfig selector page) fun s =>
    match s.configPage selector.toNat page.toNat with
    | none => s.status .readConfig .range
    | some i => s.answer .readConfig .ok (selector :: page :: pageBytes i)

end Sys2Proof.Machine
end

