-- ==== Sys2Proof/Machine/Dispatch.lean ====
section
/-! DEFINITION. The dispatch: one arm for each command, one direct call of its meaning. -/

namespace Sys2Proof.Machine

def exec (i : Instr) (s : State) : Host.Outcome State Fault Refusal :=
  match i with
  | .hardwareReset kind => Sys2Proof.Machine.execHardwareReset kind s
  | .initEnd => Sys2Proof.Machine.execInitEnd s
  | .linkByteReceived byte framingError => Sys2Proof.Machine.execLinkByteReceived byte framingError s
  | .gapTimerExpiry => Sys2Proof.Machine.execGapTimerExpiry s
  | .replyEnd => Sys2Proof.Machine.execReplyEnd s
  | .heldFrameTaken => Sys2Proof.Machine.execHeldFrameTaken s
  | .setState code => Sys2Proof.Machine.execSetState code s
  | .linkReset => Sys2Proof.Machine.execLinkReset s
  | .linkResetEffect => Sys2Proof.Machine.execLinkResetEffect s
  | .retain flag => Sys2Proof.Machine.execRetain flag s
  | .readIdent => Sys2Proof.Machine.execReadIdent s
  | .readConfig selector page => Sys2Proof.Machine.execReadConfig selector page s
  | .bind terminal function invert debounce drive => Sys2Proof.Machine.execBind terminal function invert debounce drive s
  | .unbind terminal => Sys2Proof.Machine.execUnbind terminal s
  | .readBinding first => Sys2Proof.Machine.execReadBinding first s
  | .pinChange t high => Sys2Proof.Machine.execPinChange t high s
  | .debounceTimerExpiry t => Sys2Proof.Machine.execDebounceTimerExpiry t s
  | .sampleArrival ch raw => Sys2Proof.Machine.execSampleArrival ch raw s
  | .warmUpExpiry ch => Sys2Proof.Machine.execWarmUpExpiry ch s
  | .channelHoldExpiry ch => Sys2Proof.Machine.execChannelHoldExpiry ch s
  | .setChannel channel gain offset low high warmUp hold failsafe recovery => Sys2Proof.Machine.execSetChannel channel gain offset low high warmUp hold failsafe recovery s
  | .readChannels => Sys2Proof.Machine.execReadChannels s
  | .setOverride slot channel value => Sys2Proof.Machine.execSetOverride slot channel value s
  | .clearOverride slot => Sys2Proof.Machine.execClearOverride slot s
  | .assessorChannelReport a status value => Sys2Proof.Machine.execAssessorChannelReport a status value s
  | .setAssess assessor alpha beta n ceiling low high abs h p d => Sys2Proof.Machine.execSetAssess assessor alpha beta n ceiling low high abs h p d s
  | .readAssess => Sys2Proof.Machine.execReadAssess s
  | .admLevelReport a level => Sys2Proof.Machine.execAdmLevelReport a level s
  | .oatReport status value => Sys2Proof.Machine.execOatReport status value s
  | .sealReqChange asserted => Sys2Proof.Machine.execSealReqChange asserted s
  | .doorChange door isOpen => Sys2Proof.Machine.execDoorChange door isOpen s
  | .zonOutputChange change => Sys2Proof.Machine.execZonOutputChange change s
  | .damperStateReport report => Sys2Proof.Machine.execDamperStateReport report s
  | .admHoldTimerExpiry => Sys2Proof.Machine.execAdmHoldTimerExpiry s
  | .purgeTimerExpiry => Sys2Proof.Machine.execPurgeTimerExpiry s
  | .setDirective code => Sys2Proof.Machine.execSetDirective code s
  | .setAdmission limitFraction pressFraction sealHold scrubHold limitHold purgeTime breachMin => Sys2Proof.Machine.execSetAdmission limitFraction pressFraction sealHold scrubHold limitHold purgeTime breachMin s
  | .readAdmission => Sys2Proof.Machine.execReadAdmission s
  | .zoneUpdate z => Sys2Proof.Machine.execZoneUpdate z s
  | .setZone zone enabled setpoint => Sys2Proof.Machine.execSetZone zone enabled setpoint s
  | .setZoneTuning kp ki minBlower co2Low co2High hardLimit occupantFresh discharge => Sys2Proof.Machine.execSetZoneTuning kp ki minBlower co2Low co2High hardLimit occupantFresh discharge s
  | .setCrew zone occupancy => Sys2Proof.Machine.execSetCrew zone occupancy s
  | .setDefrost flag => Sys2Proof.Machine.execSetDefrost flag s
  | .readZones => Sys2Proof.Machine.execReadZones s
  | .stepCompletion d => Sys2Proof.Machine.execStepCompletion d s
  | .settleTimerExpiry d => Sys2Proof.Machine.execSettleTimerExpiry d s
  | .homeChange d asserted => Sys2Proof.Machine.execHomeChange d asserted s
  | .laneFltChange l asserted => Sys2Proof.Machine.execLaneFltChange l asserted s
  | .laneRecoveryExpiry l => Sys2Proof.Machine.execLaneRecoveryExpiry l s
  | .laneFaultHistoryExpiry l => Sys2Proof.Machine.execLaneFaultHistoryExpiry l s
  | .setDamper damper span rate settle homeEnd => Sys2Proof.Machine.execSetDamper damper span rate settle homeEnd s
  | .move damper percent cls => Sys2Proof.Machine.execMove damper percent cls s
  | .rehome damper => Sys2Proof.Machine.execRehome damper s
  | .laneEnable lane => Sys2Proof.Machine.execLaneEnable lane s
  | .readDampers => Sys2Proof.Machine.execReadDampers s
  | .readQueue => Sys2Proof.Machine.execReadQueue s
  | .moverUpdate m => Sys2Proof.Machine.execMoverUpdate m s
  | .tachEdge m => Sys2Proof.Machine.execTachEdge m s
  | .edgeTimerExpiry m => Sys2Proof.Machine.execEdgeTimerExpiry m s
  | .stallTimerExpiry m => Sys2Proof.Machine.execStallTimerExpiry m s
  | .restartTimerExpiry m => Sys2Proof.Machine.execRestartTimerExpiry m s
  | .cleanRunTimerExpiry m => Sys2Proof.Machine.execCleanRunTimerExpiry m s
  | .groupDemandChange g percent => Sys2Proof.Machine.execGroupDemandChange g percent s
  | .admissionReport picture => Sys2Proof.Machine.execAdmissionReport picture s
  | .loopUpdate => Sys2Proof.Machine.execLoopUpdate s
  | .cpdReport status value => Sys2Proof.Machine.execCpdReport status value s
  | .pressureLostExpiry => Sys2Proof.Machine.execPressureLostExpiry s
  | .fpdReport status value => Sys2Proof.Machine.execFpdReport status value s
  | .filterTimerExpiry => Sys2Proof.Machine.execFilterTimerExpiry s
  | .setMover mover rampRate stallSpeed stallTime minStallDuty restartDelay retries => Sys2Proof.Machine.execSetMover mover rampRate stallSpeed stallTime minStallDuty restartDelay retries s
  | .setPressure target gain breachDuty filterLimit => Sys2Proof.Machine.execSetPressure target gain breachDuty filterLimit s
  | .moverRestart mover => Sys2Proof.Machine.execMoverRestart mover s
  | .readMovers => Sys2Proof.Machine.execReadMovers s
  | .heatDemandChange percent => Sys2Proof.Machine.execHeatDemandChange percent s
  | .cltReport status value => Sys2Proof.Machine.execCltReport status value s
  | .auxFlameChange asserted => Sys2Proof.Machine.execAuxFlameChange asserted s
  | .valveHoldTimerExpiry => Sys2Proof.Machine.execValveHoldTimerExpiry s
  | .ignitionTimerExpiry => Sys2Proof.Machine.execIgnitionTimerExpiry s
  | .cooldownTimerExpiry => Sys2Proof.Machine.execCooldownTimerExpiry s
  | .coolantReleaseExpiry => Sys2Proof.Machine.execCoolantReleaseExpiry s
  | .demandReleaseExpiry => Sys2Proof.Machine.execDemandReleaseExpiry s
  | .setHeat coolantMin valveHold auxStart release coolantTarget releaseHold ignition cooldown => Sys2Proof.Machine.execSetHeat coolantMin valveHold auxStart release coolantTarget releaseHold ignition cooldown s
  | .auxInhibit flag => Sys2Proof.Machine.execAuxInhibit flag s
  | .auxClearLock => Sys2Proof.Machine.execAuxClearLock s
  | .readHeat => Sys2Proof.Machine.execReadHeat s
  | .collect => Sys2Proof.Machine.execCollect s
  | .clearSources mask => Sys2Proof.Machine.execClearSources mask s
  | .assertSources mask => Sys2Proof.Machine.execAssertSources mask s
  | .setLevels levels => Sys2Proof.Machine.execSetLevels levels s
  | .resetNegation => Sys2Proof.Machine.execResetNegation s

end Sys2Proof.Machine
end

