-- ==== Sys2Proof/Machine/Timers.lean ====
section
/-! DEFINITION. The part's running timers with the commands that their expiries are, and the first of them that
is due. A timer is due once the clock has reached its time. -/

namespace Sys2Proof.Machine

/-- A running timer, where there is one, and the command that its expiry is. -/
abbrev TimerEntry := Option Time × Instr

/-- The time at which a kept timer expires. -/
def KeptTimer.due : KeptTimer → Option Time
  | .running due => some due
  | .stopped | .expired => none

/-- The time at which the running purge of a record expires (R58). -/
def Purge.due (p : Option Purge) : Option Time :=
  match p with
  | some ⟨.running due, _⟩ => some due
  | some ⟨.frozen _, _⟩ | none => none

/-- The time at which the oldest fault of a lane is 60 s old; a LOCKED_OUT lane keeps its history (R109). -/
def Lane.historyDue (r : Lane) : Option Time :=
  if r.state = .lockedOut then none else r.history.head?.map fun t => inSec t 60

/-- The debounce timers (R164). -/
def State.debounceTimers (s : State) : List TimerEntry :=
  (List.finRange 48).map fun t => ((s.terminal t).timer, .debounceTimerExpiry t)

/-- The timers of the channels (R8, R12). -/
def State.channelTimers (s : State) : List TimerEntry :=
  allChannels.flatMap fun ch =>
    [((s.channel ch).warmUp.due, .warmUpExpiry ch), ((s.channel ch).hold, .channelHoldExpiry ch)]

/-- The timers of ADM and ZON (R50, R60, R74). -/
def State.airTimers (s : State) : List TimerEntry :=
  [(s.adm.hold, .admHoldTimerExpiry), (Purge.due s.adm.purge, .purgeTimerExpiry)] ++
  allZones.map fun z => ((s.zone z).update, .zoneUpdate z)

/-- The timers of DDR (R95, R103, R109). -/
def State.driveTimers (s : State) : List TimerEntry :=
  (allDampers.flatMap fun d =>
    [((s.damper d).stepDue, .stepCompletion d), ((s.damper d).settle, .settleTimerExpiry d)]) ++
  allLanes.flatMap fun l =>
    [(s.ddr.lanes[l].recovery, .laneRecoveryExpiry l), (s.ddr.lanes[l].historyDue, .laneFaultHistoryExpiry l)]

/-- The timers of MOV (R123 to R134). -/
def State.moverTimers (s : State) : List TimerEntry :=
  (allMovers.flatMap fun m =>
    let r := s.mover m
    [(r.update, .moverUpdate m), (r.edge, .edgeTimerExpiry m), (r.stall, .stallTimerExpiry m),
      (r.restart, .restartTimerExpiry m), (r.cleanRun, .cleanRunTimerExpiry m)]) ++
  [(s.mov.loop.update, .loopUpdate), (s.mov.loop.lost, .pressureLostExpiry), (s.mov.filter.timer, .filterTimerExpiry)]

/-- The timers of HEU (R144 to R150). -/
def State.heatTimers (s : State) : List TimerEntry :=
  let h := s.heu.heater
  [(s.heu.valveHold.due, .valveHoldTimerExpiry), (h.ignition, .ignitionTimerExpiry),
    (h.cooldown, .cooldownTimerExpiry), (h.coolantRelease, .coolantReleaseExpiry), (h.demandRelease, .demandReleaseExpiry)]

/-- Every timer of the part, in the order in which the model takes expiries of one moment: assumption 16. -/
def State.timers (s : State) : List TimerEntry :=
  (s.link.gap, .gapTimerExpiry) :: (s.debounceTimers ++ s.channelTimers ++ s.airTimers ++ s.driveTimers ++
    s.moverTimers ++ s.heatTimers)

/-- A timer is due. -/
def TimerEntry.isDue (now : Time) (e : TimerEntry) : Bool :=
  match e.1 with
  | none => false
  | some due => decide (due ≤ now)

/-- The expiry that the model takes first at this moment. -/
def State.dueEvent (s : State) : Option Instr := (s.timers.find? (TimerEntry.isDue s.now)).map Prod.snd

end Sys2Proof.Machine
end

