-- ==== Sys2Proof/Machine/Step.lean ====
section
/-! DEFINITION. One step: the command at the front of the queue; on an empty queue the oldest event that one
block has handed another, else the expiry that is due, else one microsecond of the clock. -/

namespace Sys2Proof.Machine

/-- What the part does while no command waits: assumption 2. -/
def State.tick (s : State) : Host.Outcome State Fault Refusal :=
  match s.handed with
  | c :: _ => exec c s
  | [] =>
    match s.dueEvent with
    | some c => exec c s
    | none => .next { s with now := s.now + 1 }

/-- One step: the command at the front of the queue is taken, with the queue's rest behind it. -/
def step (s : State) : Host.Outcome State Fault Refusal :=
  match s.pending with
  | c :: rest => exec c { s with pending := rest }
  | [] => s.tick

/-- The state with the command that a word of the table spells put at the front of its queue. -/
def State.withFetchWord (s : State) (nbits w : Nat) : State :=
  match decodeTableWord nbits w with
  | some c => { s with pending := c :: s.pending }
  | none => s

end Sys2Proof.Machine
end

