-- ==== Sys2Proof/WellFormed.lean ====
section
/-! DEFINITION. Which commands the part can be given: the fields of a request may hold any byte, since its
owner judges them; what one block hands another lies in the range that the handing rule gives it. -/

namespace Sys2Proof

/-- A value lies in the range of a channel's value (R3). -/
def channelValueFits (v : Int) : Bool := decide (-32768 ≤ v) && decide (v ≤ 32767)

/-- A percent lies in 0 to 100 (00_scope, Units). -/
def percentFits (n : Nat) : Bool := decide (n ≤ 100)

/-- A change of ZON's output lies in its range (R79). -/
def Machine.ZonChange.fits : ZonChange → Bool
  | .fresh n => percentFits n
  | .breathing _ => true

/-- A reported position lies within the largest span (R92, R113). -/
def Machine.DriveReport.fits : DriveReport → Bool
  | .damper _ _ none => true
  | .damper _ _ (some p) => decide (p ≤ 2000)
  | .lane _ _ => true

/-- A command is well formed. -/
def Instr.wf (i : Instr) : Bool :=
  match i with
  | .assessorChannelReport _ _ v => channelValueFits v
  | .oatReport _ v => channelValueFits v
  | .cpdReport _ v => channelValueFits v
  | .fpdReport _ v => channelValueFits v
  | .cltReport _ v => channelValueFits v
  | .zonOutputChange c => c.fits
  | .damperStateReport r => r.fits
  | .groupDemandChange _ n => percentFits n
  | .heatDemandChange n => percentFits n
  | .hardwareReset _ => true
  | .initEnd => true
  | .linkByteReceived _ _ => true
  | .gapTimerExpiry => true
  | .replyEnd => true
  | .heldFrameTaken => true
  | .setState _ => true
  | .linkReset => true
  | .linkResetEffect => true
  | .retain _ => true
  | .readIdent => true
  | .readConfig _ _ => true
  | .bind _ _ _ _ _ => true
  | .unbind _ => true
  | .readBinding _ => true
  | .pinChange _ _ => true
  | .debounceTimerExpiry _ => true
  | .sampleArrival _ _ => true
  | .warmUpExpiry _ => true
  | .channelHoldExpiry _ => true
  | .setChannel _ _ _ _ _ _ _ _ _ => true
  | .readChannels => true
  | .setOverride _ _ _ => true
  | .clearOverride _ => true
  | .setAssess _ _ _ _ _ _ _ _ _ _ _ => true
  | .readAssess => true
  | .admLevelReport _ _ => true
  | .sealReqChange _ => true
  | .doorChange _ _ => true
  | .admHoldTimerExpiry => true
  | .purgeTimerExpiry => true
  | .setDirective _ => true
  | .setAdmission _ _ _ _ _ _ _ => true
  | .readAdmission => true
  | .zoneUpdate _ => true
  | .setZone _ _ _ => true
  | .setZoneTuning _ _ _ _ _ _ _ _ => true
  | .setCrew _ _ => true
  | .setDefrost _ => true
  | .readZones => true
  | .stepCompletion _ => true
  | .settleTimerExpiry _ => true
  | .homeChange _ _ => true
  | .laneFltChange _ _ => true
  | .laneRecoveryExpiry _ => true
  | .laneFaultHistoryExpiry _ => true
  | .setDamper _ _ _ _ _ => true
  | .move _ _ _ => true
  | .rehome _ => true
  | .laneEnable _ => true
  | .readDampers => true
  | .readQueue => true
  | .moverUpdate _ => true
  | .tachEdge _ => true
  | .edgeTimerExpiry _ => true
  | .stallTimerExpiry _ => true
  | .restartTimerExpiry _ => true
  | .cleanRunTimerExpiry _ => true
  | .admissionReport _ => true
  | .loopUpdate => true
  | .pressureLostExpiry => true
  | .filterTimerExpiry => true
  | .setMover _ _ _ _ _ _ _ => true
  | .setPressure _ _ _ _ => true
  | .moverRestart _ => true
  | .readMovers => true
  | .auxFlameChange _ => true
  | .valveHoldTimerExpiry => true
  | .ignitionTimerExpiry => true
  | .cooldownTimerExpiry => true
  | .coolantReleaseExpiry => true
  | .demandReleaseExpiry => true
  | .setHeat _ _ _ _ _ _ _ _ => true
  | .auxInhibit _ => true
  | .auxClearLock => true
  | .readHeat => true
  | .collect => true
  | .clearSources _ => true
  | .assertSources _ => true
  | .setLevels _ => true
  | .resetNegation => true

end Sys2Proof
end

