-- ==== Sys2Proof/Safety.lean ====
section
/-! DEFINITION. What counts as a safe state of the part: for each block the law that its chapter states of its
records whatever happens. Each is a statement about one state; that every step keeps it is for the provers. -/

namespace Sys2Proof.Machine

/-- Every block that takes the part-wide events stands once in the order in which the model hands them
(assumption 3). -/
def State.BlocksComplete (s : State) : Prop := s.blockOrder.Perm blockOrderReset

/-- R168, R170, R175: a source is pending exactly with a count of 1 or more, levels and counts stay in range,
ATTN is asserted exactly while a source calls, FAULT exactly while a condition of ADM is active. -/
def State.AttentionLaw (s : State) : Prop :=
  (∀ i : SourceIx, (s.atn.sources[i].pending = true ↔ 1 ≤ s.atn.sources[i].count) ∧
    s.atn.sources[i].count ≤ 15 ∧ s.atn.sources[i].level ≤ 3) ∧
  (s.atn.attn = true ↔ ∃ i : SourceIx, s.atn.sources[i].pending = true ∧ 1 ≤ s.atn.sources[i].level) ∧
  (s.atn.fault = true ↔ s.adm.cabCo = true ∨ s.adm.breathing = true ∨ s.adm.sealImpaired = true)

/-- A purge clock stands frozen (R57). -/
def PurgeClock.isFrozen : PurgeClock → Bool
  | .frozen _ => true
  | .running _ => false

/-- R43, R47 to R50, R54, R57, R59, R61, R62: what the stages of R44 leave in RUN. The accepted state answers the
demanded state, which the SEAL line, the directive and the intake condition give; a hold timer, a breach, a purge
and the conditions stand exactly where their rules put them; every ordered target is the computed one. -/
def Adm.RunLaw (a : Adm) : Prop :=
  a.accepted ≠ .inactive ∧
  a.demanded = demandedOf a.sealLine a.directive a.intake ∧
  a.demanded.above a.accepted = false ∧
  (a.hold.isSome = true ↔ a.accepted.above a.demanded = true) ∧
  (a.breach.isSome = true ↔ a.doorOpen = true ∧ a.accepted.guarded = true) ∧
  (∀ p ∈ a.purge, p.route = a.accepted.route ∧ (p.clock.isFrozen = true ↔ a.cab = .high)) ∧
  (a.cabCo = true ↔ a.cab = .high) ∧
  (a.breathing = true ↔ a.accepted = .seal ∧ a.breathingFlag = true) ∧
  a.ordered = tableMap some a.targets

/-- R43, R67: admission outside RUN, INACTIVE with nothing active. -/
def Adm.RestLaw (a : Adm) : Prop :=
  a.accepted = .inactive ∧ a.demanded = .opened ∧ a.directive = .auto ∧ a.hold = none ∧ a.breach = none ∧
  a.purge = none ∧ a.cabCo = false ∧ a.breathing = false ∧ a.sealImpaired = false ∧ a.check = none ∧
  a.ordered = Vector.replicate 3 none

/-- R43 to R67: admission in RUN and outside it. -/
def State.AdmissionLaw (s : State) : Prop :=
  (s.part.state = .run → s.adm.RunLaw) ∧ (s.part.state ≠ .run → s.adm.RestLaw)

/-- R143, R144, R146: the valve is OPEN and AUX_RUN asserted only in RUN, AUX_RUN only with inhibit clear; each
timer runs only in the states that the tables name; attempts stay within two. -/
def State.HeatLaw (s : State) : Prop :=
  (s.heu.valveOpen = true → s.part.state = .run) ∧
  (s.heu.valveHold ≠ .stopped → s.heu.valveOpen = true) ∧
  (s.heu.heater.auxRun = true → s.part.state = .run ∧ s.heu.heater.inhibit = false) ∧
  (s.heu.heater.ignition.isSome = true ↔ s.heu.heater.state = .prestart) ∧
  (s.heu.heater.cooldown.isSome = true ↔ s.heu.heater.state = .cooldown) ∧
  (s.heu.heater.coolantRelease.isSome = true ∨ s.heu.heater.demandRelease.isSome = true →
    s.heu.heater.state = .running) ∧
  (s.heu.heater.restart = true → s.heu.heater.state = .cooldown ∧ s.heu.heater.inhibit = false) ∧
  s.heu.heater.attempts ≤ 2 ∧ (s.heu.heater.state = .off → s.heu.heater.attempts ≤ 1) ∧
  (s.heu.heater.state = .running → s.heu.heater.attempts = 0)

/-- R123, R124, R126 to R128: a mover drives only while RUNNING and in RUN, and each timer runs only in the
states that the table names. -/
def State.MoverLaw (s : State) : Prop :=
  (∀ m : MoverIx,
    (s.mov.movers[m].state ≠ .running → s.mov.movers[m].duty = 0) ∧
    (s.mov.movers[m].state = .running ∨ s.mov.movers[m].state = .stalled → s.part.state = .run) ∧
    (s.mov.movers[m].stall.isSome = true → s.mov.movers[m].state = .running) ∧
    (s.mov.movers[m].restart.isSome = true ↔ s.mov.movers[m].state = .stalled) ∧
    (s.mov.movers[m].cleanRun.isSome = true → s.mov.movers[m].state = .running) ∧
    (s.mov.movers[m].edge.isSome = true ↔ s.mov.movers[m].lastEdge.isSome = true) ∧
    (s.mov.movers[m].update.isSome = true ↔ s.part.state = .run)) ∧
  (s.mov.loop.phase = phaseOf s.inRun s.mov.picture) ∧
  (s.mov.loop.update.isSome = true ↔ s.mov.loop.phase = .running) ∧
  (s.mov.loop.lost.isSome = true → s.mov.loop.phase = .running ∧ s.mov.loop.lostFlag = false) ∧
  (s.mov.filter.timer.isSome = true ↔ s.mov.filter.phase = .timing)

/-- R72, R74 to R82: a zone's record stays in its ranges, a zone is OFF exactly while it is disabled or the part
is not in RUN, and the outputs are those that the records give. -/
def State.ZoneLaw (s : State) : Prop :=
  (∀ z : ZoneIx,
    -200 ≤ s.zon.zones[z].error ∧ s.zon.zones[z].error ≤ 200 ∧
    -50 ≤ s.zon.zones[z].integral ∧ s.zon.zones[z].integral ≤ 50 ∧
    -100 ≤ s.zon.zones[z].demand ∧ s.zon.zones[z].demand ≤ 100 ∧
    s.zon.zones[z].blend ≤ 100 ∧ s.zon.zones[z].fresh ≤ 100 ∧ s.zon.zones[z].blower ≤ 100 ∧
    s.zon.zones[z].occupancy ≤ 4 ∧ 100 ≤ s.zon.zones[z].setpoint ∧ s.zon.zones[z].setpoint ≤ 320 ∧
    (s.zon.zones[z].mode = .off ↔ ¬ (s.part.state = .run ∧ s.zon.zones[z].enabled = true)) ∧
    (s.zon.zones[z].update.isSome = true ↔ s.zon.zones[z].mode ≠ .off)) ∧
  s.zon.tuning.minBlower ≤ 100 ∧
  s.zon.out = if s.part.state = .run then s.zon.outputs else zonOutputsZero

/-- R3, R7, R15 to R18: a channel is ABSENT exactly while its function is unbound, and FORCED exactly while a
slot names it, with that slot's value; a hold or warm-up timer runs only where the chapter lets it. -/
def State.SensorLaw (s : State) : Prop :=
  (∀ ch : ChannelIx,
    (s.sns.channels[ch].state = .absent ↔ s.bound (.sc ch) = false) ∧
    (s.sns.channels[ch].state = .forced ↔ s.sns.channels[ch].slot.isSome = true) ∧
    (∀ i ∈ s.sns.channels[ch].slot, s.sns.slots[i] = some ⟨ch, s.sns.channels[ch].value⟩) ∧
    (s.sns.channels[ch].hold.isSome = true →
      s.sns.channels[ch].state = .held ∨
        s.sns.channels[ch].state = .warming ∧ s.sns.channels[ch].warmUp = .expired) ∧
    (s.sns.channels[ch].warmUp.due.isSome = true → s.sns.channels[ch].state = .warming) ∧
    (s.sns.channels[ch].state = .warming → s.sns.channels[ch].warmUp ≠ .stopped)) ∧
  (∀ i : SlotIx, ∀ o ∈ s.sns.slots[i], s.sns.channels[o.channel].slot = some i)

/-- R26 to R31, R35, R38: the strength is what the fast value has above the baseline, the baseline never stands
above its ceiling, an assessor without a record of samples learns nothing, UNKNOWN is the level of a failed
channel. -/
def State.AssessorLaw (s : State) : Prop :=
  ∀ a : AssessorIx,
    s.asr[a].s = s.asr[a].f - s.asr[a].b ∧ s.asr[a].b ≤ s.asr[a].settings.ceiling ∧
    (s.asr[a].initialised = true → s.asr[a].active = true ∧ s.asr[a].level ≠ .unknown) ∧
    (s.asr[a].active = false → s.asr[a].level = .clear ∧ s.asr[a].f = 0 ∧ s.asr[a].b = 0) ∧
    (s.asr[a].level = .unknown → s.asr[a].up = 0 ∧ s.asr[a].down = 0)

/-- R158, R159, R164: the map and the entries agree, every binding respects the terminal class table, and only
a digital input has a debounced state or a debounce timer. -/
def State.TerminalLaw (s : State) : Prop :=
  (∀ t : TerminalIx, ∀ f ∈ s.trm.entries[t].func, s.trm.map[f.slot] = some t ∧ f.allowedOn t = true) ∧
  (∀ c : Fin 51, ∀ t ∈ s.trm.map[c], s.trm.entries[t].func = Func.ofCode (c.val + 1)) ∧
  (∀ t : TerminalIx, s.trm.entries[t].isDigitalInput = false →
    s.trm.entries[t].debounced = false ∧ s.trm.entries[t].timer = none)

/-- What an order asks for is a HOME (R96). -/
def Goal.isHome : Goal → Bool
  | .home _ => true
  | .move _ => false

/-- R91, R92, R94 to R96, R101 to R103, R112: a lane and its holder name each other, and only a damper that works
holds a lane, by its order in hand; a damper is WAITING exactly while the queue holds its one order, a MOVE only
where its position is known; a damper that settles without a lane has arrived at its target, and only such a damper
has an order deferred; the queue stands in grant order; presence follows the bindings. -/
def State.DriveLaw (s : State) : Prop :=
  (∀ d : DamperIx,
    (s.ddr.dampers[d].state = .absent ↔ (s.bound (.sel d) && s.bound (.home d)) = false) ∧
    (s.ddr.dampers[d].state = .waiting ↔ (s.ddr.queuedOrder d).isSome = true) ∧
    (s.ddr.dampers[d].state = .homing ∨ s.ddr.dampers[d].state = .moving → s.ddr.dampers[d].lane.isSome = true) ∧
    (∀ l ∈ s.ddr.dampers[d].lane, s.ddr.lanes[l].holder = some d ∧
      (s.ddr.dampers[d].state = .homing ∨ s.ddr.dampers[d].state = .moving ∨ s.ddr.dampers[d].state = .settling)) ∧
    (s.ddr.dampers[d].lane.isSome = true → s.ddr.dampers[d].order.isSome = true) ∧
    (s.ddr.dampers[d].stepDue.isSome = true ↔
      s.ddr.dampers[d].state = .homing ∨ s.ddr.dampers[d].state = .moving) ∧
    (s.ddr.dampers[d].settle.isSome = true ↔ s.ddr.dampers[d].state = .settling) ∧
    (s.ddr.dampers[d].state = .idle ∨ s.ddr.dampers[d].state = .moving ∨ s.ddr.dampers[d].state = .settling →
      s.ddr.dampers[d].position.isSome = true ∧ s.ddr.dampers[d].target.isSome = true) ∧
    (s.ddr.dampers[d].state = .idle ∨ s.ddr.dampers[d].state = .settling ∧ s.ddr.dampers[d].lane = none →
      s.ddr.dampers[d].target = s.ddr.dampers[d].position) ∧
    (s.ddr.dampers[d].deferred.isSome = true → s.ddr.dampers[d].state = .settling ∧ s.ddr.dampers[d].lane = none) ∧
    (s.ddr.dampers[d].state = .homing ∨ s.ddr.dampers[d].state = .unhomed ∨ s.ddr.dampers[d].state = .jammed ∨
      s.ddr.dampers[d].state = .absent → s.ddr.dampers[d].position = none)) ∧
  (∀ l : LaneIx,
    (s.ddr.lanes[l].state = .absent ↔ (s.bound (.step l) && s.bound (.dir l)) = false) ∧
    (s.ddr.lanes[l].state = .busy ↔ s.ddr.lanes[l].holder.isSome = true) ∧
    (∀ d ∈ s.ddr.lanes[l].holder, s.ddr.dampers[d].lane = some l) ∧
    (s.ddr.lanes[l].recovery.isSome = true → s.ddr.lanes[l].state = .out)) ∧
  (s.ddr.queue.map fun o => o.damper).Nodup ∧
  (∀ o ∈ s.ddr.queue, o.goal.isHome = true ∨ s.ddr.dampers[o.damper].position.isSome = true) ∧
  s.ddr.queue.Pairwise (fun a b => b.before a = false) ∧
  ((∃ l : LaneIx, s.ddr.lanes[l].state = .free) → s.ddr.queue = [])

/-- R184 to R186: what the receive record has gathered fits its phase, and the gap timer runs exactly while a
frame is in assembly. -/
def State.ReceiveLaw (s : State) : Prop :=
  (s.link.phase = .hunt ∨ s.link.phase = .length → s.link.data = [] ∧ s.link.check = []) ∧
  (s.link.phase = .data ∨ s.link.phase = .check → 1 ≤ s.link.len.toNat ∧ s.link.len.toNat ≤ 57) ∧
  (s.link.phase = .data → s.link.data.length < s.link.len.toNat ∧ s.link.check = []) ∧
  (s.link.phase = .check → s.link.data.length = s.link.len.toNat ∧ s.link.check.length ≤ 1) ∧
  (s.link.gap.isSome = true ↔ s.link.phase ≠ .hunt)

/-- 00_scope, Units: a percent that an event carries lies in 0 to 100. -/
def percentEvent (c : Instr) : Bool :=
  match c with
  | .groupDemandChange _ n => percentFits n
  | .heatDemandChange n => percentFits n
  | .zonOutputChange (.fresh n) => percentFits n
  | _ => true

/-- 00_scope, Units: the percents that pass from block to block and out to the movers lie in 0 to 100, given
that the commands that wait carry no others. -/
def State.PercentLaw (s : State) : Prop :=
  (∀ c ∈ s.pending, percentEvent c = true) ∧ (∀ c ∈ s.handed, percentEvent c = true) ∧
  s.zon.out.fresh ≤ 100 ∧ s.zon.out.front ≤ 100 ∧ s.zon.out.rear ≤ 100 ∧ s.zon.out.heat ≤ 100 ∧
  (∀ z : ZoneIx, s.zon.zones[z].fresh ≤ 100 ∧ s.zon.zones[z].blower ≤ 100 ∧ s.zon.zones[z].demand ≤ 100 ∧
    -100 ≤ s.zon.zones[z].demand) ∧
  s.zon.tuning.minBlower ≤ 100 ∧ s.adm.settings.pressFraction ≤ 100 ∧ s.mov.pressure.breachDuty ≤ 100 ∧
  s.mov.front ≤ 100 ∧ s.mov.rear ≤ 100 ∧ s.mov.loop.duty ≤ 100 ∧
  (∀ m : MoverIx, s.mov.movers[m].demand ≤ 100 ∧ s.mov.movers[m].duty ≤ 100) ∧
  s.adm.fresh ≤ 100 ∧ s.heu.demand ≤ 100

end Sys2Proof.Machine
end

