-- ==== Sys2Proof/Certificates/Slice0/Obligations.lean ====
section
/-! DEFINITION. The statements for the provers, each from the numbered rules that its entry in OBLIGATIONS.json
cites. Most statements about a command give the whole next state, so that what they do not name stands as it was; where
one gives a state `t` field by field, it says which fields of `t` it leaves open. An event at DDR is given as the
change that the event itself makes, `arbitrated`: the lanes that it leaves FREE are then granted (R102), and ADM is told. Such
a statement has the premise `DriveLaw`, which every step keeps; a premise that the sequence counter has a number left
keeps the counter's overflow out. What one block hands another waits in `handed`, the model's own queue
(assumption 6), times are those of its clock (assumption 7), an expiry acts while its timer runs (assumption 14), a request
sent as a command is answered as one from a frame (assumption 17), and ADM is told once of each damper or lane whose state
an event changes (assumption 19). -/

open Sys2Proof Sys2Proof.Machine

/-- A request answered: LNK is busy with the reply, the request waits no longer, and nothing else has changed. -/
def Sys2Proof.Machine.State.replied (s : State) (c : Instr) (kind : Byte) (body : List Byte) : State :=
  { s with
    handed := s.handed.erase c
    link := { s.link with busy := true, reply := some ⟨kind, body⟩ } }

/-- DDR's report of a change of a damper's state to ADM, which hears of FRESH, SCRUB and RELIEF. -/
def Sys2Proof.Machine.damperNews (d : DamperIx) (old new : Damper) : List Instr :=
  if old.state = new.state then []
  else if h : d.val < 3 then [.damperStateReport (.damper ⟨d.val, h⟩ new.state new.position)] else []

/-- A damper's record replaced, and ADM told of a change of its state. -/
def Sys2Proof.Machine.State.damperBecomes (s : State) (d : DamperIx) (c : Damper) : State :=
  { s with
    ddr := { s.ddr with dampers := s.ddr.dampers.set d c }
    handed := s.handed ++ damperNews d s.ddr.dampers[d] c }

/-- A lane's record replaced, and ADM told of a change of its state. -/
def Sys2Proof.Machine.State.laneBecomes (s : State) (l : LaneIx) (r : Lane) : State :=
  { s with
    ddr := { s.ddr with lanes := s.ddr.lanes.set l r }
    handed := s.handed ++ (if s.ddr.lanes[l].state = r.state then [] else [.damperStateReport (.lane l r.state)]) }

/-- A lane released: FREE with no holder. -/
def Sys2Proof.Machine.State.laneFreed (s : State) (l : LaneIx) : State :=
  s.laneBecomes l { s.ddr.lanes[l] with state := .free, holder := none }

/-- The move queue replaced. -/
def Sys2Proof.Machine.State.queueBecomes (s : State) (q : List QueuedOrder) : State :=
  { s with ddr := { s.ddr with queue := q } }

/-- A new order in its place of the grant order, with the next sequence number. -/
def Sys2Proof.Machine.State.queued (s : State) (d : DamperIx) (g : Goal) (k : OrderClass) (src : OrderSource) : State :=
  { s with ddr := { s.ddr with queue := insertOrder ⟨d, g, k, src, s.ddr.seq⟩ s.ddr.queue, seq := s.ddr.seq + 1 } }

/-- One pulse more on the STEP output of a lane (the model's own count, assumption 37). -/
def Sys2Proof.Machine.State.pulsed (s : State) (l : LaneIx) : State :=
  { s with
    ddr := { s.ddr with lanes := s.ddr.lanes.set l { s.ddr.lanes[l] with pulses := s.ddr.lanes[l].pulses + 1 } } }

/-- A damper after its arrival: in the settle without a lane, or, where the settle time is 0, IDLE and DONE. -/
def Sys2Proof.Machine.Damper.arrived (c : Damper) (now : Time) : Damper :=
  if c.settings.settle = 0 then
    { c with
      state := .idle, lane := none, target := c.position, pending := none, order := none, deferred := none
      stepCount := 0, overtravel := false, stepDue := none, settle := none, last := .done }
  else
    { c with
      state := .settling, lane := none, target := c.position, pending := none, stepCount := 0, overtravel := false
      stepDue := none, settle := some (now + c.settings.settle * 1000) }

/-- A damper in the settle of a direction reversal toward a target, or, where the settle time is 0, MOVING again. -/
def Sys2Proof.Machine.Damper.reversed (c : Damper) (now : Time) (t : Nat) : Damper :=
  if c.settings.settle = 0 then
    { c with
      state := .moving, target := some t, stepCount := 0, overtravel := false, settle := none
      stepDue := some (now + 1000000 / c.settings.rate) }
  else
    { c with
      state := .settling, target := some t, stepCount := 0, overtravel := false, stepDue := none
      settle := some (now + c.settings.settle * 1000) }

/-- A damper that has jammed. -/
def Sys2Proof.Machine.Damper.nowJammed (c : Damper) : Damper :=
  { c with
    state := .jammed, lane := none, position := none, target := none, pending := none, deferred := none
    order := none, stepCount := 0, overtravel := false, stepDue := none, settle := none, last := .jammed, jam := true }

/-- A damper that reverses, and ADM told: it has left its state, be it for no time where the settle time is 0
(assumption 19). -/
def Sys2Proof.Machine.State.damperReverses (s : State) (d : DamperIx) (c : Damper) (t : Nat) : State :=
  { s with
    ddr := { s.ddr with dampers := s.ddr.dampers.set d (c.reversed s.now t) }
    handed := s.handed ++ (if h : d.val < 3 then
      [.damperStateReport (.damper ⟨d.val, h⟩ (c.reversed s.now t).state c.position)] else []) }

/-- A damper as the grant of a lane leaves it (R102, R106): MOVING to its target, or HOMING. A HOME order finds the home
end at once where HOME is asserted, and arrives there or reverses toward its pending target; the kind in hand is then MOVE
(assumption 26). A MOVE whose target is the position arrives at the grant (assumption 21). -/
def Sys2Proof.Machine.Damper.grantedBy (c : Damper) (now : Time) (l : LaneIx) (o : QueuedOrder) : Damper :=
  let home := if c.settings.homeOpen then c.settings.span else 0
  let due : Option Time := some (now + 1000000 / c.settings.rate)
  match o.goal with
  | .move t =>
    let moving : Damper :=
      { c with
        state := .moving, target := some t, lane := some l, order := some ⟨.move, o.cls, o.source, o.seq⟩, stepDue := due }
    if c.position ≠ some t then moving
    else if t = home ∧ c.homeInput = false then { moving with overtravel := true, stepCount := 0 }
    else moving.arrived now
  | .home p =>
    let homing : Damper :=
      { c with
        state := .homing, position := none, target := none, pending := p, lane := some l, stepCount := 0
        order := some ⟨.home, o.cls, o.source, o.seq⟩, stepDue := due }
    let found : Damper := { homing with position := some home, slip := 0, pending := none }
    if c.homeInput = false then homing
    else if p.getD home = home then found.arrived now
    else ({ found with order := some ⟨.move, o.cls, o.source, o.seq⟩ } : Damper).reversed now (p.getD home)

/-- The orders of the queue granted one after another to the lanes that were FREE together, L0 before L1, and then to those
that are FREE again; with the units whose state the grants change. A lane whose order arrives at the grant is FREE. -/
def Sys2Proof.Machine.Ddr.grantsFrom (now : Time) :
    List QueuedOrder → List LaneIx → Ddr → List DriveUnit → Ddr × List DriveUnit
  | [], _, r, news => ({ r with queue := [] }, news)
  | o :: rest, lanes, r, news =>
    let free : List LaneIx := [(0 : LaneIx), 1].filter fun l => decide (r.lanes[l].state = .free)
    match (if lanes = [] then free else lanes) with
    | [] => ({ r with queue := o :: rest }, news)
    | l :: more =>
      let c := r.dampers[o.damper].grantedBy now l o
      let lane : Lane :=
        if c.lane = none then { r.lanes[l] with state := .free, holder := none }
        else { r.lanes[l] with state := .busy, holder := some o.damper }
      Ddr.grantsFrom now rest more
        { r with dampers := r.dampers.set o.damper c, lanes := r.lanes.set l lane } (news ++ [.lane l, .damper o.damper])

/-- What an event at DDR comes to, `before` being what was handed before it: the lanes that it leaves FREE are granted to
the orders that wait (R102), and ADM is then told once of each unit whose state has changed, as it now stands (R110,
assumption 19). Where no lane is FREE or no order waits this is the state itself. -/
def Sys2Proof.Machine.State.arbitrated (s : State) (before : List Instr) : State :=
  let told : List DriveUnit := (s.handed.drop before.length).filterMap fun c =>
    match c with
    | .damperStateReport (.damper d _ _) => some (.damper (d.castLE (by decide)))
    | .damperStateReport (.lane l _) => some (.lane l)
    | _ => none
  let g := s.ddr.grantsFrom s.now s.ddr.queue [] told
  let tells (u : DriveUnit) : List Instr :=
    match u with
    | .damper d =>
      if h : d.val < 3 then [.damperStateReport (.damper ⟨d.val, h⟩ g.1.dampers[d].state g.1.dampers[d].position)] else []
    | .lane l => [.damperStateReport (.lane l g.1.lanes[l].state)]
  { s with ddr := g.1, handed := before ++ g.2.dedup.flatMap tells }

/-- The holder of a lane, where it has one, stops and goes back to the queue with its number (R108): its position is lost
in a search, and it goes back as a HOME then. -/
def Sys2Proof.Machine.State.holderStops (s : State) (l : LaneIx) : State :=
  match s.ddr.lanes[l].holder with
  | none => s
  | some d =>
    let c := s.ddr.dampers[d]
    let search : Bool := decide (c.state = .homing ∨ c.overtravel = true)
    let goal : Goal :=
      if c.state = .homing then .home c.pending else if c.overtravel = true then .home c.target else .move (c.target.getD 0)
    let stopped : Damper :=
      { c with
        state := .waiting, lane := none, order := none, stepCount := 0, overtravel := false, stepDue := none
        settle := none, pending := none, position := if search then none else c.position
        target := if search then none else c.target }
    match c.order with
    | none => s.damperBecomes d stopped
    | some o => (s.queueBecomes (insertOrder ⟨d, goal, o.cls, o.source, o.seq⟩ s.ddr.queue)).damperBecomes d stopped

/-- DDR's start-up homing (R111): a HOME order for each UNHOMED damper in index order, DMP0 as SAFETY and the others as
NORMAL, with source START and no pending target; an order that waits stands, a HOME of DMP0 raised to SAFETY. The lanes are
then granted. -/
def Sys2Proof.Machine.State.startsHoming (s : State) : State :=
  let start (v : State) (d : DamperIx) : State :=
    let c := v.ddr.dampers[d]
    match c.state with
    | .unhomed =>
      (v.queued d (.home none) (if d = 0 then .safety else .normal) .start).damperBecomes d { c with state := .waiting }
    | .waiting =>
      match v.ddr.queuedOrder d with
      | some ⟨_, .home p, _, src, n⟩ =>
        if d = 0 then
          v.queueBecomes (insertOrder ⟨d, .home p, .safety, src, n⟩ (v.ddr.queue.filter fun x => decide (x.damper ≠ d)))
        else v
      | _ => v
    | .absent | .idle | .homing | .moving | .settling | .jammed => v
  ([0, 1, 2, 3, 4, 5, 6, 7].foldl start s).arbitrated s.handed

/-! ### Admission, zones and the loop, in the words of their rules -/

/-- The intake condition that two levels give. -/
def Sys2Proof.Machine.intakeBy (coi pmi : Level) : Intake :=
  if coi = .high then .coHigh else if pmi = .high then .pmHigh
  else if coi = .unknown ∨ pmi = .unknown then .unknown
  else if coi = .elevated ∨ pmi = .elevated then .elevated else .clear

/-- The state that the SEAL line, the directive and the intake condition of a record demand. -/
def Sys2Proof.Machine.Adm.demandBy (a : Adm) : AdmState :=
  if a.sealLine = true ∨ a.directive = .seal then .seal else if a.directive = .vent then .opened
  else match a.intake with
    | .coHigh => .seal | .pmHigh => .scrub | .unknown => .scrub | .elevated => .limit | .clear => .opened

/-- The hold time of a state, in seconds. -/
def Sys2Proof.Machine.AdmSettings.holdBy (c : AdmSettings) (st : AdmState) : Nat :=
  match st with
  | .seal => c.sealHold | .scrub => c.scrubHold | .limit => c.limitHold | .opened => 0 | .inactive => 0

/-- The route that a purge takes in a state. -/
def Sys2Proof.Machine.AdmState.routeBy (st : AdmState) : Route :=
  match st with
  | .scrub => .scrubbed | .seal => .recirc | .opened => .fresh | .limit => .fresh | .inactive => .fresh

/-- The targets of FRESH, SCRUB and RELIEF that the accepted state and the route of a purge give. -/
def Sys2Proof.Machine.Adm.orderedBy (a : Adm) : Vector (Option Nat) 3 :=
  let wanted := max a.minFresh a.fresh
  let state : Nat × Nat × Nat := match a.accepted with
    | .opened => (wanted, 0, 100)
    | .limit => (min a.settings.limitFraction wanted, 100, 60)
    | .scrub => (max a.settings.pressFraction (min a.fresh a.settings.limitFraction), 100, 20)
    | .seal => (0, 100, 0)
    | .inactive => (0, 0, 0)
  match (a.purge.map fun p => p.route : Option Route) with
  | none => #v[some state.1, some state.2.1, some state.2.2]
  | some .fresh => #v[some 100, some state.2.1, some 100]
  | some .scrubbed => #v[some 100, some 100, some 100]
  | some .recirc => #v[some 0, some 100, some 0]

/-- FRESH, SCRUB and RELIEF, where present, are IDLE within 8 steps of their ordered targets. -/
def Sys2Proof.Machine.State.standsAtTargets (s : State) : Bool :=
  (List.finRange 3).all fun i =>
    let c := s.ddr.dampers[i.val]
    decide (c.state = .absent) ||
      match c.position, s.adm.ordered[i] with
      | some p, some n =>
        let t := (n * c.settings.span + 50) / 100
        decide (c.state = .idle ∧ p ≤ t + 8 ∧ t ≤ p + 8)
      | _, _ => false

/-- Whether heat is available: the valve OPEN, the coolant usable and at its minimum. -/
def Sys2Proof.Machine.Heu.offersHeat (h : Heu) : Bool :=
  decide (h.valveOpen = true ∧ h.cltStatus = .usable ∧ (h.settings.coolantMin : Int) ≤ h.clt)

/-- A channel that a consumer sees as usable. -/
def Sys2Proof.Machine.Channel.isUsable (c : Channel) : Bool := decide (c.state = .valid ∨ c.state = .forced)

/-- A zone's record after an update, with heat available or not: ACTIVE with error, integral, demand, blend target and
blower demand computed where its temperature is usable, HOLD with all of them kept where it is not; then fresh air
and breathing, the blend ordered and the update timer started. -/
def Sys2Proof.Machine.State.zoneUpdated (s : State) (z : ZoneIx) (r : Zone) (heat : Bool) : Zone :=
  let c := s.zon.tuning
  let temperature := s.sns.channels[z.val + 2]
  let co2 := if z.val < 2 then s.sns.channels[11] else s.sns.channels[12]
  let discharge := if z.val < 2 then s.sns.channels[6] else s.sns.channels[7]
  let hot : Prop := discharge.isUsable = true ∧ c.discharge ≤ discharge.value
  let e := max (-200) (min 200 ((r.setpoint : Int) - temperature.value))
  let held : Prop := r.blend = 100 ∧ 0 < e ∨ r.blend = 0 ∧ e < 0 ∨ 0 < e ∧ heat = false ∨ 0 < e ∧ hot
  let integral := if held then r.integral else max (-50) (min 50 (r.integral + rha (e * c.ki) 1024))
  let d := max (-100) (min 100 (rha (e * c.kp) 64 + integral))
  let blend := ((d + 100) / 2).toNat
  let moded : Zone :=
    if temperature.isUsable = true then
      { r with
        mode := .active, error := e, integral := integral, demand := d
        blend := if hot then min blend r.blend else blend
        blower := max c.minBlower d.natAbs }
    else { r with mode := .hold }
  let part : Nat :=
    if co2.isUsable = false then 50
    else if co2.value ≤ c.co2Low then 0
    else if (c.co2High : Int) ≤ co2.value then 100
    else ((co2.value - c.co2Low) * 100 / ((c.co2High : Int) - c.co2Low)).toNat
  { moded with
    fresh := min 100 (max part (r.occupancy * c.occupantFresh))
    breathing := decide (1 ≤ r.occupancy ∧ co2.isUsable = true ∧ (c.hardLimit : Int) ≤ co2.value)
    ordered := some moded.blend, update := some (s.now + 1000000) }

/-- The detail of ZONE at a zone's entry to HOLD: its index, and why its temperature is not usable. -/
def Sys2Proof.Machine.State.holdDetail (s : State) (z : ZoneIx) : Nat :=
  let st := s.sns.channels[z.val + 2].state
  z.val + 256 * (if st = .held then 1 else if st = .failed then 2 else 3)

/-- What ZON hands ADM, MOV and HEU of a change of its outputs: each that differs, and no other. -/
def Sys2Proof.Machine.zonNews (old new : ZonOutputs) : List Instr :=
  (if new.fresh = old.fresh then [] else [.zonOutputChange (.fresh new.fresh)]) ++
  (if new.breathing = old.breathing then [] else [.zonOutputChange (.breathing new.breathing)]) ++
  (if new.front = old.front then [] else [.groupDemandChange .front new.front]) ++
  (if new.rear = old.rear then [] else [.groupDemandChange .rear new.rear]) ++
  (if new.heat = old.heat then [] else [.heatDemandChange new.heat])

/-- The PRESS demand that part state, admission picture, loop duty and breach duty give, by the table of cases. -/
def Sys2Proof.Machine.pressCases (run : Prop) [Decidable run] (p : Picture) (loop breach : Nat) : Nat :=
  if ¬ run ∨ p.accepted = .inactive then 0
  else if p.purge = some .fresh ∨ p.purge = some .scrubbed then 100
  else if p.purge = some .recirc then 0
  else if p.breach = true ∧ (p.accepted = .limit ∨ p.accepted = .scrub) then breach
  else if p.accepted = .limit ∨ p.accepted = .scrub then loop
  else 0

/-- The loop record once its phase has been judged by an admission picture, `press` being ADM's press fraction. -/
def Sys2Proof.Machine.Loop.phased (l : Loop) (now : Time) (run : Prop) [Decidable run] (press : Nat) (p : Picture) : Loop :=
  let air : Prop := run ∧ (p.accepted = .limit ∨ p.accepted = .scrub) ∧ p.purge = none
  let phase : LoopPhase := if air ∧ p.breach = true then .holding else if air then .running else .inactive
  if phase = l.phase then l
  else if phase = .inactive then { l with phase := .inactive, update := none, lost := none, duty := 0 }
  else if l.phase = .inactive then
    { phase := phase, duty := press, lastError := 0, lostFlag := false, lost := none
      update := if phase = .running then some (now + 500000) else none }
  else if phase = .running then { l with phase := .running, update := some (now + 500000) }
  else { l with phase := .holding, update := none, lost := none }

/-! ### The heater, in the words of its rules -/

/-- The heater in COOLDOWN, its other timers stopped. -/
def Sys2Proof.Machine.Heu.cooling (h : Heu) (now : Time) (restart : Bool) : Heater :=
  { h.heater with
    state := .cooldown, restart := restart, ignition := none, coolantRelease := none, demandRelease := none
    cooldown := some (now + 1000000 * h.settings.cooldown) }

/-- The heater in PRESTART, with one attempt more. -/
def Sys2Proof.Machine.Heu.starting (h : Heu) (now : Time) : Heater :=
  { h.heater with
    state := .prestart, attempts := h.heater.attempts + 1, ignition := some (now + 1000000 * h.settings.ignition) }

/-- The aux demand holds: in RUN, inhibit clear, coolant usable and below its minimum, demand enough. -/
def Sys2Proof.Machine.Heu.calls (h : Heu) (run : Bool) : Bool :=
  decide (run = true ∧ h.heater.inhibit = false ∧ h.cltStatus = .usable ∧ h.settings.auxStart ≤ h.demand ∧
    h.clt < (h.settings.coolantMin : Int))

/-- The heater after a judgement of the aux demand. -/
def Sys2Proof.Machine.Heu.auxJudged (h : Heu) (now : Time) (run : Bool) : Heater :=
  let holds := h.calls run
  if holds = true ∧ h.heater.state = .off then { h.starting now with auxDemand := true }
  else if holds = true ∧ h.heater.state = .cooldown then { h.heater with auxDemand := true, restart := true }
  else { h.heater with auxDemand := holds }

/-- A heater after a judgement of its release timers, which run only in RUNNING. -/
def Sys2Proof.Machine.Heu.releaseJudged (h : Heu) (r : Heater) (now : Time) : Heater :=
  let due := now + 1000000 * h.settings.releaseHold
  if r.state = .running then
    { r with
      coolantRelease :=
        if h.cltStatus = .usable ∧ (h.settings.coolantTarget : Int) ≤ h.clt then some (r.coolantRelease.getD due) else none
      demandRelease := if h.demand ≤ h.settings.release then some (r.demandRelease.getD due) else none }
  else r

/-- HEU after the judgements of one event: the valve, in RUN only, by the opening test and the two ways to close; then
the heater. -/
def Sys2Proof.Machine.Heu.judged (h : Heu) (now : Time) (run : Bool) : Heu :=
  let usable : Prop := h.cltStatus = .usable
  let valve : Bool × KeptTimer :=
    if run = false then (h.valveOpen, h.valveHold)
    else if h.valveOpen = false then
      if 0 < h.demand ∧ usable ∧ (h.settings.coolantMin : Int) ≤ h.clt then (true, .stopped)
      else (false, h.valveHold)
    else if usable ∧ h.clt < (h.settings.coolantMin : Int) - 50 then (false, .stopped)
    else if 0 < h.demand then (true, .stopped)
    else match h.valveHold with
      | .stopped => (true, .running (now + 1000000 * h.settings.valveHold))
      | .running due => (true, .running due)
      | .expired => if usable then (false, .stopped) else (true, .expired)
  { h with
    valveOpen := valve.1, valveHold := valve.2, heater := h.releaseJudged (h.auxJudged now run) now }

/-! ### What leaving RUN and a link reset leave of each record, in the words of their rules -/

/-- Admission outside RUN (R43, R67): INACTIVE and AUTO, with no hold, breach, purge, condition, check or ordered target. -/
def Sys2Proof.Machine.Adm.rested (a : Adm) : Adm :=
  { a with
    accepted := .inactive, demanded := .opened, directive := .auto, hold := none, breach := none, purge := none
    cabCo := false, breathing := false, sealImpaired := false, check := none, ordered := #v[none, none, none] }

/-- A zone in OFF (R85): its update timer stopped, and what an update computes cleared with the occupancy; the enabled flag
and the setpoint stand. -/
def Sys2Proof.Machine.Zone.rested (r : Zone) : Zone :=
  { r with
    mode := .off, update := none, integral := 0, error := 0, demand := 0, blend := 0, fresh := 0, blower := 0
    breathing := false, ordered := none, occupancy := 0 }

/-- A damper stopped at its step (R119), `o` being its order in the queue: IDLE at its position, or UNHOMED where it was
searching for its home end or waited to; with nothing in hand, deferred or timed. -/
def Sys2Proof.Machine.Damper.stopped (c : Damper) (o : Option QueuedOrder) : Damper :=
  let bare : Damper :=
    { c with
      lane := none, order := none, deferred := none, pending := none, stepCount := 0, overtravel := false
      stepDue := none, settle := none }
  let here : Damper := { bare with state := .idle, target := c.position, last := .superseded }
  let lost : Damper := { bare with state := .unhomed, position := none, target := none, last := .superseded }
  match c.state with
  | .waiting => (o.map fun x => if x.goal.isHome = true then lost else here).getD bare
  | .homing => lost
  | .moving => if c.overtravel = true then lost else here
  | .settling => if c.lane.isSome = true then here else { bare with state := .idle, last := .done }
  | .idle => bare
  | .jammed => bare
  | .unhomed => bare
  | .absent => bare

/-- A damper at rest with its settings at their defaults (R119): a homed one, IDLE at rest, whose span or home end changes
is UNHOMED with slip total 0. -/
def Sys2Proof.Machine.Damper.defaulted (c : Damper) : Damper :=
  if c.state = .idle ∧ ¬ (c.settings.span = damperDefaults.span ∧ c.settings.homeOpen = damperDefaults.homeOpen) then
    { c with settings := damperDefaults, state := .unhomed, position := none, target := none, slip := 0 }
  else { c with settings := damperDefaults }

/-- A lane once it holds no damper (R119): a held one is FREE, every other stands. -/
def Sys2Proof.Machine.Lane.released (r : Lane) : Lane :=
  if r.state = .busy then { r with state := .free, holder := none } else r

/-- A mover outside RUN (R140): duty and demand 0 and no update; a RUNNING or STALLED one is OFF with retry count 0 and its
timers stopped; the measurement goes on. -/
def Sys2Proof.Machine.Mover.rested (r : Mover) : Mover :=
  if r.state = .running ∨ r.state = .stalled then
    { r with
      duty := 0, demand := 0, update := none, state := .off, retry := 0, stall := none, restart := none, cleanRun := none }
  else { r with duty := 0, demand := 0, update := none }

/-- The pressure loop outside RUN (R140). -/
def Sys2Proof.Machine.Loop.rested (l : Loop) : Loop :=
  { l with phase := .inactive, duty := 0, update := none, lost := none, lostFlag := false }

/-- HEU outside RUN (R156): the valve CLOSED, demand 0, nothing pending; a heater in PRESTART or RUNNING has entered
COOLDOWN for the cooldown time of the record, any other stands. -/
def Sys2Proof.Machine.Heu.rested (h : Heu) (now : Time) : Heu :=
  let firing : Prop := h.heater.state = .prestart ∨ h.heater.state = .running
  let heater : Heater := if firing then h.cooling now false else { h.heater with restart := false }
  { h with valveOpen := false, valveHold := .stopped, demand := 0, heater := { heater with auxDemand := false } }

/-- What ADM, ZON and DDR hand on leaving RUN and at a link reset, from the records of `s` to those of `t`: the picture where
it is not INACTIVE already, each output that changes, and each change of FRESH, SCRUB, RELIEF and the lanes. -/
def Sys2Proof.Machine.State.restNews (s t : State) : List Instr :=
  let rest : Picture := ⟨.inactive, false, none⟩
  (if s.adm.picture = rest then [] else [.admissionReport rest]) ++
  zonNews s.zon.out ⟨0, false, 0, 0, 0⟩ ++
  ((List.finRange 8).flatMap fun d => damperNews d s.ddr.dampers[d] t.ddr.dampers[d]) ++
  (List.finRange 2).flatMap fun l =>
    if s.ddr.lanes[l].state = t.ddr.lanes[l].state then [] else [.damperStateReport (.lane l t.ddr.lanes[l].state)]

/-! ### The machine -/

/-- The command at the front of the queue is taken, and its meaning runs on the state with the queue's rest. The
queue is the model's own (assumption 1). -/
def Obligations.StepTakesTheFrontCommand : Prop :=
  ∀ (c : Instr) (rest : List Instr) (s : State),
    step { s with pending := c :: rest } = exec c { s with pending := rest }

/-- With no command waiting, the oldest event that a block has handed another is taken; with none of those, the first
expiry that is due in the order of the part's timers; else the clock moves on by a microsecond and nothing else
changes. This order, and that of the timers, is the model's choice (assumptions 2, 16). -/
def Obligations.StepOnAnEmptyQueue : Prop :=
  ∀ s : State, s.pending = [] →
    (∀ c cs, s.handed = c :: cs → step s = exec c s) ∧
    (s.handed = [] → ∀ (before after : List TimerEntry) (e : TimerEntry), s.timers = before ++ e :: after →
      (∀ e' ∈ before, e'.isDue s.now = false) → e.isDue s.now = true → step s = exec e.2 s) ∧
    (s.handed = [] → (∀ e ∈ s.timers, e.isDue s.now = false) → step s = .next { s with now := s.now + 1 })

/-- The state after reset meets every law of Safety.lean. -/
def Obligations.ResetMeetsEveryLaw : Prop :=
  State.reset.AttentionLaw ∧ State.reset.AdmissionLaw ∧ State.reset.HeatLaw ∧ State.reset.MoverLaw ∧
  State.reset.ZoneLaw ∧ State.reset.SensorLaw ∧ State.reset.AssessorLaw ∧ State.reset.TerminalLaw ∧
  State.reset.DriveLaw ∧ State.reset.ReceiveLaw ∧ State.reset.PercentLaw ∧ State.reset.BlocksComplete

/-- The order in which the blocks take the part-wide events is the model's (assumption 3); no step changes it. -/
def Obligations.StepKeepsTheBlockOrder : Prop :=
  ∀ s t : State, step s = .next t → t.blockOrder = s.blockOrder

/-- The attention records, the ATTN line and the FAULT line keep their law through every step. -/
def Obligations.StepKeepsTheAttentionLaw : Prop :=
  ∀ s t : State, s.AttentionLaw → step s = .next t → t.AttentionLaw

/-- Admission keeps its law through every step: in RUN the accepted state is never below the demanded one, and
every ordered target is the computed one; outside RUN nothing of admission is active. -/
def Obligations.StepKeepsTheAdmissionLaw : Prop :=
  ∀ s t : State, s.BlocksComplete → s.AdmissionLaw → step s = .next t → t.AdmissionLaw

/-- The valve and the heater keep their law through every step: AUX_RUN is asserted only in RUN with inhibit
clear. -/
def Obligations.StepKeepsTheHeatLaw : Prop :=
  ∀ s t : State, s.BlocksComplete → s.HeatLaw → step s = .next t → t.HeatLaw

/-- The movers, the pressure loop and the filter watch keep their law through every step: a mover drives only
while RUNNING and in RUN. -/
def Obligations.StepKeepsTheMoverLaw : Prop :=
  ∀ s t : State, s.BlocksComplete → s.MoverLaw → step s = .next t → t.MoverLaw

/-- The zones keep their law through every step: each record in its ranges, each output what the records give. -/
def Obligations.StepKeepsTheZoneLaw : Prop :=
  ∀ s t : State, s.BlocksComplete → s.ZoneLaw → step s = .next t → t.ZoneLaw

/-- The channels and the override slots keep their law through every step. -/
def Obligations.StepKeepsTheSensorLaw : Prop :=
  ∀ s t : State, s.SensorLaw → step s = .next t → t.SensorLaw

/-- The assessors keep their law through every step: the baseline never stands above its ceiling, in a record that a FAILED
channel leaves too (the model's reading, assumption 42). -/
def Obligations.StepKeepsTheAssessorLaw : Prop :=
  ∀ s t : State, s.AssessorLaw → step s = .next t → t.AssessorLaw

/-- The map and the entries of the terminals agree after every step. -/
def Obligations.StepKeepsTheTerminalLaw : Prop :=
  ∀ s t : State, s.TerminalLaw → step s = .next t → t.TerminalLaw

/-- The dampers, the lanes and the move queue keep their law through every step: a lane and its holder name each
other, a damper that has arrived rests at its target, and the queue stands in grant order with at most one order for a
damper. -/
def Obligations.StepKeepsTheDriveLaw : Prop :=
  ∀ s t : State, s.BlocksComplete → s.DriveLaw → step s = .next t → t.DriveLaw

/-- The receive record keeps its law through every step. -/
def Obligations.StepKeepsTheReceiveLaw : Prop :=
  ∀ s t : State, s.ReceiveLaw → step s = .next t → t.ReceiveLaw

/-- The percents that pass from block to block stay in 0 to 100 through every step. -/
def Obligations.StepKeepsThePercentLaw : Prop :=
  ∀ s t : State, s.BlocksComplete → s.PercentLaw → step s = .next t → t.PercentLaw

/-! ### Operating states -/

/-- A hardware reset: every block at the values that its chapter gives, the part in INIT with retain clear and the
cause recorded; the levels that the outside puts on the pins stand. INIT ends in CONFIG with RESTART raised,
unless RESET stays asserted; RESET_NEGATION negates it. In INIT the part takes nothing else: a byte is not looked at, a
request is not answered, an event changes nothing but that it waits no longer; only the pins themselves go on. The
inputs that ADM and HEU hold, the events handed before the reset, and that the events of blocks at their reset values
are dropped, are the model's readings (assumptions 4, 12, 31, 32, 36). -/
def Obligations.HardwareResetAndInit : Prop :=
  ∀ (kind : ResetKind) (c : Instr) (s : State),
    let cause : Cause := match kind with | .powerOn => .powerOn | .resetPin => .resetPin
    let detail : Nat := match s.part.cause with | .powerOn => 256 | .resetPin => 512 | .linkReset => 768
    (∃ t, exec (.hardwareReset kind) s = .next t ∧
      t.part = ⟨.init, false, cause, s.part.resetAsserted || decide (kind = .resetPin)⟩ ∧
      t.sns = snsReset ∧ t.asr = asrReset ∧ t.adm = admReset ∧ t.zon = zonReset ∧ t.ddr = ddrReset ∧
      t.mov = movReset ∧ t.heu = heuReset ∧ t.atn = atnReset ∧ t.link = linkAfterReset ∧
      (∀ i : TerminalIx, t.trm.entries[i] =
        { func := none, invert := false, debounce := .ms50, openDrain := false, level := s.trm.entries[i].level
          debounced := false, timer := none }) ∧
      (∀ f : Fin 51, t.trm.map[f] = none) ∧
      t.handed = [] ∧ t.pending = s.pending ∧ t.now = s.now ∧ t.free = s.free ∧ t.blockOrder = s.blockOrder) ∧
    (s.part.state = .init → s.part.resetAsserted = false → exec .initEnd s =
      .next { s with part := { s.part with state := .config }, atn := s.atn.raise asRestart detail }) ∧
    (s.part.resetAsserted = true ∨ s.part.state ≠ .init → exec .initEnd s = .next s) ∧
    exec .resetNegation s = .next { s with part := { s.part with resetAsserted := false } } ∧
    (s.part.state = .init →
      (match c with | .hardwareReset _ | .initEnd | .resetNegation | .pinChange _ _ => false | _ => true) = true →
      exec c s = .next s ∨ exec c s = .next { s with handed := s.handed.erase c })

/-- SET_STATE RUN in CONFIG: the refusals in their order; else, with DMP0 and a lane present, the part is in RUN. ADM
takes one event from its starting state: directive AUTO, every input as it stands, ADMISSION raised with the state that
this leaves, every damper ordered. Every enabled zone takes its first update, DMP7 is ordered, the outputs are formed;
every mover's update timer starts, its demand and the loop phase are those of the picture; the valve and the aux demand
are judged. DDR's dampers, lanes and queue are what the owners' orders and the start-up homing make of them, in the order of
the blocks: a HOME order for each UNHOMED damper, granted as lanes are FREE, with the owner's target as pending target and
the owner as source where it orders, START where it does not. The zones order in index order and DEFROST after them
(assumption 34), and a grant is as in assumptions 13, 21, 22 and 26. It holds for every order of the blocks (assumption 3):
what one block reads of another may be what stood before that block's entry or what its entry leaves, and a change is
handed. Left open: the source ZONE, the free-value counter, the CPD and FPD that MOV has taken, and what is handed besides
the admission report and the changed outputs. -/
def Obligations.EnteringRun : Prop :=
  ∀ (code : Byte) (s : State), s.BlocksComplete → s.part.state ≠ .init →
    let refused (c : Byte) (status : Byte) : Prop := exec (.setState c) s = .next (s.replied (.setState c) 0x81#8 [status])
    let line (f : Func) : Bool := match s.trm.map[f.slot] with | none => false | some i => s.trm.entries[i].debounced
    let start : AdmState :=
      if s.sns.channels[8].state = .absent ∧ s.sns.channels[9].state = .absent then .opened else .scrub
    let high : Prop := s.asr[2].level = .high
    let stuck : Prop := ∀ l : LaneIx, s.ddr.lanes[l].state ≠ .free ∧ s.ddr.lanes[l].state ≠ .busy
    let door := s.ddr.dampers[0].state
    (1 < code.toNat → refused code 19#8) ∧
    (s.part.state = .run → refused 1#8 20#8) ∧
    (s.part.state = .config →
      refused 0#8 20#8 ∧
      (s.ddr.dampers[0].state = .absent ∨ s.ddr.lanes[0].state = .absent ∧ s.ddr.lanes[1].state = .absent →
        refused 1#8 26#8) ∧
      (s.ddr.dampers[0].state ≠ .absent → s.ddr.lanes[0].state ≠ .absent ∨ s.ddr.lanes[1].state ≠ .absent →
        ∃ t, exec (.setState 1#8) s = .next t ∧ t.part = { s.part with state := .run } ∧
          t.link = { s.link with busy := true, reply := some ⟨0x81#8, [0#8]⟩ } ∧
          t.sns = s.sns ∧ t.asr = s.asr ∧ t.trm = s.trm ∧ t.now = s.now ∧ t.pending = s.pending ∧
          -- ADM
          t.adm.settings = s.adm.settings ∧ t.adm.directive = .auto ∧ t.adm.sealLine = line .sealReq ∧
          (∀ d : DoorIx, t.adm.doors[d] = line (.door d)) ∧
          t.adm.minFresh =
            (if s.sns.channels[0].isUsable = true ∧ s.sns.channels[0].value < -100 then 5 else 10) ∧
          (t.adm.fresh = s.zon.out.fresh ∧ t.adm.breathingFlag = s.zon.out.breathing ∨
            t.adm.fresh = t.zon.out.fresh ∧ t.adm.breathingFlag = t.zon.out.breathing) ∧
          t.adm.cab = s.asr[2].level ∧ t.adm.intake = intakeBy s.asr[0].level s.asr[1].level ∧
          t.adm.demanded = t.adm.demandBy ∧
          t.adm.accepted = (if start.code < t.adm.demanded.code then t.adm.demanded else start) ∧
          t.adm.hold = (if t.adm.demanded.code < start.code then
            some (s.now + 1000000 * s.adm.settings.holdBy start) else none) ∧
          t.adm.breach = (if (∃ d : DoorIx, t.adm.doors[d] = true) ∧ t.adm.accepted ≠ .opened then some s.now else none) ∧
          t.adm.purge = (if high then
            some ⟨.frozen (1000000 * s.adm.settings.purgeTime), t.adm.accepted.routeBy⟩ else none) ∧
          t.adm.cabCo = decide high ∧
          t.adm.breathing = (decide (t.adm.accepted = .seal) && t.adm.breathingFlag) ∧
          (door = .jammed ∨ door = .waiting ∧ stuck → t.adm.sealImpaired = true) ∧
          (t.adm.sealImpaired = true → door = .jammed ∨ stuck ∧ (door = .waiting ∨ door = .unhomed)) ∧
          t.adm.ordered = t.adm.orderedBy ∧
          t.atn.sources[asAdmission] = s.atn.sources[asAdmission].raise t.adm.accepted.code ∧
          t.atn.sources[asCabCo] =
            (if high then s.atn.sources[asCabCo].raise (min 65535 s.asr[2].f) else s.atn.sources[asCabCo]) ∧
          t.atn.sources[asBreathing] =
            (if t.adm.breathing = true then s.atn.sources[asBreathing].raise 0 else s.atn.sources[asBreathing]) ∧
          t.atn.sources[asSealImpaired] =
            (if t.adm.sealImpaired = true then s.atn.sources[asSealImpaired].raise (if door = .jammed then 1 else 2)
            else s.atn.sources[asSealImpaired]) ∧
          (s.DriveLaw →
            t.adm.check = (if t.standsAtTargets = true then none else some t.adm.accepted) ∧
            t.atn.sources[asSettled] =
              if t.standsAtTargets = true then s.atn.sources[asSettled].raise t.adm.accepted.code
              else s.atn.sources[asSettled]) ∧
          (∀ i : SourceIx, i ∉ [asAdmission, asCabCo, asBreathing, asSealImpaired, asSettled, asZone] →
            t.atn.sources[i] = s.atn.sources[i]) ∧
          t.atn.fault = (t.adm.cabCo || t.adm.breathing || t.adm.sealImpaired) ∧
          .admissionReport t.adm.picture ∈ t.handed ∧
          -- ZON
          t.zon.tuning = s.zon.tuning ∧ t.zon.defrost = s.zon.defrost ∧ t.zon.out = t.zon.outputs ∧
          t.zon.orderedDefrost = some (if s.zon.defrost then 100 else 0) ∧
          (∃ heat : Bool, (heat = s.heu.offersHeat ∨ heat = t.heu.offersHeat) ∧ ∀ z : ZoneIx,
            let r := s.zon.zones[z]
            t.zon.zones[z] =
              if r.enabled = true then
                s.zoneUpdated z { r with mode := .active, ordered := none, breathing := false } heat
              else r) ∧
          (∀ e ∈ zonNews s.zon.out t.zon.out, e ∈ t.handed) ∧
          -- MOV
          (t.mov.picture = s.adm.picture ∨ t.mov.picture = t.adm.picture) ∧
          (t.mov.front = s.zon.out.front ∧ t.mov.rear = s.zon.out.rear ∨
            t.mov.front = t.zon.out.front ∧ t.mov.rear = t.zon.out.rear) ∧
          t.mov.loop = s.mov.loop.phased s.now True s.adm.settings.pressFraction t.mov.picture ∧
          t.mov.filter = s.mov.filter ∧ t.mov.pressure = s.mov.pressure ∧
          (let purge : Nat := if t.mov.picture.purge = none then 0 else 100
            let due : Option Time := some (s.now + 100000)
            t.mov.movers[0] = { s.mov.movers[0] with update := due, demand := max t.mov.front purge } ∧
            t.mov.movers[1] = { s.mov.movers[1] with update := due, demand := max t.mov.rear purge } ∧
            t.mov.movers[2] = { s.mov.movers[2] with
              update := due
              demand := pressCases True t.mov.picture t.mov.loop.duty s.mov.pressure.breachDuty }) ∧
          -- HEU
          (t.heu.demand = s.zon.out.heat ∨ t.heu.demand = t.zon.out.heat) ∧
          (s.HeatLaw →
            let seen : Status := match s.sns.channels[1].state with
              | .valid => .usable | .forced => .usable | .held => .held | .failed => .failed | .absent => .absent
              | .warming => .absent
            t.heu = ({ s.heu with demand := t.heu.demand, cltStatus := seen, clt := s.sns.channels[1].value } : Heu).judged
              s.now true) ∧
          -- DDR
          (∀ d : DamperIx, t.ddr.dampers[d].state ≠ .unhomed) ∧
          (s.DriveLaw → s.ddr.seq + 16 < 4294967296 →
            let takes (v : State) (b : Block) : State :=
              match b with
              | .adm => [(0 : Fin 3), 1, 2].foldl
                  (fun u i => u.order (i.castLE (by decide)) (t.adm.ordered[i].getD 0) .safety .adm) v
              | .zon =>
                let u := [(0 : ZoneIx), 1, 2, 3].foldl (fun u z =>
                  if s.zon.zones[z].enabled = true then
                    u.order ((z.castLE (by decide) : DamperIx) + 3) (t.zon.zones[z].ordered.getD 0) .normal .zon
                  else u) v
                u.order 7 (if s.zon.defrost then 100 else 0) .normal .zon
              | .ddr => v.startsHoming
              | .sns | .asr | .mov | .heu | .atn => v
            t.ddr = (s.blockOrder.foldl takes s).ddr ∧
            (stuck → ∀ d : DamperIx, s.ddr.dampers[d].state = .unhomed →
              let wish : Option Nat :=
                if ∃ z : ZoneIx, d.val = z.val + 3 ∧ s.zon.zones[z].enabled = false then none else t.ownerTarget d
              ∃ o ∈ t.ddr.queuedOrder d,
                o.goal = .home (wish.map fun p => (p * s.ddr.dampers[d].settings.span + 50) / 100) ∧
                o.cls = (if d.val < 3 then .safety else .normal) ∧
                o.source = (if wish = none then .start else if d.val < 3 then .adm else .zon) ∧
                t.ddr.dampers[d].state = .waiting))))

/-- SET_STATE CONFIG in RUN: every block has left RUN before the reply. Admission is INACTIVE and FAULT negated (R67);
the zones are OFF with all that their updates compute cleared, occupancy 0, and the outputs 0 (R85); every damper has
stopped as its row says, with nothing in hand, the queue is empty, each held lane FREE and the sequence counter 0 (R119);
every duty and demand is 0, a RUNNING or STALLED mover OFF, the loop INACTIVE with duty 0 (R140); the valve is CLOSED and a
heater in PRESTART or RUNNING in COOLDOWN (R156). All else stands: settings, bindings, channels, assessors and attention
sources. What the blocks hand one another is given but for its order, which is left open: it follows the order of the
blocks, for every one of which the statement holds (assumption 3). -/
def Obligations.LeavingRun : Prop :=
  ∀ s : State, s.part.state = .run → s.BlocksComplete →
    ∃ t, exec (.setState 0#8) s = .next t ∧
      t = { s with
        part := { s.part with state := .config }
        link := { s.link with busy := true, reply := some ⟨0x81#8, [0#8]⟩ }
        atn := { s.atn with fault := false }
        adm := s.adm.rested
        zon := { s.zon with zones := t.zon.zones, orderedDefrost := none, out := ⟨0, false, 0, 0, 0⟩ }
        ddr := { dampers := t.ddr.dampers, lanes := t.ddr.lanes, queue := [], seq := 0 }
        mov := { s.mov with
          movers := t.mov.movers, loop := s.mov.loop.rested, picture := ⟨.inactive, false, none⟩, front := 0, rear := 0 }
        heu := s.heu.rested s.now
        handed := t.handed } ∧
      (∀ z : ZoneIx, t.zon.zones[z] = s.zon.zones[z].rested) ∧
      (∀ d : DamperIx, t.ddr.dampers[d] = s.ddr.dampers[d].stopped (s.ddr.queuedOrder d)) ∧
      (∀ l : LaneIx, t.ddr.lanes[l] = s.ddr.lanes[l].released) ∧
      (∀ m : MoverIx, t.mov.movers[m] = s.mov.movers[m].rested) ∧
      t.handed.Perm (s.handed.erase (.setState 0#8) ++ s.restNews t)

/-- LINK_RESET is answered first and RETAIN sets the flag that the reset reads. The reset follows the reply. The part is in
CONFIG. SNS: each override released, its channel HELD with the forced value as last good for the hold time that the
settings then have, every other channel as it was; a FAILED one takes a changed failsafe value (R23). ASR: a baseline
above the default ceiling comes down to it (R41). ATN: RESTART alone pending, every other detail standing, FAULT negated
(R177). ADM, ZON, DDR, MOV and HEU are left as by LeavingRun (R67, R85, R119, R140, R156). The retainable settings
stand where retain is set and are at their defaults where it is clear: a homed damper whose span or home end that changes
is then UNHOMED, and a cooldown that the reset starts runs for the default time. All else stands. What the blocks hand one
another is given but for its order, which is left open: it follows the order of the blocks, for every one of which the
statement holds (assumption 3); a frame that is held is handed last, to be taken next. That a baseline comes down
in a FAILED record too is assumption 42, that an unchanged failsafe value is not reported 28. -/
def Obligations.LinkReset : Prop :=
  ∀ (flag : Byte) (s : State), s.part.state ≠ .init →
    let asked : Link := { s.link with resetDue := true, busy := true, reply := some ⟨0x82#8, [0#8]⟩ }
    let retain : Instr := .retain flag
    let r : Bool := s.part.retain
    exec .linkReset s = .next { s with handed := s.handed.erase .linkReset, link := asked } ∧
    (flag.toNat ≤ 1 → exec retain s =
      .next { s.replied retain 0x83#8 [0#8] with part := { s.part with retain := decide (flag = 1#8) } }) ∧
    (1 < flag.toNat → exec retain s = .next (s.replied retain 0x83#8 [19#8])) ∧
    (s.link.resetting = true → s.BlocksComplete →
      ∃ t, exec .linkResetEffect s = .next t ∧
        t = { s with
          part := { s.part with state := .config, cause := .linkReset }
          link := { s.link with busy := false, resetDue := false, resetting := false }
          sns := t.sns, asr := t.asr
          atn := { sources := t.atn.sources, attn := decide (1 ≤ t.atn.sources[asRestart].level), fault := false }
          adm := { s.adm.rested with settings := if r then s.adm.settings else admDefaults }
          zon := { s.zon with
            zones := t.zon.zones, tuning := if r then s.zon.tuning else tuningDefaults, defrost := r && s.zon.defrost
            orderedDefrost := none, out := ⟨0, false, 0, 0, 0⟩ }
          ddr := { dampers := t.ddr.dampers, lanes := t.ddr.lanes, queue := [], seq := 0 }
          mov := { s.mov with
            movers := t.mov.movers, loop := s.mov.loop.rested, picture := ⟨.inactive, false, none⟩, front := 0, rear := 0
            pressure := if r then s.mov.pressure else pressureDefaults }
          heu := ({ s.heu with settings := if r then s.heu.settings else heatDefaults } : Heu).rested s.now
          handed := t.handed } ∧
        (∀ i : SlotIx, t.sns.slots[i] = none) ∧
        (∀ ch : ChannelIx,
          let c := s.sns.channels[ch]
          let set := if r then c.settings else channelDefaults ch
          ((∀ i : SlotIx, ∀ o ∈ s.sns.slots[i], o.channel ≠ ch) →
            t.sns.channels[ch] =
              { c with settings := set, value := if r = false ∧ c.state = .failed then set.failsafe else c.value }) ∧
          (∀ i : SlotIx, ∀ o ∈ s.sns.slots[i], o.channel = ch →
            (∀ j : SlotIx, ∀ p ∈ s.sns.slots[j], p.channel = ch → j = i) →
            t.sns.channels[ch] =
              { c with
                settings := set, state := .held, value := o.value, lastGood := some o.value, slot := none
                hold := some (s.now + 1000 * set.hold) })) ∧
        (∀ i : AssessorIx,
          let a := s.asr[i]
          let set := assessorDefaults i
          t.asr[i] =
            if r then a
            else if set.ceiling < a.b then { a with settings := set, b := set.ceiling, s := a.f - set.ceiling }
            else { a with settings := set }) ∧
        (∀ i : SourceIx,
          let c := s.atn.sources[i]
          t.atn.sources[i] =
            { level := if r then c.level else levelDefault i, pending := decide (i = asRestart)
              count := if i = asRestart then 1 else 0, detail := if i = asRestart then 768 else c.detail }) ∧
        (∀ z : ZoneIx, t.zon.zones[z] =
          { s.zon.zones[z].rested with
            enabled := r && s.zon.zones[z].enabled, setpoint := if r then s.zon.zones[z].setpoint else 210 }) ∧
        (∀ d : DamperIx,
          let c := s.ddr.dampers[d].stopped (s.ddr.queuedOrder d)
          t.ddr.dampers[d] = if r then c else c.defaulted) ∧
        (∀ l : LaneIx, t.ddr.lanes[l] = s.ddr.lanes[l].released) ∧
        (∀ m : MoverIx, t.mov.movers[m] =
          { s.mov.movers[m].rested with settings := if r then s.mov.movers[m].settings else moverDefaults }) ∧
        (let fresh : List Instr := (List.finRange 15).flatMap fun ch =>
            let v := (channelDefaults ch).failsafe
            let c := s.sns.channels[ch]
            if r = false ∧ c.state = .failed ∧ c.settings.failsafe ≠ v then (reportEvent ch .failed v).toList else []
          let released : List Instr := (List.finRange 4).flatMap fun i =>
            (s.sns.slots[i].map fun o => (reportEvent o.channel .held o.value).toList).getD []
          let frame : List Instr := if s.link.held.isSome = true then [.heldFrameTaken] else []
          t.handed.Perm (s.handed.erase .linkResetEffect ++ fresh ++ released ++ s.restNews t ++ frame) ∧
          (s.link.held.isSome = true → t.handed.getLast? = some .heldFrameTaken)))

/-- The pages of READ_CONFIG by selector (R183): how many, and the request whose layout each has. -/
def Sys2Proof.Machine.configPages : List (Nat × List Req) :=
  [(0, List.replicate 15 .setChannel), (1, List.replicate 3 .setAssess), (2, [.setAdmission]),
    (3, [.setZoneTuning, .setZone, .setZone, .setZone, .setZone, .setDefrost]), (4, List.replicate 8 .setDamper),
    (5, [.setMover, .setMover, .setMover, .setPressure]), (6, [.setHeat]), (7, [.setLevels])]

/-- A two-byte field, low byte first, in two's complement. -/
def Sys2Proof.Machine.twoBytes (n : Int) : List Byte := [(BitVec.ofInt 16 n).extractLsb' 0 8, (BitVec.ofInt 16 n).extractLsb' 8 8]

/-- A one-byte field. -/
def Sys2Proof.Machine.oneByte (n : Nat) : Byte := BitVec.ofNat 8 n

/-- A flag field. -/
def Sys2Proof.Machine.flagByte (b : Bool) : Byte := if b then 1#8 else 0#8

/-- A field that shows 255 for none. -/
def Sys2Proof.Machine.byteOr255 (n : Option Nat) : Byte := match n with | none => 255#8 | some n => BitVec.ofNat 8 n

/-- A time in tenths of a second, rounded half up (assumption 11). -/
def Sys2Proof.Machine.tenthsOf (t : Time) : Int := (((t + 50000) / 100000 : Nat) : Int)

/-- The settings that a page of READ_CONFIG shows, byte by byte as they stand, in the layout of the setting request. -/
def Sys2Proof.Machine.State.settingsPage (s : State) (selector page : Nat) : Option (List Byte) :=
  if selector = 0 then s.sns.channels[page]?.map fun r =>
    let c := r.settings
    oneByte page :: twoBytes c.gain ++ twoBytes c.offset ++ twoBytes c.low ++ twoBytes c.high ++ twoBytes c.warmUp ++
      twoBytes c.hold ++ twoBytes c.failsafe ++ [oneByte c.recovery]
  else if selector = 1 then s.asr[page]?.map fun r =>
    let c := r.settings
    [oneByte page, oneByte c.alpha, oneByte c.beta, oneByte c.n] ++ twoBytes c.ceiling ++ twoBytes c.low ++
      twoBytes c.high ++ twoBytes c.abs ++ twoBytes c.h ++ [oneByte c.p, oneByte c.d]
  else if selector = 2 ∧ page = 0 then
    let c := s.adm.settings
    some ([oneByte c.limitFraction, oneByte c.pressFraction] ++ twoBytes c.sealHold ++ twoBytes c.scrubHold ++
      twoBytes c.limitHold ++ twoBytes c.purgeTime ++ [oneByte c.breachMin])
  else if selector = 3 ∧ page = 0 then
    let c := s.zon.tuning
    some (twoBytes c.kp ++ twoBytes c.ki ++ [oneByte c.minBlower] ++ twoBytes c.co2Low ++ twoBytes c.co2High ++
      twoBytes c.hardLimit ++ [oneByte c.occupantFresh] ++ twoBytes c.discharge)
  else if selector = 3 ∧ page ≤ 4 then s.zon.zones[page - 1]?.map fun r =>
    [oneByte (page - 1), flagByte r.enabled] ++ twoBytes r.setpoint
  else if selector = 3 ∧ page = 5 then some [flagByte s.zon.defrost]
  else if selector = 4 then s.ddr.dampers[page]?.map fun r =>
    let c := r.settings
    oneByte page :: twoBytes c.span ++ twoBytes c.rate ++ twoBytes c.settle ++ [flagByte c.homeOpen]
  else if selector = 5 ∧ page = 3 then
    let c := s.mov.pressure
    some (twoBytes c.target ++ [oneByte c.gain, oneByte c.breachDuty] ++ twoBytes c.filterLimit)
  else if selector = 5 then s.mov.movers[page]?.map fun r =>
    let c := r.settings
    [oneByte page, oneByte c.rampRate] ++ twoBytes c.stallSpeed ++ twoBytes c.stallTime ++ [oneByte c.minStallDuty] ++
      twoBytes c.restartDelay ++ [oneByte c.retries]
  else if selector = 6 ∧ page = 0 then
    let c := s.heu.settings
    some (twoBytes c.coolantMin ++ twoBytes c.valveHold ++ [oneByte c.auxStart, oneByte c.release] ++
      twoBytes c.coolantTarget ++ twoBytes c.releaseHold ++ twoBytes c.ignition ++ twoBytes c.cooldown)
  else if selector = 7 ∧ page = 0 then some (s.atn.sources.toList.map fun r => oneByte r.level)
  else none

/-- READ_IDENT: the part code, the two revisions, the cause, the state and the retain flag as they stand. READ_CONFIG: a
page of the table is answered with selector, page and the settings as they stand, in the layout of its setting
request; any other selector or page is refused RANGE. -/
def Obligations.IdentityAndConfiguration : Prop :=
  ∀ (selector page : Byte) (s : State), s.part.state ≠ .init →
    let cause : Byte := match s.part.cause with | .powerOn => 1#8 | .resetPin => 2#8 | .linkReset => 3#8
    let state : Byte := if s.part.state = .config then 1#8 else 2#8
    let retain : Byte := if s.part.retain then 1#8 else 0#8
    let cmd : Instr := .readConfig selector page
    let layout := ((configPages.lookup selector.toNat).getD [])[page.toNat]?
    exec .readIdent s = .next (s.replied .readIdent 0x84#8
      [0#8, 0x4C#8, 0x58#8, 0x36#8, 0x31#8, 0x30#8, 2#8, 1#8, cause, state, retain]) ∧
    (∀ r ∈ layout, ∃ bytes ∈ s.settingsPage selector.toNat page.toNat, bytes.length = r.bodyLength ∧
      (∃ i ∈ s.configPage selector.toNat page.toNat, i.request? = some (r, bytes)) ∧
      exec cmd s = .next (s.replied cmd 0x85#8 (0#8 :: selector :: page :: bytes))) ∧
    (layout = none → exec cmd s = .next (s.replied cmd 0x85#8 [19#8]))

/-- The data of READ_ADMISSION: the record in RUN; else INACTIVE with nothing active, and the conditions, the lines and
the minimum fresh as they stand. -/
def Sys2Proof.Machine.State.admissionReply (s : State) : List Byte :=
  let run : Bool := decide (s.part.state = .run)
  let a := s.adm
  let line (f : Func) : Bool := match s.trm.map[f.slot] with | none => false | some i => s.trm.entries[i].debounced
  let shut (d : DoorIx) (n : Nat) : Nat := if (if run then a.doors[d] else line (.door d)) then n else 0
  let directive : Nat := match a.directive with | .auto => 0 | .seal => 1 | .vent => 2
  let intake : Nat := match (if run then a.intake else intakeBy s.asr[0].level s.asr[1].level) with
    | .clear => 0 | .elevated => 1 | .unknown => 2 | .pmHigh => 3 | .coHigh => 4
  let cab : Nat := match (if run then a.cab else s.asr[2].level) with
    | .clear => 0 | .elevated => 1 | .high => 2 | .unknown => 3
  let code (st : AdmState) : Nat := match st with | .inactive => 0 | .opened => 1 | .limit => 2 | .scrub => 3 | .seal => 4
  let hold : Time := match a.hold with | none => 0 | some due => due - s.now
  let elapsed : Int := match a.breach with | none => 0 | some since => min 65535 (tenthsOf (s.now - since))
  let purge : List Byte := match a.purge with
    | none => [0#8, 0#8, 0#8, 0#8, 0#8]
    | some p =>
      let frozen : Bool × Time := match p.clock with | .frozen left => (true, left) | .running due => (false, due - s.now)
      let route : Nat := match p.route with | .fresh => 1 | .scrubbed => 2 | .recirc => 3
      [1#8, flagByte frozen.1, oneByte route] ++ twoBytes (tenthsOf frozen.2)
  let minFresh : Nat := if s.sns.channels[0].isUsable = true ∧ s.sns.channels[0].value < -100 then 5 else 10
  (if run then [oneByte (code a.accepted), oneByte (code a.demanded), oneByte directive] else [0#8, 1#8, 0#8]) ++
  [oneByte intake, oneByte cab, flagByte (if run then a.sealLine else line .sealReq),
    oneByte (shut 0 1 + shut 1 2 + shut 2 4 + shut 3 8)] ++
  if run then
    twoBytes (tenthsOf hold) ++ [flagByte a.breach.isSome] ++ twoBytes elapsed ++ purge ++
    [oneByte ((if a.cabCo then 1 else 0) + (if a.breathing then 2 else 0) + (if a.sealImpaired then 4 else 0)),
      oneByte (match a.check with | none => 0 | some st => code st), byteOr255 a.ordered[0], byteOr255 a.ordered[1],
      byteOr255 a.ordered[2], oneByte a.fresh, oneByte a.minFresh]
  else List.replicate 12 0#8 ++ [255#8, 255#8, 255#8, 0#8, oneByte minFresh]

/-- The data of READ_ZONES: twelve bytes a zone, and the part-wide fields. -/
def Sys2Proof.Machine.Zon.reply (r : Zon) : List Byte :=
  let mode (m : ZoneMode) : Nat := match m with | .off => 0 | .active => 1 | .hold => 2
  let zone (z : Zone) : List Byte :=
    [oneByte ((if z.enabled then 1 else 0) + 2 * mode z.mode + (if z.breathing then 8 else 0))] ++ twoBytes z.setpoint ++
      [oneByte z.occupancy] ++ twoBytes z.error ++
      [BitVec.ofInt 8 z.integral, BitVec.ofInt 8 z.demand, oneByte z.blend, byteOr255 z.ordered, oneByte z.fresh,
        oneByte z.blower]
  r.zones.toList.flatMap zone ++
    [oneByte r.out.fresh, flagByte r.out.breathing, oneByte r.out.front, oneByte r.out.rear, oneByte r.out.heat,
      flagByte r.defrost, byteOr255 r.orderedDefrost]

/-- The data of READ_DAMPERS: six bytes a damper, three a lane; a target is the pending one of a HOME order or a homing
damper, and steps are shown in percent of the span, rounded half up. -/
def Sys2Proof.Machine.Ddr.reply (r : Ddr) : List Byte :=
  let state (st : DamperState) : Nat := match st with
    | .absent => 0 | .unhomed => 1 | .idle => 2 | .waiting => 3 | .homing => 4 | .moving => 5 | .settling => 6 | .jammed => 7
  let last (l : LastResult) : Nat := match l with
    | .none => 0 | .done => 1 | .jammed => 2 | .refused => 3 | .superseded => 4
  let lane (l : LaneState) : Nat := match l with | .absent => 0 | .free => 1 | .busy => 2 | .out => 3 | .lockedOut => 4
  let damper (d : DamperIx) : List Byte :=
    let c := r.dampers[d]
    let percent (n : Nat) : Nat := (200 * n + c.settings.span) / (2 * c.settings.span)
    let target : Option Nat := match c.state with
      | .homing => c.pending
      | .waiting => match (r.queue.find? fun o => decide (o.damper = d)) with
        | some o => (match o.goal with | .move t => some t | .home p => p)
        | none => c.target
      | _ => c.target
    [oneByte (state c.state + 8 * last c.last), byteOr255 (c.lane.map fun l => l.val), byteOr255 (c.position.map percent),
      byteOr255 (target.map percent)] ++ twoBytes c.slip
  (List.finRange 8).flatMap damper ++
    r.lanes.toList.flatMap fun l => [oneByte (lane l.state), byteOr255 (l.holder.map fun d => d.val), oneByte l.history.length]

/-- The data of READ_QUEUE: the number of orders and five bytes an order, in grant order. -/
def Sys2Proof.Machine.Ddr.queueReply (r : Ddr) : List Byte :=
  let source (x : OrderSource) : Byte := match x with | .adm => 0#8 | .zon => 1#8 | .link => 2#8 | .start => 3#8
  let order (o : QueuedOrder) : List Byte :=
    let span := r.dampers[o.damper].settings.span
    let percent (n : Nat) : Nat := (200 * n + span) / (2 * span)
    let what : Option Nat × Byte := match o.goal with | .move t => (some t, 0#8) | .home p => (p, 1#8)
    [oneByte o.damper.val, byteOr255 (what.1.map percent), what.2, flagByte (decide (o.cls = .safety)), source o.source]
  oneByte r.queue.length :: r.queue.flatMap order

/-- The data of READ_MOVERS: seven bytes a mover, the loop and the filter watch. -/
def Sys2Proof.Machine.Mov.reply (r : Mov) : List Byte :=
  let mover (m : Mover) : List Byte :=
    [match m.state with | .off => 0#8 | .running => 1#8 | .stalled => 2#8 | .failed => 3#8, oneByte m.demand,
      oneByte m.duty] ++ twoBytes m.speed ++ [oneByte m.retry, flagByte m.stall.isSome]
  r.movers.toList.flatMap mover ++
    [match r.loop.phase with | .inactive => 0#8 | .running => 1#8 | .holding => 2#8, oneByte r.loop.duty] ++
    twoBytes r.loop.lastError ++
    [flagByte r.loop.lostFlag, match r.filter.phase with | .armed => 0#8 | .timing => 1#8 | .raised => 2#8]

/-- The data of READ_HEAT: the valve and the heater, the heater's timer being that of PRESTART or COOLDOWN. -/
def Sys2Proof.Machine.Heu.reply (h : Heu) (now : Time) : List Byte :=
  let r := h.heater
  let left (t : Option Time) : List Byte := twoBytes (tenthsOf (match t with | none => 0 | some due => due - now))
  [flagByte h.valveOpen] ++ left (match h.valveHold with | .running due => some due | .stopped => none | .expired => none) ++
  [flagByte (decide (h.valveHold = .expired)), flagByte h.offersHeat, oneByte h.demand,
    match h.cltStatus with | .usable => 0#8 | .held => 1#8 | .failed => 2#8 | .absent => 3#8] ++ twoBytes h.clt ++
  [match r.state with | .off => 0#8 | .prestart => 1#8 | .running => 2#8 | .cooldown => 3#8 | .locked => 4#8,
    oneByte r.attempts, flagByte r.restart, flagByte r.inhibit, flagByte r.auxDemand, flagByte r.flame] ++
  left (if r.state = .prestart then r.ignition else if r.state = .cooldown then r.cooldown else none) ++
  left r.coolantRelease ++ left r.demandRelease

/-- A terminal's entry in READ_BINDING, its pin level given. -/
def Sys2Proof.Machine.Terminal.reply (e : Terminal) (i : Nat) (high : Bool) : List Byte :=
  let debounce : Nat := match e.debounce with | .ms0 => 0 | .ms10 => 1 | .ms50 => 2 | .ms200 => 3
  [oneByte i, oneByte (match e.func with | none => 0 | some f => f.code),
    oneByte ((if e.invert then 1 else 0) + 2 * debounce + (if e.openDrain then 8 else 0)),
    oneByte ((if high then 1 else 0) + (if e.debounced then 2 else 0) + (if e.timer.isSome then 4 else 0))]

/-- The other reads: each is answered OK with the data of its layout, written out byte by byte, and changes nothing but the
reply. Remaining and elapsed times are in tenths of a second (assumption 11). A READ_BINDING shows up to eight entries;
the level at a pin that a pulse train drives, or DIR in a reversal settle, is a free value (assumption 9), which the
reply counts. -/
def Obligations.ReadsAnswer : Prop :=
  ∀ (first : Byte) (s : State), s.part.state ≠ .init →
    let level (l : Level) : Byte := match l with | .clear => 0#8 | .elevated => 1#8 | .high => 2#8 | .unknown => 3#8
    let channel (c : Channel) : List Byte :=
      (match c.state with
        | .absent => 0#8 | .warming => 1#8 | .valid => 2#8 | .held => 3#8 | .failed => 4#8 | .forced => 5#8) ::
        twoBytes c.value
    let assessor (a : Assessor) : List Byte :=
      [flagByte a.active, flagByte a.initialised, level a.level] ++ twoBytes a.f ++ twoBytes a.b ++ twoBytes a.s ++
        [oneByte a.up, oneByte a.down, oneByte a.interval]
    let shows (c : Instr) (kind : Byte) (n : Nat) (data : List Byte) : Prop :=
      exec c s = .next (s.replied c kind (0#8 :: data)) ∧ data.length = n
    let binding : Instr := .readBinding first
    let count : Nat := min 8 (48 - first.toNat)
    shows .readChannels 0x91#8 45 (s.sns.channels.toList.flatMap channel) ∧
    shows .readAssess 0x99#8 36 (s.asr.toList.flatMap assessor) ∧
    shows .readAdmission 0xA2#8 24 s.admissionReply ∧
    shows .readZones 0xAC#8 55 s.zon.reply ∧
    shows .readDampers 0xB4#8 54 s.ddr.reply ∧
    shows .readQueue 0xB5#8 (1 + 5 * s.ddr.queue.length) s.ddr.queueReply ∧
    shows .readMovers 0xBB#8 27 s.mov.reply ∧
    shows .readHeat 0xC3#8 21 (s.heu.reply s.now) ∧
    (47 < first.toNat → exec binding s = .next (s.replied binding 0x8A#8 [19#8])) ∧
    (first.toNat ≤ 47 → ∃ t, exec binding s = .next t ∧ ∃ rep ∈ t.link.reply,
      t = { s.replied binding 0x8A#8 rep.body with free := t.free } ∧
      rep.body.take 2 = [0#8, oneByte count] ∧ rep.body.length = 2 + 4 * count ∧
      ∀ i : TerminalIx, first.toNat ≤ i.val → i.val < first.toNat + count →
        ∃ bit : Bool, (rep.body.drop (2 + 4 * (i.val - first.toNat))).take 4 =
          s.trm.entries[i].reply i.val (s.pinLevel i bit))

/-! ### Arithmetic -/

/-- RHA adds half the divisor to the magnitude, takes the floor and gives the sign back; so it is symmetric about 0 and lies
within half a divisor of its operand, a tie going away from 0. -/
def Obligations.RhaRoundsHalfAway : Prop :=
  ∀ (x : Int) (d : Nat), 0 < d → d % 2 = 0 →
    (0 ≤ x → rha x d = (x + (d / 2 : Nat)) / d) ∧ (x < 0 → rha x d = -((-x + (d / 2 : Nat)) / d)) ∧
    rha (-x) d = -rha x d ∧ (rha x d * d - x).natAbs * 2 ≤ d ∧
      ((rha x d * d - x).natAbs * 2 = d → x.natAbs ≤ (rha x d * d).natAbs)

/-- The fast filter adds RHA((v - f) * alpha / 64), or one step toward the sample where that is 0 and they differ; the
baseline update adds RHA((f - b) * beta / 256), or one step where that is 0, beta is above 0 and they differ, and takes the
smaller of the sum and the ceiling. So the filter ends between the old fast value and the sample and moves by at least one
while they differ; the baseline ends no higher than the ceiling and, with beta above 0 and room below the ceiling, moves
toward the fast value. -/
def Obligations.FilterStages : Prop :=
  ∀ (alpha beta ceiling f b v : Nat), 1 ≤ alpha → alpha ≤ 64 → beta ≤ 255 →
    (let inc := rha (((v : Int) - f) * alpha) 64
      let step : Int := if inc ≠ 0 then inc else if f < v then 1 else if v < f then -1 else 0
      fastFilter alpha f v = (f : Int) + step) ∧
    (let binc := rha (((f : Int) - b) * beta) 256
      let step : Int := if binc ≠ 0 ∨ beta = 0 then binc else if b < f then 1 else if f < b then -1 else 0
      baselineUpdate beta ceiling b f = min ((b : Int) + step) ceiling) ∧
    (f < v → f < fastFilter alpha f v ∧ fastFilter alpha f v ≤ v) ∧
    (v < f → fastFilter alpha f v < f ∧ v ≤ fastFilter alpha f v) ∧
    fastFilter alpha v v = v ∧ fastFilter 64 f v = v ∧ (b ≤ ceiling → baselineUpdate 0 ceiling b f = b) ∧
    baselineUpdate beta ceiling b f ≤ ceiling ∧
    (0 < beta → b < f → b < ceiling → b < baselineUpdate beta ceiling b f ∧ baselineUpdate beta ceiling b f ≤ f) ∧
    (0 < beta → f < b → b ≤ ceiling → f ≤ baselineUpdate beta ceiling b f ∧ baselineUpdate beta ceiling b f < b)

/-! ### The link -/

/-- Every request, in the bytes that its KIND and body length give it, is taken by the link as that request. -/
def Obligations.RequestsDecodeAsEncoded : Prop :=
  ∀ (i : Instr), ∀ rb ∈ i.request?, dispatch rb.1.code rb.2 = .request i ∧ rb.2.length = rb.1.bodyLength

/-- The frame of every request, received byte by byte in HUNT while LNK is free, hands its owner exactly that request and
sets busy; the receive record is in HUNT again and nothing else has changed. -/
def Obligations.FramesHandTheirRequest : Prop :=
  ∀ (i : Instr) (s : State), ∀ bytes ∈ i.frame?,
    s.part.state ≠ .init → s.link.phase = .hunt → s.link.busy = false → s.link.held = none → s.link.resetting = false →
    let take (t : Option State) (b : Byte) : Option State :=
      t.bind fun u => match exec (.linkByteReceived b false) u with | .next v => some v | .fault _ => none | .refused _ => none
    bytes.foldl take (some s) =
      some { s with
        link := { s.link with len := 0#8, data := [], check := [], gap := none, busy := true }
        handed := s.handed ++ [i] }

/-- One received byte at the receive record, by its phase, and the expiry of the gap timer. The second CHECK byte leaves the
record in HUNT; what becomes of the complete frame is stated in CompleteFramesAndReplies. -/
def Obligations.BytesAtTheReceiveRecord : Prop :=
  ∀ (b : Byte) (framing : Bool) (s : State), s.part.state ≠ .init →
    let gap : Option Time := some (s.now + 4000)
    let discarded (reason : Nat) : State :=
      { s with
        link := { s.link with phase := .hunt, len := 0#8, data := [], check := [], gap := none }
        atn := s.atn.raise asLink (256 * reason) }
    (s.link.phase = .hunt → ¬ (b = 0xC3#8 ∧ framing = false) → exec (.linkByteReceived b framing) s = .next s) ∧
    (s.link.phase = .hunt → exec (.linkByteReceived 0xC3#8 false) s =
      .next { s with link := { s.link with phase := .length, len := 0#8, data := [], check := [], gap := gap } }) ∧
    (s.link.phase ≠ .hunt → exec (.linkByteReceived b true) s = .next (discarded 5)) ∧
    (s.link.phase = .length → 1 ≤ b.toNat → b.toNat ≤ 57 → exec (.linkByteReceived b false) s =
      .next { s with link := { s.link with phase := .data, len := b, gap := gap } }) ∧
    (s.link.phase = .length → b.toNat = 0 ∨ 57 < b.toNat →
      exec (.linkByteReceived b false) s = .next (discarded 2)) ∧
    (s.link.phase = .data → exec (.linkByteReceived b false) s =
      .next { s with
        link := { s.link with
          data := s.link.data ++ [b], gap := gap
          phase := if s.link.len.toNat ≤ s.link.data.length + 1 then .check else .data } }) ∧
    (s.link.phase = .check → s.link.check = [] → exec (.linkByteReceived b false) s =
      .next { s with link := { s.link with check := [b], gap := gap } }) ∧
    (s.link.phase = .check → s.link.check ≠ [] → ∃ t, exec (.linkByteReceived b false) s = .next t ∧
      t.link.phase = .hunt ∧ t.link.gap = none ∧ t.link.data = [] ∧ t.link.check = []) ∧
    (s.link.gap.isSome = true → exec .gapTimerExpiry s = .next (discarded 1))

/-- A frame that LNK takes sets busy: answered CHECK where the CRC is wrong, answered UNKNOWN or LENGTH by the request
table, or handed to its owner. `free` is the link's record with busy still clear. -/
def Sys2Proof.Machine.State.frameTaken (s : State) (free : Link) (f : Frame) : State :=
  let kind : Byte := f.data.headD 0#8
  let answered (status : Byte) : State :=
    { s with link := { free with busy := true, reply := some ⟨if kind.msb then 0xFF#8 else kind + 0x80#8, [status]⟩ } }
  if f.checkHi ++ f.checkLo = crc (f.len :: f.data) then
    match dispatch kind f.data.tail with
    | .unknown => answered 16#8
    | .badLength => answered 17#8
    | .request i => { s with link := { free with busy := true }, handed := s.handed ++ [i] }
  else { answered 18#8 with atn := s.atn.raise asLink 768 }

/-- The second CHECK byte completes a frame: discarded as OVERRUN while LNK is busy or a frame is held, held while the
blocks complete a link reset, else taken. A held frame is taken once they have completed it. The last byte of a reply
clears busy, and that of the reply to LINK_RESET is followed by the link reset of every block. -/
def Obligations.CompleteFramesAndReplies : Prop :=
  ∀ (hi : Byte) (s : State), s.part.state ≠ .init →
    let free : Link := { s.link with phase := .hunt, len := 0#8, data := [], check := [], gap := none }
    (∀ lo ∈ s.link.check.head?, s.link.phase = .check → s.link.data ≠ [] →
      let f : Frame := ⟨s.link.len, s.link.data, lo, hi⟩
      (s.link.busy = true ∨ s.link.held.isSome = true → exec (.linkByteReceived hi false) s =
        .next { s with link := free, atn := s.atn.raise asLink 1024 }) ∧
      (s.link.busy = false → s.link.held = none → s.link.resetting = true → exec (.linkByteReceived hi false) s =
        .next { s with link := { free with held := some f } }) ∧
      (s.link.busy = false → s.link.held = none → s.link.resetting = false →
        exec (.linkByteReceived hi false) s = .next (s.frameTaken free f))) ∧
    (∀ f ∈ s.link.held, s.link.resetting = false → f.data ≠ [] → exec .heldFrameTaken s =
      .next (({ s with handed := s.handed.erase .heldFrameTaken } : State).frameTaken { s.link with held := none } f)) ∧
    (s.link.reply.isSome = true → s.link.resetDue = false → exec .replyEnd s =
      .next { s with link := { s.link with busy := false, reply := none } }) ∧
    (s.link.reply.isSome = true → s.link.resetDue = true → exec .replyEnd s =
      .next { s with
        link := { s.link with busy := false, reply := none, resetDue := false, resetting := true }
        handed := s.handed ++ [.linkResetEffect] })

/-- Every request, taken in CONFIG or RUN, is answered: LNK is busy with a reply of its KIND + 80h that opens with a
STATUS, sent as one frame of SYNC, LEN, KIND, BODY and CHECK, and a refused request changes nothing but that. A MOVE
refused by its damper also sets the damper's last result, as its own rule says. LEN stays within 57, given that the
queue holds at most one order for a damper. -/
def Obligations.RequestsAreAnswered : Prop :=
  ∀ (i : Instr) (s : State), s.part.state ≠ .init → ∀ rb ∈ i.request?,
    ∃ t, exec i s = .next t ∧ t.link.busy = true ∧ ∃ rep ∈ t.link.reply,
      rep.kind = rb.1.code + 0x80#8 ∧ rep.body ≠ [] ∧
      (let len : Byte := BitVec.ofNat 8 (rep.body.length + 1)
        let check := crc (len :: rep.kind :: rep.body)
        t.sending = some ([0xC3#8, len, rep.kind] ++ rep.body ++ [check.extractLsb' 0 8, check.extractLsb' 8 8])) ∧
      (s.DriveLaw → rep.body.length + 1 ≤ 57) ∧
      ∀ status ∈ rep.body.head?, 16 ≤ status.toNat → rb.1 ≠ .move →
        t = s.replied i (rb.1.code + 0x80#8) [status]

/-! ### Terminals -/

/-- A state with the entry of a terminal and the place of a function in the map replaced. -/
def Sys2Proof.Machine.State.carries (s : State) (t : TerminalIx) (e : Terminal) (f : Func) (place : Option TerminalIx) : State :=
  { s with trm := ⟨s.trm.entries.set t e, s.trm.map.set f.slot place⟩ }

/-- The class of a function (R159): 0 analog input, 1 digital input, 2 edge input, 3 output, 4 PWM output. -/
def Sys2Proof.Machine.Func.cls (f : Func) : Nat :=
  if f.code ≤ 15 then 0 else if f.code ≤ 31 then 1 else if f.code ≤ 34 then 2 else if f.code ≤ 48 then 3 else 4

/-- The level event of a digital input function at its owner. -/
def Sys2Proof.Machine.Func.levelEvent (f : Func) (asserted : Bool) : Option Instr :=
  match f with
  | .home d => some (.homeChange d asserted)
  | .door d => some (.doorChange d asserted)
  | .laneFlt l => some (.laneFltChange l asserted)
  | .sealReq => some (.sealReqChange asserted)
  | .auxFlame => some (.auxFlameChange asserted)
  | .sc _ | .tach _ | .sel _ | .step _ | .dir _ | .hvOpen | .auxRun | .pwm _ => none

/-- The function that a SEL, HOME, STEP or DIR needs beside it. -/
def Sys2Proof.Machine.Func.other (f : Func) : Option Func :=
  match f with
  | .sel d => some (.home d)
  | .home d => some (.sel d)
  | .step l => some (.dir l)
  | .dir l => some (.step l)
  | .sc _ | .door _ | .laneFlt _ | .sealReq | .auxFlame | .tach _ | .hvOpen | .auxRun | .pwm _ => none

/-- The owner's record once a function has been bound (R7, R112, R125); a lane that becomes FREE is granted. -/
def Sys2Proof.Machine.State.ownerBinds (s : State) (f : Func) : State :=
  let pair : Bool := (f.other.bind fun g => s.trm.map[g.slot]).isSome
  match f with
  | .sc ch =>
    let c := s.sns.channels[ch]
    { s with
      sns := { s.sns with
        channels := s.sns.channels.set ch
          { c with
            state := .warming, value := 0, lastGood := none, hold := none, recovery := 0
            warmUp := if c.settings.warmUp = 0 then .expired else .running (s.now + 1000000 * c.settings.warmUp) } }
      handed := s.handed ++ (reportEvent ch .absent 0).toList }
  | .sel d | .home d =>
    let c := s.ddr.dampers[d]
    if pair then s.damperBecomes d
      { c with
        state := if c.jam then .jammed else .unhomed, position := none, target := none, slip := 0, last := .none }
    else s
  | .step l | .dir l =>
    let r := s.ddr.lanes[l]
    if pair then (s.laneBecomes l
      { r with
        state := if r.lockout then .lockedOut else if r.fltInput then .out else .free, holder := none
        recovery := none }).arbitrated s.handed
    else s
  | .tach m => { s with mov := { s.mov with
      movers := s.mov.movers.set m { s.mov.movers[m] with speed := 0, edge := none, lastEdge := none } } }
  | .door _ | .laneFlt _ | .sealReq | .auxFlame | .hvOpen | .auxRun | .pwm _ => s

/-- The owner's record once a function has been unbound (R7, R112, R125): a damper gives its lane and its order up, the holder
of a lane goes back to the queue, and the lanes that are FREE are granted. -/
def Sys2Proof.Machine.State.ownerUnbinds (s : State) (f : Func) : State :=
  let pair : Bool := (f.other.bind fun g => s.trm.map[g.slot]).isSome
  match f with
  | .sc ch =>
    let c := s.sns.channels[ch]
    { s with
      sns :=
        { slots := match c.slot with | none => s.sns.slots | some i => s.sns.slots.set i none
          channels := s.sns.channels.set ch
            { c with
              state := .absent, value := 0, lastGood := none, hold := none, recovery := 0, warmUp := .stopped, slot := none } }
      handed := s.handed ++ (reportEvent ch .absent 0).toList }
  | .sel d | .home d =>
    let c := s.ddr.dampers[d]
    let gone : Damper :=
      { c with
        state := .absent, lane := none, position := none, target := none, pending := none, deferred := none, order := none
        stepCount := 0, overtravel := false, stepDue := none, settle := none }
    let q := s.ddr.queue.filter fun o => decide (o.damper ≠ d)
    if pair then
      match c.lane with
      | none => ((s.queueBecomes q).damperBecomes d gone).arbitrated s.handed
      | some l => (((s.laneFreed l).queueBecomes q).damperBecomes d gone).arbitrated s.handed
    else s
  | .step l | .dir l =>
    if pair then ((s.holderStops l).laneBecomes l
      { s.ddr.lanes[l] with state := .absent, holder := none, recovery := none, history := [] }).arbitrated s.handed
    else s
  | .tach m => { s with mov := { s.mov with
      movers := s.mov.movers.set m { s.mov.movers[m] with speed := 0, edge := none, lastEdge := none } } }
  | .door _ | .laneFlt _ | .sealReq | .auxFlame | .hvOpen | .auxRun | .pwm _ => s

/-- The level events and edges of a function that were handed before and wait still, taken one after another, oldest first
(assumption 33). -/
def Sys2Proof.Machine.State.takesWaiting (s : State) (f : Func) : State :=
  let edge : Option Instr := match f with
    | .tach m => some (.tachEdge m)
    | .sc _ | .home _ | .door _ | .laneFlt _ | .sealReq | .auxFlame | .sel _ | .step _ | .dir _ | .hvOpen | .auxRun
    | .pwm _ => none
  let mine (c : Instr) : Bool :=
    decide (f.levelEvent true = some c ∨ f.levelEvent false = some c ∨ edge = some c)
  let take (t : State) (c : Instr) : State := match exec c t with | .next u => u | .fault _ => t | .refused _ => t
  (s.handed.filter mine).foldl take { s with handed := s.handed.filter fun c => !mine c }

/-- BIND: the checks in their order, a new binding with its owner's binding event and the assertion that follows it,
and a rebinding with the negation or assertion that its new invert gives. The events
of the function that wait still are taken first. That, and that a rebinding of TACH with another invert gives speed 0, are the
model's readings (assumptions 30, 33), a grant as in assumptions 13, 21, 22 and 26. -/
def Obligations.Binding : Prop :=
  ∀ (terminal function invert debounce drive : Byte) (t : TerminalIx) (f : Func) (s : State),
    s.part.state ≠ .init → s.DriveLaw →
    let raw : Instr := .bind terminal function invert debounce drive
    let cmd : Instr := .bind (BitVec.ofNat 8 t.val) (BitVec.ofNat 8 f.code) invert debounce drive
    let codes : Prop := invert.toNat ≤ 1 ∧ debounce.toNat ≤ 3 ∧ drive.toNat ≤ 1
    let allowed : Prop :=
      f.cls = 1 ∨ f.cls = 0 ∧ t.val < 16 ∨ f.cls = 2 ∧ 16 ≤ t.val ∧ t.val < 24 ∨ f.cls = 3 ∧ 16 ≤ t.val ∧ t.val < 40 ∨
        f.cls = 4 ∧ 40 ≤ t.val
    let old := s.trm.entries[t]
    let inv : Bool := decide (invert = 1#8)
    let active : Bool := decide (f.cls = 1) && (old.level != inv)
    let entry : Terminal :=
      { func := some f, invert := inv, openDrain := decide (drive = 1#8), level := old.level, debounced := active
        debounce := if debounce = 0#8 then .ms0 else if debounce = 1#8 then .ms10 else if debounce = 2#8 then .ms50 else .ms200
        timer := none }
    let ok (u : State) : State := { u with link := { u.link with busy := true, reply := some ⟨0x88#8, [0#8]⟩ } }
    let ready : State := ({ s with handed := s.handed.erase cmd } : State).takesWaiting f
    let bound : State := ready.carries t entry f (some t)
    let stays : Vector (Option TerminalIx) 51 := s.trm.map
    let rebound : State := { ready with trm := ⟨s.trm.entries.set t entry, stays⟩ }
    (s.part.state = .run → exec raw s = .next (s.replied raw 0x88#8 [20#8])) ∧
    (s.part.state = .config →
      (47 < terminal.toNat ∨ function.toNat = 0 ∨ 51 < function.toNat ∨ ¬ codes →
        exec raw s = .next (s.replied raw 0x88#8 [19#8])) ∧
      (¬ allowed → exec cmd s = .next (s.replied cmd 0x88#8 [19#8])) ∧
      (allowed → codes → old.func.isSome = true → old.func ≠ some f →
        exec cmd s = .next (s.replied cmd 0x88#8 [22#8])) ∧
      (allowed → codes → old.func = none → (s.trm.map[f.slot]).isSome = true →
        exec cmd s = .next (s.replied cmd 0x88#8 [21#8])) ∧
      (allowed → codes → old.func = none → s.trm.map[f.slot] = none →
        (active = false → exec cmd s = .next (ok (bound.ownerBinds f))) ∧
        (active = true → ∀ e ∈ f.levelEvent true,
          ∃ u, exec e (bound.ownerBinds f) = .next u ∧ exec cmd s = .next (ok u))) ∧
      (allowed → codes → old.func = some f →
        (f.cls = 1 → active ≠ old.debounced → ∀ e ∈ f.levelEvent active,
          ∃ u, exec e rebound = .next u ∧ exec cmd s = .next (ok u)) ∧
        (f.cls = 2 → old.invert ≠ inv → exec cmd s = .next (ok (rebound.ownerBinds f))) ∧
        ((f.cls = 1 → active = old.debounced) → (f.cls = 2 → old.invert = inv) → exec cmd s = .next (ok rebound))))

/-- UNBIND: refused in RUN and above terminal 47, nothing at a terminal that carries nothing, else the negation of an
asserted input, the owner's unbinding, and the entry back at its reset values. The events of the
function that wait still are taken first. The holder of an unbound lane goes back to the queue, and the lanes that are FREE
are granted. That STATE is judged before RANGE, that an ABSENT damper has no target, and the waiting events, are the model's
readings (assumptions 18, 24, 33), a grant as in assumptions 13, 21, 22 and 26. -/
def Obligations.Unbinding : Prop :=
  ∀ (terminal : Byte) (t : TerminalIx) (s : State),
    s.part.state ≠ .init → s.DriveLaw →
    let raw : Instr := .unbind terminal
    let cmd : Instr := .unbind (BitVec.ofNat 8 t.val)
    let old := s.trm.entries[t]
    let ok (u : State) : State := { u with link := { u.link with busy := true, reply := some ⟨0x89#8, [0#8]⟩ } }
    let u : State := { s with handed := s.handed.erase cmd }
    let blank : Terminal :=
      { func := none, invert := false, debounce := .ms50, openDrain := false, level := old.level, debounced := false
        timer := none }
    (s.part.state = .run → exec raw s = .next (s.replied raw 0x89#8 [20#8])) ∧
    (s.part.state = .config → 47 < terminal.toNat → exec raw s = .next (s.replied raw 0x89#8 [19#8])) ∧
    (s.part.state = .config → old.func = none → exec cmd s = .next (ok u)) ∧
    (s.part.state = .config → ∀ f ∈ old.func,
      let u := u.takesWaiting f
      (old.debounced = false → exec cmd s = .next (ok ((u.ownerUnbinds f).carries t blank f none))) ∧
      (old.debounced = true → ∀ e ∈ f.levelEvent false, ∃ v, exec e u = .next v ∧
        exec cmd s = .next (ok ((v.ownerUnbinds f).carries t blank f none))))

/-- The level at a pin changes, and a debounce timer expires: the pin change starts, stops or skips the timer by the
debounce setting, and the owner is handed each change of the debounced state; an active edge at a TACH is handed on at
once, and any other terminal only keeps its level. -/
def Obligations.PinsAndDebounce : Prop :=
  ∀ (t : TerminalIx) (high : Bool) (s : State),
    let old := s.trm.entries[t]
    let puts (u : State) (e : Terminal) : State := { u with trm := { s.trm with entries := s.trm.entries.set t e } }
    let hands (c : Option Instr) : State := { s with handed := s.handed ++ c.toList }
    let new : Terminal := { old with level := high }
    let active : Bool := high != old.invert
    let time : Nat := match old.debounce with | .ms0 => 0 | .ms10 => 10000 | .ms50 => 50000 | .ms200 => 200000
    (old.level = high → exec (.pinChange t high) s = .next s) ∧
    (old.level ≠ high →
      (old.func = none → exec (.pinChange t high) s = .next (puts s new)) ∧
      (∀ f ∈ old.func,
        (f.cls = 0 ∨ 3 ≤ f.cls → exec (.pinChange t high) s = .next (puts s new)) ∧
        (f.cls = 2 → ∀ m : MoverIx, f = .tach m → exec (.pinChange t high) s =
          .next (puts (hands (if active then some (.tachEdge m) else none)) new)) ∧
        (f.cls = 1 →
          (old.debounce = .ms0 → exec (.pinChange t high) s =
            .next (puts (hands (if active = old.debounced then none else f.levelEvent active))
              { new with debounced := active, timer := none })) ∧
          (old.debounce ≠ .ms0 → exec (.pinChange t high) s =
            .next (puts s { new with timer := if active = old.debounced then none else some (s.now + time) }))))) ∧
    (s.part.state ≠ .init → old.timer.isSome = true → ∀ f ∈ old.func, f.cls = 1 →
      let now : Bool := old.level != old.invert
      exec (.debounceTimerExpiry t) s =
        .next (puts (hands (if now = old.debounced then none else f.levelEvent now))
          { old with debounced := now, timer := none }))

/-- The level of every output function as its owner holds it, the drive that a terminal gives it, and the ATTN and FAULT
outputs. SEL is asserted exactly for a damper that holds a lane, STEP pulses while the lane's holder steps, and DIR is
asserted toward larger positions, in a search toward the home end, past the home position too (assumption 20); PWM follows
the duty, HV_OPEN the valve, AUX_RUN the heater. A pulse train, and DIR in a reversal settle, have no level that the rules
state (assumption 9): `bit` stands for it. The lines are logical levels, ATTN and FAULT driven low or released (assumption
41). LTX is high while no reply is in progress; a reply's bytes go out back to back, each as a low start bit, eight data bits
from the least significant on and a high stop bit, in bit times that the model leaves out (assumption 39). -/
def Obligations.OutputLinesAndDrives : Prop :=
  ∀ (d : DamperIx) (l : LaneIx) (m : MoverIx) (i : TerminalIx) (bit : Bool) (s : State), s.DriveLaw → s.AttentionLaw →
    let c := s.ddr.dampers[d]
    let e := s.trm.entries[i]
    let duty := s.mov.movers[m].duty
    let level (b : Bool) : Line := if b then .asserted else .negated
    s.line (.sel d) = level c.lane.isSome ∧
    (s.line (.step l) ≠ .asserted) ∧
    (s.line (.step l) = .moving ↔ ∃ k : DamperIx, s.ddr.dampers[k].lane = some l ∧
      (s.ddr.dampers[k].state = .homing ∨ s.ddr.dampers[k].state = .moving)) ∧
    (s.ddr.lanes[l].state ≠ .busy → s.line (.dir l) = .negated) ∧
    (c.lane = some l →
      (c.state = .settling → s.line (.dir l) = .moving) ∧
      (c.state = .homing ∨ c.state = .moving ∧ c.overtravel = true → s.line (.dir l) = level c.settings.homeOpen) ∧
      (c.state = .moving → c.overtravel = false → ∀ p ∈ c.position, ∀ t ∈ c.target,
        s.line (.dir l) = level (decide (p < t)))) ∧
    s.line (.pwm m) = (if duty = 0 then .negated else if duty = 100 then .asserted else .moving) ∧
    s.line .hvOpen = level s.heu.valveOpen ∧
    s.line .auxRun = level (decide (s.heu.heater.state = .prestart ∨ s.heu.heater.state = .running)) ∧
    (e.func = none → s.pinDrive i bit = .released) ∧
    (∀ f ∈ e.func,
      (f.cls ≤ 2 → s.pinDrive i bit = .released) ∧
      (3 ≤ f.cls →
        let asserted : Bool := match s.line f with | .asserted => true | .negated => false | .moving => bit
        s.pinDrive i bit =
          if asserted = e.invert then .low else if e.openDrain = true then .released else .high)) ∧
    s.pinLevel i bit = (match s.pinDrive i bit with | .high => true | .low => false | .released => e.level) ∧
    (s.attnDrive = .low ↔ s.part.state ≠ .init ∧
      ∃ k : SourceIx, s.atn.sources[k].pending = true ∧ 1 ≤ s.atn.sources[k].level) ∧
    (s.faultDrive = .low ↔ s.part.state ≠ .init ∧
      (s.adm.cabCo = true ∨ s.adm.breathing = true ∨ s.adm.sealImpaired = true)) ∧
    (s.attnDrive = .low ∨ s.attnDrive = .released) ∧ (s.faultDrive = .low ∨ s.faultDrive = .released) ∧
    (s.link.reply = none → s.ltxBits = [] ∧ s.ltxDrive bit = .high) ∧
    (∀ bytes ∈ s.sending,
      s.ltxBits = (bytes.flatMap fun b : Byte =>
        [false, b.getLsbD 0, b.getLsbD 1, b.getLsbD 2, b.getLsbD 3, b.getLsbD 4, b.getLsbD 5, b.getLsbD 6, b.getLsbD 7,
          true]) ∧
      s.ltxDrive bit = if bit then .high else .low)

/-! ### Sensor channels -/

/-- A channel's record replaced, and its consumer handed a report of the status and value it then has. -/
def Sys2Proof.Machine.State.channelReports (s : State) (ch : ChannelIx) (c : Channel) : State :=
  { s with
    sns := { s.sns with channels := s.sns.channels.set ch c }
    handed := s.handed ++ (reportEvent ch (match c.state with
      | .valid | .forced => .usable | .held => .held | .failed => .failed | .absent | .warming => .absent) c.value).toList }

/-- A channel forced by a slot to a value. -/
def Sys2Proof.Machine.Channel.forcedBy (c : Channel) (i : SlotIx) (v : Int) : Channel :=
  { c with state := .forced, value := v, warmUp := .stopped, hold := none, recovery := 0, slot := some i }

/-- A forced channel released into HELD, the forced value its last good one. -/
def Sys2Proof.Machine.Channel.releasedFrom (c : Channel) (now : Time) (v : Int) : Channel :=
  { c with state := .held, value := v, lastGood := some v, hold := some (now + c.settings.hold * 1000), slot := none }

/-- A sample arrival, by the state of the channel: the scaled sample and its verdict, what the state makes of them, and
the report to the consumer. -/
def Obligations.SampleArrivals : Prop :=
  ∀ (ch : ChannelIx) (raw : BitVec 12) (s : State), s.part.state ≠ .init →
    let c := s.sns.channels[ch]
    let v : Int := max (-32768) (min 32767 (c.settings.offset + ((raw.toNat * c.settings.gain / 4096 : Nat) : Int)))
    let good : Prop := 16 ≤ raw.toNat ∧ raw.toNat ≤ 4079 ∧ c.settings.low ≤ v ∧ v ≤ c.settings.high
    let valid : Channel := { c with raw := raw.toNat, state := .valid, value := v, lastGood := some v, hold := none }
    let started : Option Time := some (s.now + c.settings.hold * 1000)
    let becomes (c' : Channel) : Prop := exec (.sampleArrival ch raw) s = .next (s.channelReports ch c')
    (c.state = .absent → exec (.sampleArrival ch raw) s = .next s) ∧
    (c.state = .warming → c.warmUp ≠ .expired → c.warmUp ≠ .stopped →
      (good → becomes { c with raw := raw.toNat, value := v, lastGood := some v }) ∧
      (¬ good → becomes { c with raw := raw.toNat, value := v })) ∧
    (c.state = .warming → c.warmUp = .expired →
      (good → becomes valid) ∧
      (¬ good → becomes { c with raw := raw.toNat, value := v, hold := if c.hold.isSome then c.hold else started })) ∧
    (c.state = .valid →
      (good → becomes valid) ∧
      (¬ good → ∀ g ∈ c.lastGood, becomes { c with raw := raw.toNat, state := .held, value := g, hold := started })) ∧
    (c.state = .held → (good → becomes valid) ∧ (¬ good → becomes { c with raw := raw.toNat })) ∧
    (c.state = .failed →
      (good → c.settings.recovery ≤ c.recovery + 1 → becomes { valid with recovery := 0 }) ∧
      (good → c.recovery + 1 < c.settings.recovery →
        becomes { c with raw := raw.toNat, recovery := c.recovery + 1, lastGood := some v }) ∧
      (¬ good → becomes { c with raw := raw.toNat, recovery := 0 })) ∧
    (c.state = .forced → becomes { c with raw := raw.toNat })

/-- The expiries of a channel: the warm-up timer leaves it WARMING without a report; the hold timer makes it FAILED at
its failsafe value, raises SENSOR with the reason and hands a report. -/
def Obligations.ChannelTimers : Prop :=
  ∀ (ch : ChannelIx) (s : State), s.part.state ≠ .init →
    let c := s.sns.channels[ch]
    (c.warmUp ≠ .stopped → exec (.warmUpExpiry ch) s =
      .next { s with sns := { s.sns with channels := s.sns.channels.set ch { c with warmUp := .expired } } }) ∧
    (c.hold.isSome = true → exec (.channelHoldExpiry ch) s =
      .next { (s.channelReports ch { c with state := .failed, value := c.settings.failsafe, hold := none, recovery := 0 }) with
        atn := s.atn.raise asSensor (ch.val + 256 * (if c.state = .held then 1 else 2)) })

/-- SET_CHANNEL: in CONFIG, in range, the eight settings replaced with the times and the recovery samples clamped; a
FAILED channel takes a changed failsafe value at once. In RUN, at a channel above 14, or with a tuning out of
range, refused. That STATE is judged before RANGE and that an unchanged failsafe value hands no report are the
model's readings (assumptions 18, 28). -/
def Obligations.SetChannel : Prop :=
  ∀ (channel : Byte) (ch : ChannelIx) (gain offset low high warmUp hold failsafe : Half) (recovery : Byte) (s : State),
    s.part.state ≠ .init →
    let c := s.sns.channels[ch]
    let raw : Instr := .setChannel channel gain offset low high warmUp hold failsafe recovery
    let cmd : Instr := .setChannel (BitVec.ofNat 8 ch.val) gain offset low high warmUp hold failsafe recovery
    let set : ChannelSettings :=
      { gain := gain.toNat, offset := offset.toInt, low := low.toInt, high := high.toInt
        warmUp := min 300 warmUp.toNat, hold := max 100 (min 30000 hold.toNat), failsafe := failsafe.toInt
        recovery := max 1 (min 15 recovery.toNat) }
    let same : Prop := set.warmUp = warmUp.toNat ∧ set.hold = hold.toNat ∧ set.recovery = recovery.toNat
    let u : State := s.replied cmd 0x90#8 [if same then 0#8 else 1#8]
    (s.part.state = .run → exec raw s = .next (s.replied raw 0x90#8 [20#8])) ∧
    (s.part.state = .config →
      (14 < channel.toNat → exec raw s = .next (s.replied raw 0x90#8 [19#8])) ∧
      (32767 < gain.toNat ∨ high.toInt < low.toInt → exec cmd s = .next (s.replied cmd 0x90#8 [19#8])) ∧
      (gain.toNat ≤ 32767 → low.toInt ≤ high.toInt →
        (c.state = .failed → c.settings.failsafe ≠ set.failsafe →
          exec cmd s = .next (u.channelReports ch { c with settings := set, value := set.failsafe })) ∧
        (c.state = .failed → c.settings.failsafe = set.failsafe → exec cmd s =
          .next { u with sns := { s.sns with
            channels := s.sns.channels.set ch { c with settings := set, value := set.failsafe } } }) ∧
        (c.state ≠ .failed → exec cmd s =
          .next { u with sns := { s.sns with channels := s.sns.channels.set ch { c with settings := set } } })))

/-- SET_OVERRIDE forces a bound channel at once, first releasing another channel that the slot held; CLEAR_OVERRIDE
releases the channel of its slot into HELD. -/
def Obligations.Overrides : Prop :=
  ∀ (slot channel : Byte) (i : SlotIx) (ch : ChannelIx) (value : Half) (s : State), s.part.state ≠ .init →
    let c := s.sns.channels[ch]
    let raw : Instr := .setOverride slot channel value
    let set : Instr := .setOverride (BitVec.ofNat 8 i.val) (BitVec.ofNat 8 ch.val) value
    let clear : Instr := .clearOverride (BitVec.ofNat 8 i.val)
    let slots (u : State) (o : Option Override) : State := { u with sns := { u.sns with slots := u.sns.slots.set i o } }
    let taken : Option Override := some ⟨ch, value.toInt⟩
    let u : State := slots (s.replied set 0x92#8 [0#8]) taken
    (3 < slot.toNat ∨ 14 < channel.toNat → exec raw s = .next (s.replied raw 0x92#8 [19#8])) ∧
    (3 < slot.toNat → exec (.clearOverride slot) s = .next (s.replied (.clearOverride slot) 0x93#8 [19#8])) ∧
    (c.state = .absent → exec set s = .next (s.replied set 0x92#8 [23#8])) ∧
    (c.state ≠ .absent → (∃ j ∈ c.slot, j ≠ i) → exec set s = .next (s.replied set 0x92#8 [24#8])) ∧
    (c.state ≠ .absent → c.slot = none ∨ c.slot = some i →
      ((∀ o ∈ s.sns.slots[i], o.channel = ch) →
        exec set s = .next (u.channelReports ch (c.forcedBy i value.toInt))) ∧
      (∀ o ∈ s.sns.slots[i], o.channel ≠ ch → exec set s =
        .next ((u.channelReports o.channel (s.sns.channels[o.channel].releasedFrom s.now o.value)).channelReports ch
          (c.forcedBy i value.toInt)))) ∧
    (s.sns.slots[i] = none → exec clear s = .next (s.replied clear 0x93#8 [0#8])) ∧
    (∀ o ∈ s.sns.slots[i], exec clear s =
      .next ((slots (s.replied clear 0x93#8 [0#8]) none).channelReports o.channel
        (s.sns.channels[o.channel].releasedFrom s.now o.value)))

/-! ### Assessors -/

/-- The counts and the level after the persistence stage: the up-candidate with the plain thresholds, the down-candidate
with the thresholds less h. -/
def Sys2Proof.Machine.Assessor.persisted (a : Assessor) : Assessor :=
  let rank (l : Level) : Nat := match l with | .clear => 0 | .elevated => 1 | .high => 2 | .unknown => 3
  let c := a.settings
  let candidate (h : Int) : Level :=
    if (c.high : Int) - h ≤ a.s ∨ (c.abs : Int) - h ≤ a.f then .high
    else if (c.low : Int) - h ≤ a.s then .elevated else .clear
  if rank a.level < rank (candidate 0) then
    if a.up + 1 < c.p then { a with up := a.up + 1, down := 0 } else { a with level := candidate 0, up := 0, down := 0 }
  else if rank (candidate c.h) < rank a.level then
    if a.down + 1 < c.d then { a with up := 0, down := a.down + 1 }
    else { a with level := candidate c.h, up := 0, down := 0 }
  else { a with up := 0, down := 0 }

/-- A channel report at an assessor: initialise, process, pause, fail or go inactive, and a level report exactly where
the level changes. The two filter steps are those of FilterStages. -/
def Obligations.AssessorReports : Prop :=
  ∀ (i : AssessorIx) (status : Status) (value : Int) (s : State), s.part.state ≠ .init →
    let a := s.asr[i]
    let c := a.settings
    let cmd : Instr := .assessorChannelReport i status value
    let v : Nat := value.toNat
    let becomes (a' : Assessor) : Prop := exec cmd s =
      .next { s with
        asr := s.asr.set i a'
        handed := s.handed.erase cmd ++ (if a'.level = a.level then [] else [.admLevelReport i a'.level]) }
    let ends : Prop := c.n ≤ a.interval + 1
    let f : Nat := fastFilter c.alpha a.f v
    let b : Nat := if ends ∧ a.level = .clear then baselineUpdate c.beta c.ceiling a.b f else a.b
    (status = .usable → a.active = false ∨ a.initialised = false →
      becomes (({ a with
        active := true, initialised := true, f := v, b := min v c.ceiling, s := v - min v c.ceiling, level := .clear
        up := 0, down := 0, interval := 0 } : Assessor).persisted)) ∧
    (status = .usable → a.active = true → a.initialised = true →
      becomes (({ a with f := f, b := b, s := f - b, interval := if ends then 0 else a.interval + 1 } : Assessor).persisted)) ∧
    (status = .held → a.active = true → becomes a) ∧
    (status = .held → a.active = false → becomes { a with active := true, initialised := false, level := .clear }) ∧
    (status = .failed → becomes { a with active := true, initialised := false, level := .unknown, up := 0, down := 0 }) ∧
    (status = .absent → becomes { a with
      active := false, initialised := false, level := .clear, f := 0, b := 0, s := 0, up := 0, down := 0, interval := 0 })

/-- SET_ASSESS: out of range refused with nothing changed; else the ten settings replaced, the hysteresis no higher than
low - 1, and a baseline above the new ceiling brought down to it with the strength recomputed, in a record that a FAILED
channel leaves too, the model's reading (assumption 42). -/
def Obligations.SetAssess : Prop :=
  ∀ (index : Byte) (i : AssessorIx) (alpha beta n : Byte) (ceiling low high abs h : Half) (p d : Byte) (s : State),
    s.part.state ≠ .init →
    let a := s.asr[i]
    let raw : Instr := .setAssess index alpha beta n ceiling low high abs h p d
    let cmd : Instr := .setAssess (BitVec.ofNat 8 i.val) alpha beta n ceiling low high abs h p d
    let inRange : Prop := 1 ≤ alpha.toNat ∧ alpha.toNat ≤ 64 ∧ 1 ≤ n.toNat ∧ ceiling.toNat ≤ 32767 ∧
      1 ≤ abs.toNat ∧ abs.toNat ≤ 32767 ∧ 1 ≤ p.toNat ∧ p.toNat ≤ 15 ∧ 1 ≤ d.toNat ∧
      1 ≤ low.toNat ∧ low.toNat ≤ high.toNat ∧ high.toNat ≤ 32767
    let set : AssessorSettings :=
      ⟨alpha.toNat, beta.toNat, n.toNat, ceiling.toNat, low.toNat, high.toNat, abs.toNat,
        min h.toNat (low.toNat - 1), p.toNat, d.toNat⟩
    (2 < index.toNat → exec raw s = .next (s.replied raw 0x98#8 [19#8])) ∧
    (¬ inRange → exec cmd s = .next (s.replied cmd 0x98#8 [19#8])) ∧
    (inRange → exec cmd s =
      .next { s.replied cmd 0x98#8 [if low.toNat ≤ h.toNat then 1#8 else 0#8] with
        asr := s.asr.set i
          (if ceiling.toNat < a.b then { a with settings := set, b := ceiling.toNat, s := a.f - ceiling.toNat }
          else { a with settings := set }) })

/-! ### Admission -/

/-- The fields of a SET_ADMISSION as they are sent. -/
def Sys2Proof.Machine.admissionSent (limitFraction pressFraction : Byte) (sealHold scrubHold limitHold purgeTime : Half)
    (breachMin : Byte) : AdmSettings :=
  ⟨limitFraction.toNat, pressFraction.toNat, sealHold.toNat, scrubHold.toNat, limitHold.toNat, purgeTime.toNat,
    breachMin.toNat⟩

/-- The admission settings, each brought into its range. -/
def Sys2Proof.Machine.AdmSettings.ranged (c : AdmSettings) : AdmSettings :=
  ⟨min 100 c.limitFraction, min 100 c.pressFraction, max 1 (min 600 c.sealHold), max 1 (min 600 c.scrubHold),
    max 1 (min 600 c.limitHold), max 10 (min 600 c.purgeTime), min 60 c.breachMin⟩

/-- What the events of ADM bring it in RUN: its record with the input or the settings recorded, and the levels of AS-COI,
AS-PMI and AS-COC. An expiry of a timer that does not run, and a directive that is no change, bring it nothing. -/
def Sys2Proof.Machine.State.admissionInput (s : State) : Instr → Option (Adm × Level × Level × Level)
  | .admLevelReport a l =>
    some (s.adm, if a = 0 then l else s.asr[0].level, if a = 1 then l else s.asr[1].level,
      if a = 2 then l else s.asr[2].level)
  | .oatReport st v =>
    some ({ s.adm with minFresh := if st = .usable ∧ v < -100 then 5 else 10 }, s.asr[0].level, s.asr[1].level,
      s.asr[2].level)
  | .sealReqChange b => some ({ s.adm with sealLine := b }, s.asr[0].level, s.asr[1].level, s.asr[2].level)
  | .doorChange d b =>
    some ({ s.adm with doors := s.adm.doors.set d b }, s.asr[0].level, s.asr[1].level, s.asr[2].level)
  | .zonOutputChange (.fresh n) => some ({ s.adm with fresh := n }, s.asr[0].level, s.asr[1].level, s.asr[2].level)
  | .zonOutputChange (.breathing b) =>
    some ({ s.adm with breathingFlag := b }, s.asr[0].level, s.asr[1].level, s.asr[2].level)
  | .damperStateReport _ => some (s.adm, s.asr[0].level, s.asr[1].level, s.asr[2].level)
  | .admHoldTimerExpiry =>
    if s.adm.hold.isSome then
      some ({ s.adm with
          hold := none
          accepted := match s.adm.accepted with
            | .seal => .scrub | .scrub => .limit | .limit => .opened | .opened => .opened | .inactive => .inactive },
        s.asr[0].level, s.asr[1].level, s.asr[2].level)
    else none
  | .purgeTimerExpiry =>
    match s.adm.purge with
    | some ⟨.running _, _⟩ => some ({ s.adm with purge := none }, s.asr[0].level, s.asr[1].level, s.asr[2].level)
    | _ => none
  | .setDirective code =>
    let d : Directive := if code = 0#8 then .auto else if code = 1#8 then .seal else .vent
    if code.toNat ≤ 2 ∧ d ≠ s.adm.directive then
      some ({ s.adm with directive := d }, s.asr[0].level, s.asr[1].level, s.asr[2].level)
    else none
  | .setAdmission limitFraction pressFraction sealHold scrubHold limitHold purgeTime breachMin =>
    some ({ s.adm with
        settings := (admissionSent limitFraction pressFraction sealHold scrubHold limitHold purgeTime breachMin).ranged },
      s.asr[0].level, s.asr[1].level, s.asr[2].level)
  | _ => none

/-- One event at ADM in RUN, whichever it is, an accepted SET_DIRECTIVE or SET_ADMISSION too: the conditions and the demanded state are formed, the accepted state
follows at once or through the hold timer, breach, purge and its route follow, the three conditions and FAULT are
judged and raise what they become, and the ordered targets are those that the accepted state and the route give. Each
damper whose ordered target changes takes an order of the event's class (OrdersByDamperState), and the settled check ends
with SETTLED where the dampers then stand at their targets. MOV is handed one report exactly where the accepted state, the
breach or the purge's route has changed or a purge has started, a restart too (assumption 46), or ended. A step down of the
hold timer that the same event undoes is no change of the accepted state (assumption 48). That the report an event carries stands in the record's place where
SEAL_IMPAIRED and the levels are judged, and the settled check reads the records, is the model's reading (assumption
27). -/
def Obligations.AdmissionEvents : Prop :=
  ∀ (c : Instr) (s : State), s.part.state = .run → s.AdmissionLaw →
    ∀ i ∈ s.admissionInput c,
      let a := i.1
      let coi := i.2.1
      let pmi := i.2.2.1
      let coc := i.2.2.2
      let atOnce : Prop := c = .sealReqChange false ∧ a.directive = .vent ∨ c = .setDirective 2#8
      ∃ t, exec c s = .next t ∧
        t = { s with adm := t.adm, atn := t.atn, ddr := t.ddr, free := t.free, handed := t.handed, link := t.link } ∧
        t.adm.settings = a.settings ∧ t.adm.directive = a.directive ∧ t.adm.sealLine = a.sealLine ∧
        t.adm.doors = a.doors ∧ t.adm.fresh = a.fresh ∧ t.adm.breathingFlag = a.breathingFlag ∧
        t.adm.minFresh = a.minFresh ∧ t.adm.cab = coc ∧
        t.adm.intake = intakeBy coi pmi ∧ t.adm.demanded = t.adm.demandBy ∧
        (a.accepted.code < t.adm.demanded.code → t.adm.accepted = t.adm.demanded ∧ t.adm.hold = none) ∧
        (t.adm.demanded = a.accepted → t.adm.accepted = a.accepted ∧ t.adm.hold = none) ∧
        (t.adm.demanded.code < a.accepted.code → atOnce → t.adm.accepted = t.adm.demanded ∧ t.adm.hold = none) ∧
        (t.adm.demanded.code < a.accepted.code → ¬ atOnce →
          t.adm.accepted = a.accepted ∧
          t.adm.hold = some (a.hold.getD (s.now + 1000000 * a.settings.holdBy a.accepted))) ∧
        t.adm.breach =
          (if (∃ d : DoorIx, a.doors[d] = true) ∧
              (t.adm.accepted = .limit ∨ t.adm.accepted = .scrub ∨ t.adm.accepted = .seal)
            then some (a.breach.getD s.now) else none) ∧
        (let route : Route := t.adm.accepted.routeBy
          let time := 1000000 * a.settings.purgeTime
          let fresh : PurgeClock := if coc = .high then .frozen time else .running (s.now + time)
          let starts : Prop := coc = .high ∧ s.adm.cab ≠ .high ∨
            (∃ since ∈ a.breach, (∀ d : DoorIx, a.doors[d] = false) ∧
              (t.adm.accepted = .scrub ∨ t.adm.accepted = .seal) ∧
              1000000 * a.settings.breachMin ≤ s.now - since)
          let k : OrderClass :=
            if s.adm.accepted.code < t.adm.accepted.code ∨ starts ∨ c = .sealReqChange true then .safety else .normal
          let differ := [(0 : Fin 3), 1, 2].filter fun i => decide (s.adm.ordered[i] ≠ t.adm.ordered[i])
          let u : State := differ.foldl (fun v i => v.order (i.castLE (by decide)) (t.adm.ordered[i].getD 0) k .adm) s
          t.adm.purge =
            (if starts then some ⟨fresh, route⟩
            else a.purge.map fun p =>
              ⟨match p.clock with
                | .frozen r => if coc = .high then .frozen r else fresh
                | .running due => .running due, route⟩) ∧
          t.adm.ordered = t.adm.orderedBy ∧ t.ddr = u.ddr ∧ t.free = u.free ∧
          (let isReport (e : Instr) : Bool := match e with | .admissionReport _ => true | _ => false
            let tells : Prop := t.adm.picture ≠ s.adm.picture ∨ starts ∨ c = .purgeTimerExpiry
            (tells → .admissionReport t.adm.picture ∈ t.handed) ∧
            t.handed.countP isReport = s.handed.countP isReport + if tells then 1 else 0)) ∧
        t.adm.cabCo = decide (coc = .high) ∧
        t.adm.breathing = (decide (t.adm.accepted = .seal) && a.breathingFlag) ∧
        (let judged : Bool := match c with
            | .damperStateReport (.damper d _ _) => decide (d = 0)
            | .damperStateReport (.lane _ _) => true
            | _ => false
          let door : DamperState := match c with
            | .damperStateReport (.damper d st _) => if d = 0 then st else s.ddr.dampers[0].state
            | _ => s.ddr.dampers[0].state
          let lane (l : LaneIx) : LaneState := match c with
            | .damperStateReport (.lane k st) => if k = l then st else s.ddr.lanes[l].state
            | _ => s.ddr.lanes[l].state
          t.adm.sealImpaired =
            (if judged then
              decide (door = .jammed ∨ door = .waiting ∧ ∀ l : LaneIx, lane l ≠ .free ∧ lane l ≠ .busy)
            else s.adm.sealImpaired) ∧
          t.atn.sources[asSealImpaired] =
            (if t.adm.sealImpaired = true ∧ s.adm.sealImpaired = false then
              s.atn.sources[asSealImpaired].raise (if door = .jammed then 1 else 2)
            else s.atn.sources[asSealImpaired])) ∧
        (let check := if t.adm.accepted = s.adm.accepted then s.adm.check else some t.adm.accepted
          let report : Bool := match c with | .damperStateReport (.damper _ _ _) => true | _ => false
          let ends : Prop := (t.adm.accepted ≠ s.adm.accepted ∨ report = true) ∧ t.standsAtTargets = true
          t.adm.check = (if ends then none else check) ∧
          t.atn.sources[asSettled] =
            match check with
            | none => s.atn.sources[asSettled]
            | some st => if ends then s.atn.sources[asSettled].raise st.code else s.atn.sources[asSettled]) ∧
        (t.atn.fault = true ↔ t.adm.cabCo = true ∨ t.adm.breathing = true ∨ t.adm.sealImpaired = true) ∧
        t.atn.sources[asAdmission] =
          (if t.adm.accepted = s.adm.accepted then s.atn.sources[asAdmission]
            else s.atn.sources[asAdmission].raise t.adm.accepted.code) ∧
        t.atn.sources[asCabCo] =
          (if coc = .high ∧ s.adm.cabCo = false then s.atn.sources[asCabCo].raise (min 65535 s.asr[2].f)
            else s.atn.sources[asCabCo]) ∧
        t.atn.sources[asBreathing] =
          (if t.adm.breathing = true ∧ s.adm.breathing = false then s.atn.sources[asBreathing].raise 0
            else s.atn.sources[asBreathing]) ∧
        t.atn.sources[asPurgeDone] =
          (if c = .purgeTimerExpiry then
            s.atn.sources[asPurgeDone].raise (match (s.adm.purge.map fun p => p.route : Option Route) with
              | some .fresh => 1 | some .scrubbed => 2 | some .recirc => 3 | none => 0)
            else s.atn.sources[asPurgeDone]) ∧
        (∀ i : SourceIx, i ∉ [asAdmission, asCabCo, asBreathing, asSealImpaired, asSettled, asPurgeDone] →
          t.atn.sources[i] = s.atn.sources[i]) ∧
        t.link = (match c with
          | .setDirective _ => { s.link with busy := true, reply := some ⟨0xA0#8, [0#8]⟩ }
          | .setAdmission limitFraction pressFraction sealHold scrubHold limitHold purgeTime breachMin =>
            let sent := admissionSent limitFraction pressFraction sealHold scrubHold limitHold purgeTime breachMin
            { s.link with busy := true, reply := some ⟨0xA1#8, [if sent.ranged = sent then 0#8 else 1#8]⟩ }
          | _ => s.link)

/-- ADM's requests, and its events in CONFIG. SET_DIRECTIVE is refused STATE in CONFIG, then RANGE, and a directive
that repeats changes nothing. SET_ADMISSION replaces the seven settings, each brought into its range; in RUN the
targets follow at once, with the orders that AdmissionEvents gives. In CONFIG an event records nothing and orders nothing;
an assertion of the SEAL line orders a homed FRESH, whatever its state, to 0 with SAFETY class from ADM, an order that
OrdersByDamperState states state by state: at 0 an IDLE FRESH is DONE at once, elsewhere its order is queued. That STATE is
judged before RANGE is the model's reading (assumption 18). -/
def Obligations.AdmissionRequestsAndConfig : Prop :=
  ∀ (code limitFraction pressFraction breachMin : Byte) (sealHold scrubHold limitHold purgeTime : Half)
    (a : AssessorIx) (l : Level) (st : Status) (v : Int) (door : DoorIx) (b : Bool) (z : ZonChange)
    (report : DriveReport) (s : State),
    let cmd : Instr := .setAdmission limitFraction pressFraction sealHold scrubHold limitHold purgeTime breachMin
    let sent := admissionSent limitFraction pressFraction sealHold scrubHold limitHold purgeTime breachMin
    let set := sent.ranged
    let status : Byte := if set = sent then 0#8 else 1#8
    let dropped (c : Instr) : Prop := exec c s = .next { s with handed := s.handed.erase c }
    (s.part.state = .config →
      exec (.setDirective code) s = .next (s.replied (.setDirective code) 0xA0#8 [20#8]) ∧
      exec cmd s = .next { s.replied cmd 0xA1#8 [status] with adm := { s.adm with settings := set } } ∧
      dropped (.admLevelReport a l) ∧ dropped (.oatReport st v) ∧ dropped (.doorChange door b) ∧
      dropped (.zonOutputChange z) ∧ dropped (.damperStateReport report) ∧ dropped (.sealReqChange false) ∧
      (s.ddr.dampers[0].position = none → dropped (.sealReqChange true)) ∧
      (s.ddr.dampers[0].position.isSome = true → exec (.sealReqChange true) s =
        .next (({ s with handed := s.handed.erase (.sealReqChange true) } : State).order 0 0 .safety .adm)) ∧
      (s.ddr.dampers[0].position = some 0 → s.ddr.dampers[0].state = .idle → s.ddr.queue = [] →
        exec (.sealReqChange true) s =
          .next { s with
            ddr := { s.ddr with dampers := s.ddr.dampers.set 0 { s.ddr.dampers[0] with last := .done } }
            handed := s.handed.erase (.sealReqChange true) }) ∧
      (∀ p ∈ s.ddr.dampers[0].position, s.ddr.dampers[0].state = .idle → p ≠ 0 → s.ddr.seq + 1 < 4294967296 →
        (∀ l : LaneIx, s.ddr.lanes[l].state ≠ .free) →
        exec (.sealReqChange true) s =
          .next { s with
            ddr := { s.ddr with
              dampers := s.ddr.dampers.set 0 { s.ddr.dampers[0] with state := .waiting, target := some 0 }
              queue := insertOrder ⟨0, .move 0, .safety, .adm, s.ddr.seq⟩ s.ddr.queue
              seq := s.ddr.seq + 1 }
            handed := s.handed.erase (.sealReqChange true) ++
              [.damperStateReport (.damper 0 .waiting s.ddr.dampers[0].position)] })) ∧
    (s.part.state = .run →
      (2 < code.toNat → exec (.setDirective code) s = .next (s.replied (.setDirective code) 0xA0#8 [19#8])) ∧
      (code.toNat = s.adm.directive.code →
        exec (.setDirective code) s = .next (s.replied (.setDirective code) 0xA0#8 [0#8])) ∧
      (s.AdmissionLaw → ∃ t, exec cmd s = .next t ∧
        t = { s with adm := t.adm, atn := t.atn, ddr := t.ddr, free := t.free, handed := t.handed, link := t.link } ∧
        t.link = { s.link with busy := true, reply := some ⟨0xA1#8, [status]⟩ } ∧
        t.adm.settings = set ∧ t.adm.directive = s.adm.directive ∧ t.adm.RunLaw))

/-! ### Zones -/

/-- A zone update: ACTIVE with error, integral, demand, blend target and blower demand computed where the temperature
is usable, HOLD with all of them kept and ZONE raised on its entry where it is not; in both the fresh demand and the
breathing judgement, a blend order where the blend target is not the ordered one, and the outputs formed again, each
change of which ADM, MOV or HEU is handed. Left open: the other sources of ATN and its lines. -/
def Obligations.ZoneUpdates : Prop :=
  ∀ (z : ZoneIx) (s : State), s.part.state ≠ .init → s.zon.zones[z].update.isSome = true →
    let r := s.zon.zones[z]
    let new : Zone := s.zoneUpdated z r s.heu.offersHeat
    let u : State := if r.ordered = some new.blend then s else s.order (zoneDamper z) new.blend .normal .zon
    ∃ t, exec (.zoneUpdate z) s = .next t ∧
      t = { s with zon := t.zon, ddr := t.ddr, atn := t.atn, free := t.free, handed := t.handed } ∧
      t.zon = { s.zon with zones := s.zon.zones.set z new, out := t.zon.out } ∧
      t.zon.out = (if s.part.state = .run then t.zon.outputs else zonOutputsZero) ∧
      t.atn.sources[asZone] =
        (if s.sns.channels[z.val + 2].isUsable = false ∧ r.mode = .active then
          s.atn.sources[asZone].raise (s.holdDetail z)
        else s.atn.sources[asZone]) ∧
      t.ddr = u.ddr ∧ t.free = u.free ∧ t.handed = u.handed ++ zonNews s.zon.out t.zon.out

/-- The outputs of ZON in RUN: the largest fresh demand, blower demand of each group and positive demand over the
enabled zones, 0 where there is none, the floor of 80 under defrost, and the breathing flag. -/
def Obligations.ZoneOutputs : Prop :=
  ∀ (r : Zon),
    let o := r.outputs
    (∀ z : ZoneIx, r.zones[z].enabled = true →
      r.zones[z].fresh ≤ o.fresh ∧ r.zones[z].demand ≤ o.heat ∧ (r.zones[z].breathing = true → o.breathing = true) ∧
      (z.val < 2 → r.zones[z].blower ≤ o.front) ∧ (2 ≤ z.val → r.zones[z].blower ≤ o.rear)) ∧
    (o.fresh = 0 ∨ ∃ z : ZoneIx, r.zones[z].enabled = true ∧ o.fresh = r.zones[z].fresh) ∧
    (o.heat = 0 ∨ ∃ z : ZoneIx, r.zones[z].enabled = true ∧ (o.heat : Int) = r.zones[z].demand) ∧
    (o.breathing = true → ∃ z : ZoneIx, r.zones[z].enabled = true ∧ r.zones[z].breathing = true) ∧
    (o.rear = 0 ∨ ∃ z : ZoneIx, 2 ≤ z.val ∧ r.zones[z].enabled = true ∧ o.rear = r.zones[z].blower) ∧
    (r.defrost = true → 80 ≤ o.front) ∧
    (o.front = 0 ∨ r.defrost = true ∧ o.front = 80 ∨
      ∃ z : ZoneIx, z.val < 2 ∧ r.zones[z].enabled = true ∧ o.front = r.zones[z].blower)

/-- SET_ZONE and SET_DEFROST. In CONFIG, and in RUN with the enabled flag as it was, SET_ZONE stores flag and setpoint
and nothing else. In RUN a disabled zone has nothing left and orders its blend damper to 0; an enabled one takes its
first update from ACTIVE with integral 0. SET_DEFROST sets the flag, and in RUN orders DMP7 where its ordered target is
another. Each change of an output is handed to its reader. -/
def Obligations.ZoneRequests : Prop :=
  ∀ (z : ZoneIx) (index enabled flag : Byte) (setpoint : Half) (s : State), s.part.state ≠ .init →
    let r := s.zon.zones[z]
    let on : Bool := decide (enabled = 1#8)
    let stored := max 100 (min 320 setpoint.toNat)
    let status : Byte := if stored = setpoint.toNat then 0#8 else 1#8
    let cmd : Instr := .setZone (BitVec.ofNat 8 z.val) enabled setpoint
    let set : Zone := { r with enabled := on, setpoint := stored }
    let frame (t : State) : Prop :=
      t = { s with zon := t.zon, ddr := t.ddr, atn := t.atn, free := t.free, handed := t.handed, link := t.link }
    (3 < index.toNat ∨ 1 < enabled.toNat →
      exec (.setZone index enabled setpoint) s = .next (s.replied (.setZone index enabled setpoint) 0xA8#8 [19#8])) ∧
    (enabled.toNat ≤ 1 → s.part.state = .config ∨ on = r.enabled →
      exec cmd s = .next { s.replied cmd 0xA8#8 [status] with
        zon := { s.zon with zones := s.zon.zones.set z set } }) ∧
    (enabled = 0#8 → s.part.state = .run → r.enabled = true →
      ∃ t, exec cmd s = .next t ∧ frame t ∧ t.link = (s.replied cmd 0xA8#8 [status]).link ∧
        t.zon.zones[z] =
          { set with
            mode := .off, update := none, integral := 0, error := 0, demand := 0, blend := 0, breathing := false
            ordered := some 0, fresh := 0, blower := 0 } ∧
        (∀ y : ZoneIx, y ≠ z → t.zon.zones[y] = s.zon.zones[y]) ∧ t.zon.out = t.zon.outputs ∧
        let u := ({ s with handed := s.handed.erase cmd } : State).order (zoneDamper z) 0 .normal .zon
        t.ddr = u.ddr ∧ t.free = u.free ∧ t.handed = u.handed ++ zonNews s.zon.out t.zon.out) ∧
    (enabled = 1#8 → s.part.state = .run → r.enabled = false →
      ∃ t, exec cmd s = .next t ∧ frame t ∧ t.link = (s.replied cmd 0xA8#8 [status]).link ∧
        t.zon.zones[z] = s.zoneUpdated z
          { set with mode := .active, integral := 0, ordered := none, breathing := false } s.heu.offersHeat ∧
        t.atn.sources[asZone] =
          (if s.sns.channels[z.val + 2].isUsable = true then s.atn.sources[asZone]
          else s.atn.sources[asZone].raise (s.holdDetail z)) ∧
        (∀ y : ZoneIx, y ≠ z → t.zon.zones[y] = s.zon.zones[y]) ∧ t.zon.out = t.zon.outputs ∧
        let u := ({ s with handed := s.handed.erase cmd } : State).order (zoneDamper z) t.zon.zones[z].blend .normal .zon
        t.ddr = u.ddr ∧ t.free = u.free ∧ t.handed = u.handed ++ zonNews s.zon.out t.zon.out) ∧
    (1 < flag.toNat → exec (.setDefrost flag) s = .next (s.replied (.setDefrost flag) 0xAB#8 [19#8])) ∧
    (s.part.state = .config → flag.toNat ≤ 1 →
      exec (.setDefrost flag) s = .next { s.replied (.setDefrost flag) 0xAB#8 [0#8] with
        zon := { s.zon with defrost := decide (flag = 1#8) } }) ∧
    (s.part.state = .run → flag.toNat ≤ 1 →
      let percent := if flag = 1#8 then 100 else 0
      ∃ t, exec (.setDefrost flag) s = .next t ∧ frame t ∧ t.link = (s.replied cmd 0xAB#8 [0#8]).link ∧
        t.zon.defrost = decide (flag = 1#8) ∧ t.zon.zones = s.zon.zones ∧ t.zon.tuning = s.zon.tuning ∧
        t.zon.orderedDefrost = some percent ∧
        t.zon.out = { s.zon.out with front := t.zon.outputs.front, rear := t.zon.outputs.rear } ∧
        let v : State := { s with handed := s.handed.erase (.setDefrost flag) }
        let u := if decide (flag = 1#8) = s.zon.defrost ∧ s.zon.orderedDefrost = some percent then v
          else v.order 7 percent .normal .zon
        t.ddr = u.ddr ∧ t.free = u.free ∧ t.handed = u.handed ++ zonNews s.zon.out t.zon.out)

/-- SET_ZONE_TUNING and SET_CREW: what is refused, what is clamped, what is stored, and that nothing else changes but
the group demands, which ZON hands at once in RUN. -/
def Obligations.ZoneTuningAndCrew : Prop :=
  ∀ (z : ZoneIx) (index occupancy minBlower occupantFresh : Byte) (kp ki co2Low co2High hardLimit discharge : Half)
    (s : State), s.part.state ≠ .init →
    let r := s.zon.zones[z]
    let crew : Instr := .setCrew (BitVec.ofNat 8 z.val) occupancy
    let tune : Instr := .setZoneTuning kp ki minBlower co2Low co2High hardLimit occupantFresh discharge
    let refused : Prop := 255 < kp.toNat ∨ 255 < ki.toNat ∨ 9999 < co2Low.toNat ∨ 9999 < co2High.toNat ∨
      co2High.toNat ≤ co2Low.toNat
    let set : Tuning :=
      ⟨kp.toNat, ki.toNat, min 100 minBlower.toNat, co2Low.toNat, co2High.toNat, max 1 (min 9999 hardLimit.toNat),
        min 25 occupantFresh.toNat, max (-500) (min 1499 discharge.toInt)⟩
    let sent : Tuning :=
      ⟨kp.toNat, ki.toNat, minBlower.toNat, co2Low.toNat, co2High.toNat, hardLimit.toNat, occupantFresh.toNat,
        discharge.toInt⟩
    let status : Byte := if set = sent then 0#8 else 1#8
    (3 < index.toNat →
      exec (.setCrew index occupancy) s = .next (s.replied (.setCrew index occupancy) 0xAA#8 [19#8])) ∧
    exec crew s = .next { s.replied crew 0xAA#8 [if 4 < occupancy.toNat then 1#8 else 0#8] with
      zon := { s.zon with zones := s.zon.zones.set z { r with occupancy := min 4 occupancy.toNat } } } ∧
    (refused → exec tune s = .next (s.replied tune 0xA9#8 [19#8])) ∧
    (¬ refused → s.part.state = .config →
      exec tune s = .next { s.replied tune 0xA9#8 [status] with zon := { s.zon with tuning := set } }) ∧
    (¬ refused → s.part.state = .run →
      ∃ t, exec tune s = .next t ∧
        t = { s.replied tune 0xA9#8 [status] with zon := t.zon, handed := t.handed } ∧
        t.zon = { s.zon with
          tuning := set
          out := { s.zon.out with front := s.zon.outputs.front, rear := s.zon.outputs.rear } } ∧
        (s.zon.out.front ≠ t.zon.out.front → .groupDemandChange .front t.zon.out.front ∈ t.handed) ∧
        (s.zon.out.rear ≠ t.zon.out.rear → .groupDemandChange .rear t.zon.out.rear ∈ t.handed))

/-! ### Dampers and lanes -/

/-- An order to a damper, by the damper's state, from any owner in any part state and from a MOVE in CONFIG: refused, queued
as a HOME, dropped in the deadband, completed at once, queued, replaced in the queue, retargeted, reversed, kept for the
homing or deferred; the lanes that are FREE are then granted. A target that is the position reached at the home end without
HOME starts the overtravel search. That a reversal with settle time 0 goes on at once, its step time a whole number of
microseconds, the arrival at a grant, the kind in hand after a home end found at it, and that an order taken in the
overtravel is SUPERSEDED, the home position too, are the model's readings (assumptions 13, 21, 22, 26, 43). -/
def Obligations.OrdersByDamperState : Prop :=
  ∀ (d : DamperIx) (percent cls : Byte) (src : OrderSource) (s : State), cls.toNat ≤ 1 → s.DriveLaw →
    s.ddr.seq + 1 < 4294967296 →
    let c := s.ddr.dampers[d]
    let cmd : Instr := .move (BitVec.ofNat 8 d.val) percent cls
    let n := (min 100 percent.toNat * c.settings.span + 50) / 100
    let k : OrderClass := if cls = 1#8 then .safety else .normal
    let home := if c.settings.homeOpen then c.settings.span else 0
    let ok : Byte := if 100 < percent.toNat then 1#8 else 0#8
    let inHand (src : OrderSource) : Option OrderInHand :=
      c.order.map fun o => { o with cls := if k = .safety then .safety else o.cls, source := src }
    let takes (status : Byte) (f : State → OrderSource → State) : Prop :=
      (s.part.state = .config →
        exec cmd s = .next ((f (s.replied cmd 0xB1#8 [status]) .link).arbitrated (s.handed.erase cmd))) ∧
      s.order d (min 100 percent.toNat) k src = (f s src).arbitrated s.handed
    (c.state = .absent → takes 23#8 fun u _ => u.damperBecomes d { c with last := .refused }) ∧
    (c.state = .jammed → takes 25#8 fun u _ => u.damperBecomes d { c with last := .refused }) ∧
    (c.state = .unhomed →
      takes ok fun u src => (u.queued d (.home (some n)) k src).damperBecomes d { c with state := .waiting }) ∧
    (c.state = .idle → ∀ t ∈ c.target,
      let near : Prop := k = .normal ∧ n ≤ t + 8 ∧ t ≤ n + 8
      (near → takes ok fun u _ => u) ∧
      (¬ near → c.position = some n → takes ok fun u _ => u.damperBecomes d { c with last := .done }) ∧
      (¬ near → c.position ≠ some n →
        takes ok fun u src =>
          (u.queued d (.move n) k src).damperBecomes d { c with state := .waiting, target := some n })) ∧
    (c.state = .waiting → ∀ o ∈ s.ddr.queuedOrder d,
      let rest := s.ddr.queue.filter fun x => x.damper ≠ d
      let isMove : Bool := match o.goal with | .move _ => true | .home _ => false
      let o' (src : OrderSource) : QueuedOrder := { o with cls := if k = .safety then .safety else o.cls, source := src }
      (isMove = true → c.position = some n →
        takes ok fun u _ =>
          (u.queueBecomes rest).damperBecomes d { c with state := .idle, target := some n, last := .done }) ∧
      (isMove = true → c.position ≠ some n →
        takes ok fun u src => (u.queueBecomes (insertOrder { o' src with goal := .move n } rest)).damperBecomes d
          { c with target := some n, last := .superseded }) ∧
      (isMove = false →
        takes ok fun u src => (u.queueBecomes (insertOrder { o' src with goal := .home (some n) } rest)).damperBecomes d
          { c with last := .superseded })) ∧
    (c.state = .moving → ∀ p ∈ c.position, ∀ t ∈ c.target,
      (c.overtravel = true →
        takes ok fun u src => u.damperBecomes d { c with order := inHand src, target := some n, last := .superseded }) ∧
      (c.overtravel = false → (n < p ∧ t < p ∨ p < n ∧ p < t) →
        takes ok fun u src => u.damperBecomes d { c with order := inHand src, target := some n, last := .superseded }) ∧
      (c.overtravel = false → (n < p ∧ p < t ∨ p < n ∧ t < p) →
        takes ok fun u src => u.damperReverses d { c with order := inHand src, last := .superseded } n) ∧
      (c.overtravel = false → n = p → p ≠ home ∨ c.homeInput = true → ∀ l ∈ c.lane,
        takes ok fun u src =>
          (u.laneFreed l).damperBecomes d (({ c with order := inHand src } : Damper).arrived s.now)) ∧
      (c.overtravel = false → n = p → p = home → c.homeInput = false → c.stepDue.isSome = true →
        takes ok fun u src => u.damperBecomes d
          { c with order := inHand src, target := some n, overtravel := true, stepCount := 0 })) ∧
    (c.state = .homing →
      takes ok fun u src => u.damperBecomes d
        { c with
          order := inHand src, pending := some n, last := if c.pending.isSome then .superseded else c.last }) ∧
    (c.state = .settling → c.lane = none →
      takes ok fun u src => u.damperBecomes d { c with deferred := some ⟨n, k, src⟩ }) ∧
    (c.state = .settling → c.lane.isSome = true →
      takes ok fun u src => u.damperBecomes d { c with order := inHand src, target := some n, last := .superseded })

/-- A MOVE is refused STATE in RUN, and RANGE for an index above 7 or a class above 1; the grant: the first order in
grant order takes a FREE lane, L0 before L1, and its damper is MOVING or HOMING with the lane, or at its home end at once
where HOME is asserted, the lane then FREE again; two lanes FREE together take the first two orders. The time of a step is
the whole number of microseconds of assumption 13. That STATE is judged before RANGE, the arrival of a MOVE granted at its
target, that a settle of 0 ends at once, and the kind in hand after a home end found at the grant, are the model's readings
(assumptions 18, 21, 22, 26). -/
def Obligations.LanesAreGranted : Prop :=
  ∀ (d e : DamperIx) (l : LaneIx) (index percent cls : Byte) (s : State),
    let c := s.ddr.dampers[d]
    let cmd : Instr := .move (BitVec.ofNat 8 d.val) percent cls
    let n := (min 100 percent.toNat * c.settings.span + 50) / 100
    let k : OrderClass := if cls = 1#8 then .safety else .normal
    let due : Option Time := some (s.now + 1000000 / c.settings.rate)
    let lane (r : Lane) : Lane := { r with state := .busy, holder := some d }
    let ok : State := s.replied cmd 0xB1#8 [if 100 < percent.toNat then 1#8 else 0#8]
    (s.part.state = .run →
      exec (.move index percent cls) s = .next (s.replied (.move index percent cls) 0xB1#8 [20#8])) ∧
    (s.part.state = .config → 7 < index.toNat ∨ 1 < cls.toNat →
      exec (.move index percent cls) s = .next (s.replied (.move index percent cls) 0xB1#8 [19#8])) ∧
    (s.part.state = .config → cls.toNat ≤ 1 → s.ddr.queue = [] → s.ddr.seq + 1 < 4294967296 →
      s.ddr.lanes[l].state = .free → (l = 1 → s.ddr.lanes[0].state ≠ .free) →
      let granted (t : State) : State := { t with ddr := { t.ddr with queue := [], seq := s.ddr.seq + 1 } }
      (c.state = .idle → (∀ t ∈ c.target, k = .safety ∨ t + 8 < n ∨ n + 8 < t) → c.target.isSome = true →
        c.position ≠ some n →
        exec cmd s = .next (granted ((ok.laneBecomes l (lane s.ddr.lanes[l])).damperBecomes d
          { c with
            state := .moving, target := some n, lane := some l, order := some ⟨.move, k, .link, s.ddr.seq⟩
            stepDue := due }))) ∧
      (c.state = .unhomed → c.homeInput = false →
        exec cmd s = .next (granted ((ok.laneBecomes l (lane s.ddr.lanes[l])).damperBecomes d
          { c with
            state := .homing, position := none, target := none, pending := some n, lane := some l, stepCount := 0
            order := some ⟨.home, k, .link, s.ddr.seq⟩, stepDue := due })))) ∧
    (s.part.state ≠ .init → s.ddr.lanes[l].recovery.isSome = true → s.ddr.lanes[l].state = .out →
      (∀ m : LaneIx, m ≠ l → s.ddr.lanes[m].state ≠ .free) →
      (s.ddr.queue = [] →
        exec (.laneRecoveryExpiry l) s =
          .next (s.laneBecomes l { s.ddr.lanes[l] with state := .free, recovery := none })) ∧
      (∀ o ∈ s.ddr.queue.head?, o.damper = d →
        (∀ t ∈ (match o.goal with | .move t => some t | .home _ => none), c.position ≠ some t →
          exec (.laneRecoveryExpiry l) s =
            .next (((s.queueBecomes s.ddr.queue.tail).laneBecomes l
              { lane s.ddr.lanes[l] with recovery := none }).damperBecomes d
              { c with
                state := .moving, target := some t, lane := some l, order := some ⟨.move, o.cls, o.source, o.seq⟩
                stepDue := due })) ∧
        (∀ p ∈ (match o.goal with | .move _ => none | .home p => some p), c.homeInput = false →
          exec (.laneRecoveryExpiry l) s =
            .next (((s.queueBecomes s.ddr.queue.tail).laneBecomes l
              { lane s.ddr.lanes[l] with recovery := none }).damperBecomes d
              { c with
                state := .homing, position := none, target := none, pending := p, lane := some l, stepCount := 0
                order := some ⟨.home, o.cls, o.source, o.seq⟩, stepDue := due })) ∧
        (s.DriveLaw → ∀ p ∈ (match o.goal with | .move _ => none | .home p => some p), c.homeInput = true →
          s.ddr.queue.tail = [] →
          let home := if c.settings.homeOpen then c.settings.span else 0
          p = none ∨ p = some home →
          exec (.laneRecoveryExpiry l) s =
            .next (((s.queueBecomes []).laneBecomes l
              { s.ddr.lanes[l] with state := .free, holder := none, recovery := none }).damperBecomes d
              (({ c with
                position := some home, slip := 0, order := some ⟨.home, o.cls, o.source, o.seq⟩ } : Damper).arrived
                s.now))))) ∧
    (s.part.state ≠ .init → s.ddr.lanes[l].recovery.isSome = true →
      (s.DriveLaw → exec (.laneRecoveryExpiry l) s =
        .next ((s.laneBecomes l { s.ddr.lanes[l] with state := .free, recovery := none }).arbitrated s.handed)) ∧
      (∀ a ∈ s.ddr.queue.head?, ∀ b ∈ s.ddr.queue.tail.head?, a.damper = d → b.damper = e → d ≠ e →
        (∀ m : LaneIx, m ≠ l → s.ddr.lanes[m].state = .free) →
        ∀ t ∈ (match a.goal with | .move t => some t | .home _ => none), c.position ≠ some t →
        ∀ u ∈ (match b.goal with | .move t => some t | .home _ => none), s.ddr.dampers[e].position ≠ some u →
        ∃ v, exec (.laneRecoveryExpiry l) s = .next v ∧ v.ddr.queue = s.ddr.queue.drop 2 ∧
          v.ddr.lanes[0].holder = some d ∧ v.ddr.lanes[1].holder = some e ∧
          v.ddr.dampers[d] = { c with
            state := .moving, target := some t, lane := some 0, order := some ⟨.move, a.cls, a.source, a.seq⟩
            stepDue := due } ∧
          v.ddr.dampers[e] = { s.ddr.dampers[e] with
            state := .moving, target := some u, lane := some 1, order := some ⟨.move, b.cls, b.source, b.seq⟩
            stepDue := some (s.now + 1000000 / s.ddr.dampers[e].settings.rate) }))

/-- A step completion of a damper that steps on a lane: one step toward the target, the arrival, the home-end check, and the
searches, which jam the damper where they run out. A lane that the arrival or the jam frees is granted at once to the first
order that waits. The time of a step is that of assumption 13, a settle of 0 and a grant those of assumptions 21, 22 and 26,
the pulse count the model's own (assumption 37). -/
def Obligations.Steps : Prop :=
  ∀ (d : DamperIx) (l : LaneIx) (s : State), s.part.state ≠ .init → s.DriveLaw →
    let c := s.ddr.dampers[d]
    let home := if c.settings.homeOpen then c.settings.span else 0
    let due : Option Time := some (s.now + 1000000 / c.settings.rate)
    let jams : State :=
      { ((s.pulsed l).laneFreed l).damperBecomes d c.nowJammed with atn := s.atn.raise asDamper (d.val + 256) }
    let answers (t : State) : Prop := exec (.stepCompletion d) s = .next (t.arbitrated s.handed)
    c.lane = some l →
    (c.state = .moving → c.overtravel = false → ∀ p ∈ c.position, ∀ t ∈ c.target,
      let q := if p < t then p + 1 else p - 1
      (q ≠ t → answers ((s.pulsed l).damperBecomes d { c with position := some q, stepDue := due })) ∧
      (q = t → q ≠ home ∨ c.homeInput = true →
        answers (((s.pulsed l).laneFreed l).damperBecomes d (({ c with position := some q } : Damper).arrived s.now))) ∧
      (q = t → q = home → c.homeInput = false →
        answers ((s.pulsed l).damperBecomes d
          { c with position := some q, overtravel := true, stepCount := 0, stepDue := due }))) ∧
    (c.state = .moving → c.overtravel = true →
      (c.stepCount + 1 < 16 →
        answers ((s.pulsed l).damperBecomes d { c with stepCount := c.stepCount + 1, stepDue := due })) ∧
      (16 ≤ c.stepCount + 1 → answers jams)) ∧
    (c.state = .homing →
      (c.stepCount + 1 < c.settings.span + 64 →
        answers ((s.pulsed l).damperBecomes d { c with stepCount := c.stepCount + 1, stepDue := due })) ∧
      (c.settings.span + 64 ≤ c.stepCount + 1 → answers jams))

/-- The end of a settle. After an arrival the damper is IDLE and DONE, and takes the order deferred to it; after a
reversal it is MOVING again, or IDLE with its lane released where its target is its position. A lane that is FREE is then
granted, to the deferred order too. The time of a step is that of assumption 13, a grant as in assumptions 21, 22
and 26. -/
def Obligations.Settles : Prop :=
  ∀ (d : DamperIx) (s : State), s.part.state ≠ .init → s.DriveLaw → s.ddr.dampers[d].settle.isSome = true →
    let c := s.ddr.dampers[d]
    let rested : Damper := { c with state := .idle, settle := none, order := none, last := .done, deferred := none }
    let answers (t : State) : Prop := exec (.settleTimerExpiry d) s = .next (t.arbitrated s.handed)
    (c.lane = none →
      (c.deferred = none → answers (s.damperBecomes d rested)) ∧
      (∀ o ∈ c.deferred, ∀ t ∈ c.target,
        let near : Prop := o.cls = .normal ∧ o.target ≤ t + 8 ∧ t ≤ o.target + 8
        (near ∨ c.position = some o.target → answers (s.damperBecomes d rested)) ∧
        (¬ near → c.position ≠ some o.target → s.ddr.seq + 1 < 4294967296 →
          answers ((s.queued d (.move o.target) o.cls o.source).damperBecomes d
            { rested with state := .waiting, target := some o.target })))) ∧
    (∀ l ∈ c.lane,
      (c.target = c.position →
        answers ((s.laneFreed l).damperBecomes d
          { c with state := .idle, lane := none, settle := none, order := none, stepDue := none, last := .done })) ∧
      (c.target ≠ c.position →
        answers (s.damperBecomes d
          { c with state := .moving, settle := none, stepDue := some (s.now + 1000000 / c.settings.rate) })))

/-- A HOME change. It is recorded in every state; an assertion finds the home end of a homing damper and of one in the
overtravel, and shows the slip of one that moves more than 16 steps from it; a lane that an arrival frees is granted at once
to the first order that waits. The kind in hand after the home end is found, a reversal with settle time 0, its step time,
the arrival at a grant, that an overtravel which ends with a step counter of 0 raises no SLIP, and an assertion that is no
change, are the model's readings (assumptions 13, 21, 22, 23, 26, 45). -/
def Obligations.HomeInputs : Prop :=
  ∀ (d : DamperIx) (b : Bool) (s : State), s.part.state ≠ .init → s.DriveLaw →
    let c : Damper := { s.ddr.dampers[d] with homeInput := b }
    let cmd : Instr := .homeChange d b
    let u : State := { s with handed := s.handed.erase cmd }
    let home := if c.settings.homeOpen then c.settings.span else 0
    let answers (t : State) : Prop := exec cmd s = .next (t.arbitrated u.handed)
    let slipped (n : Nat) : Damper := { c with position := some home, slip := min 65535 (c.slip + n) }
    let told (n : Nat) (t : State) : State :=
      { t with atn := if 0 < n ∧ 24 < min 65535 (c.slip + n) then s.atn.raise asDamper (d.val + 512) else s.atn }
    (b = false ∨ c.state ≠ .homing ∧ c.state ≠ .moving → answers (u.damperBecomes d c)) ∧
    (b = true → ∀ l ∈ c.lane,
      (c.state = .homing →
        let found : Damper := { c with position := some home, slip := 0, stepCount := 0, pending := none }
        let goal := c.pending.getD home
        (goal = home → answers ((u.laneFreed l).damperBecomes d (found.arrived s.now))) ∧
        (goal ≠ home → answers (u.damperReverses d
          { found with order := c.order.map fun o => { o with kind := .move } } goal))) ∧
      (c.state = .moving → c.overtravel = false → ∀ p ∈ c.position, ∀ t ∈ c.target,
        let far := (p - home) + (home - p)
        (far ≤ 16 → answers (u.damperBecomes d c)) ∧
        (16 < far → t = home → answers (told far ((u.laneFreed l).damperBecomes d ((slipped far).arrived s.now)))) ∧
        (16 < far → t ≠ home → (home < t ↔ p < t) → answers (told far (u.damperBecomes d (slipped far)))) ∧
        (16 < far → t ≠ home → ¬ (home < t ↔ p < t) →
          answers (told far (u.damperReverses d (slipped far) t)))) ∧
      (c.state = .moving → c.overtravel = true → c.position = some home → ∀ t ∈ c.target,
        (t = home → answers (told c.stepCount ((u.laneFreed l).damperBecomes d
          ((slipped c.stepCount).arrived s.now)))) ∧
        (t ≠ home → answers (told c.stepCount (u.damperReverses d (slipped c.stepCount) t)))))

/-- LANEFLT, and the lane's two expiries. A fault takes a FREE or BUSY lane, or one whose recovery runs, OUT, the third
within the history LOCKED_OUT, and raises LANE; the holder's order goes back to the queue with its number, and the other lane
is granted at once where it is FREE; the negation at an OUT lane starts the recovery, at whose expiry the lane is FREE and is
granted; the history's expiry drops its oldest fault. An assertion or negation acts as such even where LANEFLT stands so
already (assumption 45); a grant is as in assumptions 13, 21, 22 and 26. -/
def Obligations.LaneFaults : Prop :=
  ∀ (l : LaneIx) (b : Bool) (s : State), s.part.state ≠ .init → s.DriveLaw →
    let r : Lane := { s.ddr.lanes[l] with fltInput := b }
    let cmd : Instr := .laneFltChange l b
    let u : State := { s with handed := s.handed.erase cmd }
    let third : Bool := decide (2 ≤ r.history.length)
    let faulted : Lane :=
      { r with
        state := if third then .lockedOut else .out, holder := none, recovery := none
        history := if third then r.history else r.history ++ [s.now], lockout := r.lockout || third }
    let told (t : State) : State := { t with atn := s.atn.raise asLane (l.val + 256 * (if third then 2 else 1)) }
    let answers (t : State) : Prop := exec cmd s = .next (t.arbitrated u.handed)
    (r.state = .absent ∨ r.state = .lockedOut ∨ b = false ∧ (r.state = .busy ∨ r.state = .free) ∨
      b = true ∧ r.state = .out ∧ r.recovery = none → answers (u.laneBecomes l r)) ∧
    (b = true → r.state = .free ∨ r.state = .busy ∨ r.state = .out ∧ r.recovery.isSome = true →
      answers (told ((u.holderStops l).laneBecomes l faulted))) ∧
    (b = false → r.state = .out →
      answers (u.laneBecomes l { r with recovery := some (r.recovery.getD (s.now + 2000000)) })) ∧
    (s.ddr.lanes[l].recovery.isSome = true → exec (.laneRecoveryExpiry l) s =
      .next ((s.laneBecomes l { s.ddr.lanes[l] with state := .free, recovery := none }).arbitrated s.handed)) ∧
    exec (.laneFaultHistoryExpiry l) s =
      .next (if s.ddr.lanes[l].state = .lockedOut then s
        else s.laneBecomes l { s.ddr.lanes[l] with history := s.ddr.lanes[l].history.tail })

/-- SET_DAMPER, REHOME and LANE_ENABLE, with the lanes granted that they leave FREE. REHOME queues a HOME order, or changes
the order that waits, or lets a search run on; a damper that moves or settles stops and releases its lane. That STATE is
judged before RANGE, that a REHOME in CONFIG takes the target of a settling damper without a deferred order as its goal, and
that a MOVE which becomes a HOME in the queue keeps its source, are the model's readings (assumptions 18, 25, 44); a grant is
as in assumptions 13, 21, 22 and 26. -/
def Obligations.DriveRequests : Prop :=
  ∀ (d : DamperIx) (l : LaneIx) (index homeEnd : Byte) (span rate settle : Half) (s : State), s.part.state ≠ .init →
    s.DriveLaw →
    let c := s.ddr.dampers[d]
    let set : Instr := .setDamper (BitVec.ofNat 8 d.val) span rate settle homeEnd
    let settings : DamperSettings :=
      ⟨span.toNat, max 50 (min 500 rate.toNat), min 1000 settle.toNat, decide (homeEnd = 1#8)⟩
    let status : Byte := if settings.rate = rate.toNat ∧ settings.settle = settle.toNat then 0#8 else 1#8
    let works : Prop := c.state = .waiting ∨ c.state = .homing ∨ c.state = .moving ∨ c.state = .settling
    let inRange : Prop := 1 ≤ span.toNat ∧ span.toNat ≤ 2000 ∧ homeEnd.toNat ≤ 1
    let re : Instr := .rehome (BitVec.ofNat 8 d.val)
    let owner : Option Nat := (s.ownerTarget d).map fun p => (p * c.settings.span + 50) / 100
    let unfinished : Option Nat := if c.state = .moving then c.target
      else if c.state = .settling then (match c.deferred with | some o => some o.target | none => c.target) else none
    let goal : Option Nat := if s.part.state = .run then owner else unfinished
    let k : OrderClass := if d = 0 then .safety else .normal
    let enable : Instr := .laneEnable (BitVec.ofNat 8 l.val)
    let r := s.ddr.lanes[l]
    let homes (t : State) : Prop := exec re s = .next (t.arbitrated (s.handed.erase re))
    let ok : State := s.replied re 0xB2#8 [0#8]
    let waits : Damper :=
      { c with
        state := .waiting, lane := none, position := none, target := none, pending := none, order := none
        deferred := none, stepCount := 0, overtravel := false, stepDue := none, settle := none, jam := false }
    let enables (t : State) : Prop := exec enable s = .next (t.arbitrated (s.handed.erase enable))
    (s.part.state = .run → exec set s = .next (s.replied set 0xB0#8 [20#8])) ∧
    (s.part.state = .config →
      (7 < index.toNat → exec (.setDamper index span rate settle homeEnd) s =
        .next (s.replied (.setDamper index span rate settle homeEnd) 0xB0#8 [19#8])) ∧
      (¬ inRange → exec set s = .next (s.replied set 0xB0#8 [19#8])) ∧
      (inRange → works → exec set s = .next (s.replied set 0xB0#8 [20#8])) ∧
      (inRange → ¬ works → exec set s = .next ((s.replied set 0xB0#8 [status]).damperBecomes d
        (if c.state = .idle ∧ (settings.span ≠ c.settings.span ∨ settings.homeOpen ≠ c.settings.homeOpen) then
          { c with settings := settings, state := .unhomed, position := none, target := none, slip := 0 }
        else { c with settings := settings })))) ∧
    (7 < index.toNat → exec (.rehome index) s = .next (s.replied (.rehome index) 0xB2#8 [19#8])) ∧
    (c.state = .absent → exec re s = .next (s.replied re 0xB2#8 [23#8])) ∧
    (s.ddr.seq + 1 < 4294967296 →
      (c.state = .jammed ∨ c.state = .unhomed ∨ c.state = .idle ∨ (c.state = .moving ∨ c.state = .settling) ∧ c.lane = none →
        homes ((ok.queued d (.home goal) k .link).damperBecomes d waits)) ∧
      (c.state = .moving ∨ c.state = .settling → ∀ m ∈ c.lane,
        homes (((ok.laneFreed m).queued d (.home goal) k .link).damperBecomes d waits))) ∧
    (c.state = .homing →
      homes (ok.damperBecomes d { c with pending := if s.part.state = .run then owner else c.pending })) ∧
    (c.state = .waiting → ∀ o ∈ s.ddr.queuedOrder d,
      let rest := s.ddr.queue.filter fun x => x.damper ≠ d
      (∀ t ∈ (match o.goal with | .move t => some t | .home _ => none),
        homes ((ok.queueBecomes
          (insertOrder { o with goal := .home (if s.part.state = .run then owner else some t) } rest)).damperBecomes d
            { c with position := none, target := none })) ∧
      (∀ p ∈ (match o.goal with | .move _ => none | .home p => some p), s.part.state = .run →
        homes (ok.queueBecomes (insertOrder { o with goal := .home owner } rest))) ∧
      (∀ p ∈ (match o.goal with | .move _ => none | .home p => some p), s.part.state = .config → homes ok)) ∧
    (1 < index.toNat → exec (.laneEnable index) s = .next (s.replied (.laneEnable index) 0xB3#8 [19#8])) ∧
    (r.state = .absent → exec enable s = .next (s.replied enable 0xB3#8 [23#8])) ∧
    (r.state = .free ∨ r.state = .busy ∨ r.state = .out →
      enables ((s.replied enable 0xB3#8 [0#8]).laneBecomes l { r with history := [] })) ∧
    (r.state = .lockedOut →
      enables ((s.replied enable 0xB3#8 [0#8]).laneBecomes l
        { r with state := if r.fltInput = true then .out else .free, history := [], lockout := false }))

/-! ### Movers, pressure loop, filter watch -/

/-- The update of a mover, by its state: an OFF mover with a demand starts, a RUNNING one ramps, stops at duty and
demand 0 or is judged for a stall, a STALLED or FAILED one stays at duty 0. That the update which starts a mover
is not judged for a stall is the model's reading (assumption 29). -/
def Obligations.MoverUpdates : Prop :=
  ∀ (m : MoverIx) (s : State), s.part.state ≠ .init → s.mov.movers[m].update.isSome = true →
    let r : Mover := { s.mov.movers[m] with update := some (s.now + 100000) }
    let limit := max 1 (r.settings.rampRate / 10)
    let duty := if r.duty < r.demand then r.duty + min limit (r.demand - r.duty) else r.duty - min limit (r.duty - r.demand)
    let stalls : Prop := s.part.state = .run ∧ s.bound (.pwm m) = true ∧ s.bound (.tach m) = true ∧
      r.settings.minStallDuty ≤ duty ∧ r.speed < r.settings.stallSpeed
    let becomes (r' : Mover) : Prop :=
      exec (.moverUpdate m) s = .next { s with mov := { s.mov with movers := s.mov.movers.set m r' } }
    (r.state = .off → r.demand = 0 → becomes r) ∧
    (r.state = .off → 0 < r.demand → becomes
      { r with state := .running, retry := 0, cleanRun := some (s.now + 60000000), duty := min limit r.demand }) ∧
    (r.state = .running → duty = 0 → r.demand = 0 → becomes
      { r with state := .off, duty := 0, stall := none, cleanRun := none, retry := 0 }) ∧
    (r.state = .running → ¬ (duty = 0 ∧ r.demand = 0) → becomes
      { r with
        duty := duty
        stall := if stalls then some (r.stall.getD (s.now + r.settings.stallTime * 1000)) else none }) ∧
    (r.state = .stalled ∨ r.state = .failed → becomes { r with duty := 0 })

/-- The speed measurement: an active edge of a bound TACH gives the speed that its interval measures, and a change of
speed is judged against the stall condition; the edge timer's expiry gives speed 0. An interval of 0 leaves the
speed a free value (assumption 8). That an edge which leaves the speed as it was is not judged is its reading
(assumption 29). -/
def Obligations.FanSpeeds : Prop :=
  ∀ (m : MoverIx) (s : State), s.part.state ≠ .init →
    let r := s.mov.movers[m]
    let u : State := { s with handed := s.handed.erase (.tachEdge m) }
    let watched : Prop := s.part.state = .run ∧ s.bound (.pwm m) = true ∧ s.bound (.tach m) = true
    let measured (v : Nat) : Mover :=
      { r with
        speed := v
        stall := if v = r.speed then r.stall
          else if watched ∧ r.state = .running ∧ r.settings.minStallDuty ≤ r.duty ∧ v < r.settings.stallSpeed then
            some (r.stall.getD (s.now + r.settings.stallTime * 1000))
          else none }
    let edge (r' : Mover) : Mover := { r' with lastEdge := some s.now, edge := some (s.now + 500000) }
    let answers (t : State) (r' : Mover) : State := { t with mov := { s.mov with movers := s.mov.movers.set m r' } }
    (s.bound (.tach m) = false → exec (.tachEdge m) s = .next u) ∧
    (s.bound (.tach m) = true → r.lastEdge = none → exec (.tachEdge m) s = .next (answers u (edge r))) ∧
    (s.bound (.tach m) = true → ∀ t ∈ r.lastEdge,
      (t < s.now → exec (.tachEdge m) s =
        .next (answers u (edge (measured (min 65535 (30000000 / (s.now - t))))))) ∧
      (s.now ≤ t → ∃ w, exec (.tachEdge m) s = .next w ∧
        w = { u with free := s.free + 1, mov := { s.mov with movers := s.mov.movers.set m w.mov.movers[m] } } ∧
        w.mov.movers[m] = edge (measured w.mov.movers[m].speed))) ∧
    (r.edge.isSome = true → exec (.edgeTimerExpiry m) s =
      .next (answers s { measured 0 with edge := none, lastEdge := none }))

/-- The stall, restart and clean-run expiries, MOVER_RESTART and SET_MOVER. -/
def Obligations.MoverTimersAndRequests : Prop :=
  ∀ (m : MoverIx) (index rampRate minStallDuty retries : Byte) (stallSpeed stallTime restartDelay : Half) (s : State),
    s.part.state ≠ .init →
    let r := s.mov.movers[m]
    let becomes (t : State) (r' : Mover) : State := { t with mov := { s.mov with movers := s.mov.movers.set m r' } }
    let again : Mover := { r with retry := r.retry + 1, restart := none, duty := 0 }
    let restart : Instr := .moverRestart (BitVec.ofNat 8 m.val)
    let set : Instr :=
      .setMover (BitVec.ofNat 8 m.val) rampRate stallSpeed stallTime minStallDuty restartDelay retries
    let settings : MoverSettings :=
      ⟨max 1 (min 100 rampRate.toNat), min 10000 stallSpeed.toNat, max 500 (min 10000 stallTime.toNat),
        min 100 minStallDuty.toNat, max 1000 (min 60000 restartDelay.toNat), min 15 retries.toNat⟩
    let sent : MoverSettings :=
      ⟨rampRate.toNat, stallSpeed.toNat, stallTime.toNat, minStallDuty.toNat, restartDelay.toNat, retries.toNat⟩
    (r.stall.isSome = true → exec (.stallTimerExpiry m) s = .next (becomes s
      { r with
        state := .stalled, duty := 0, stall := none, cleanRun := none
        restart := some (s.now + r.settings.restartDelay * 1000) })) ∧
    (r.restart.isSome = true →
      (r.settings.retries < r.retry + 1 → exec (.restartTimerExpiry m) s =
        .next { becomes s { again with state := .failed } with atn := s.atn.raise asMover (m.val + 256) }) ∧
      (r.retry + 1 ≤ r.settings.retries → exec (.restartTimerExpiry m) s = .next (becomes s
        { again with state := .running, stall := none, cleanRun := some (s.now + 60000000) }))) ∧
    (r.cleanRun.isSome = true →
      exec (.cleanRunTimerExpiry m) s = .next (becomes s { r with retry := 0, cleanRun := none })) ∧
    (2 < index.toNat → exec (.moverRestart index) s = .next (s.replied (.moverRestart index) 0xBA#8 [19#8])) ∧
    (r.state = .failed → exec restart s = .next (becomes (s.replied restart 0xBA#8 [0#8])
      { r with state := .off, retry := 0, duty := 0, stall := none, restart := none, cleanRun := none })) ∧
    (r.state ≠ .failed → exec restart s = .next (s.replied restart 0xBA#8 [20#8])) ∧
    (2 < index.toNat →
      exec (.setMover index rampRate stallSpeed stallTime minStallDuty restartDelay retries) s =
        .next (s.replied (.setMover index rampRate stallSpeed stallTime minStallDuty restartDelay retries)
          0xB8#8 [19#8])) ∧
    exec set s = .next (becomes (s.replied set 0xB8#8 [if settings = sent then 0#8 else 1#8])
      { r with settings := settings })

/-- The demands: each blower takes the larger of its group demand and the purge demand, PRESS what the admission
picture, the loop and the breach duty give; an admission report also judges the loop phase, whose changes are those
of the manual's list. SET_PRESSURE stores the clamped settings and forms the PRESS demand again. -/
def Obligations.MoverDemands : Prop :=
  ∀ (n : Nat) (p : Picture) (gain breachDuty : Byte) (target filterLimit : Half) (s : State), s.part.state ≠ .init →
    let purge (q : Picture) : Nat := if q.purge = none then 0 else 100
    let demanded (m : MoverIx) (d : Nat) : Vector Mover 3 :=
      s.mov.movers.set m { s.mov.movers[m] with demand := d }
    let run : Prop := s.part.state = .run
    let l := s.mov.loop
    let loop : Loop := l.phased s.now run s.adm.settings.pressFraction p
    let set : Instr := .setPressure target gain breachDuty filterLimit
    let settings : PressureSettings :=
      ⟨min 1000 target.toNat, gain.toNat, min 100 breachDuty.toNat, max 1 (min 999 filterLimit.toNat)⟩
    let sent : PressureSettings := ⟨target.toNat, gain.toNat, breachDuty.toNat, filterLimit.toNat⟩
    exec (.groupDemandChange .front n) s =
      .next { s with
        handed := s.handed.erase (.groupDemandChange .front n)
        mov := { s.mov with front := n, movers := demanded 0 (max n (purge s.mov.picture)) } } ∧
    exec (.groupDemandChange .rear n) s =
      .next { s with
        handed := s.handed.erase (.groupDemandChange .rear n)
        mov := { s.mov with rear := n, movers := demanded 1 (max n (purge s.mov.picture)) } } ∧
    (∃ t, exec (.admissionReport p) s = .next t ∧
      t = { s with handed := s.handed.erase (.admissionReport p), mov := t.mov } ∧
      t.mov = { s.mov with picture := p, loop := loop, movers := t.mov.movers } ∧
      t.mov.movers[0] = { s.mov.movers[0] with demand := max s.mov.front (purge p) } ∧
      t.mov.movers[1] = { s.mov.movers[1] with demand := max s.mov.rear (purge p) } ∧
      t.mov.movers[2] = { s.mov.movers[2] with demand := pressCases run p loop.duty s.mov.pressure.breachDuty }) ∧
    exec set s =
      .next { s.replied set 0xB9#8 [if settings = sent then 0#8 else 1#8] with
        mov := { s.mov with
          pressure := settings
          movers := demanded 2 (pressCases run s.mov.picture l.duty settings.breachDuty) } }

/-- The pressure loop's update, the pressure-lost watch and the filter watch. That the details carry the values of the
latest SC13 and SC14 reports that MOV has taken, and that a loop update judges the pressure-lost condition after its step, by
the new duty, are the model's readings (assumptions 31, 47). -/
def Obligations.PressureLoopAndFilter : Prop :=
  ∀ (status : Status) (value : Int) (s : State), s.part.state ≠ .init →
    let l := s.mov.loop
    let c := s.mov.pressure
    let usable : Prop := s.sns.channels[13].state = .valid ∨ s.sns.channels[13].state = .forced
    let cpd := s.sns.channels[13].value
    let err := max (-2000) (min 2000 ((c.target : Int) - cpd))
    let duty := if usable then
      (max 0 (min 100 ((l.duty : Int) + max (-5) (min 5 (rha (err * c.gain) 256))))).toNat else l.duty
    let lost (duty : Nat) (ok : Prop) [Decidable ok] (v : Int) : Option Time :=
      if l.phase = .running ∧ l.lostFlag = false ∧ 95 ≤ duty ∧ ok ∧ 2 * v < c.target then
        some (l.lost.getD (s.now + 30000000))
      else none
    let f := s.mov.filter
    let loaded : Prop := status = .usable ∧ (c.filterLimit : Int) ≤ value
    let filter : Filter :=
      match f.phase with
      | .armed => if loaded then ⟨.timing, some (s.now + 10000000)⟩ else f
      | .timing => if loaded then f else ⟨.armed, none⟩
      | .raised => if status = .usable ∧ ¬ loaded ∧ 10 * value < 9 * (c.filterLimit : Int) then ⟨.armed, none⟩ else f
    (l.update.isSome = true → exec .loopUpdate s =
      .next { s with
        mov := { s.mov with
          loop := { l with
            duty := duty, lastError := if usable then err else l.lastError, update := some (s.now + 500000)
            lost := lost duty usable cpd }
          movers := s.mov.movers.set 2
            { s.mov.movers[2] with
              demand := pressCases (s.part.state = .run) s.mov.picture duty c.breachDuty } } }) ∧
    exec (.cpdReport status value) s =
      .next { s with
        handed := s.handed.erase (.cpdReport status value)
        mov := { s.mov with cpd := value, loop := { l with lost := lost l.duty (status = .usable) value } } } ∧
    (l.lost.isSome = true → exec .pressureLostExpiry s =
      .next { s with
        mov := { s.mov with loop := { l with lost := none, lostFlag := true } }
        atn := s.atn.raise asPressure (s.mov.cpd % 65536).toNat }) ∧
    exec (.fpdReport status value) s =
      .next { s with handed := s.handed.erase (.fpdReport status value), mov := { s.mov with fpd := value, filter := filter } } ∧
    (f.timer.isSome = true → exec .filterTimerExpiry s =
      .next { s with
        mov := { s.mov with filter := ⟨.raised, none⟩ }
        atn := s.atn.raise asFilter (s.mov.fpd % 65536).toNat })

/-! ### Heat -/

/-- A heat demand handed by ZON and a report of SC1: HEU records what it carries, then judges the valve, the aux demand
and the release timers. That an OPEN valve whose hold has run out closes at any judgement with the coolant usable, a
heat demand's too, is the model's reading (assumption 38). -/
def Obligations.HeatInputs : Prop :=
  ∀ (percent : Nat) (status : Status) (value : Int) (s : State), s.part.state ≠ .init →
    let run : Bool := decide (s.part.state = .run)
    exec (.heatDemandChange percent) s =
      .next { s with
        handed := s.handed.erase (.heatDemandChange percent)
        heu := ({ s.heu with demand := percent } : Heu).judged s.now run } ∧
    exec (.cltReport status value) s =
      .next { s with
        handed := s.handed.erase (.cltReport status value)
        heu := ({ s.heu with cltStatus := status, clt := value } : Heu).judged s.now run }

/-- The flame and the expiries of HEU: flame proof, flame loss, ignition timeout, the end of the cooldown with its lock,
the releases, and the end of the valve hold. That AUX_FLAME acts by the level that it carries, where that is no change
too, is the model's choice (assumption 45). -/
def Obligations.HeaterEvents : Prop :=
  ∀ (b : Bool) (s : State), s.part.state ≠ .init →
    let h : Heu := s.heu
    let r := h.heater
    let lit : Heater := { r with flame := b }
    let u : State := { s with handed := s.handed.erase (.auxFlameChange b) }
    let run : Bool := decide (s.part.state = .run)
    let becomes (t : State) (r' : Heater) : State := { t with heu := { h with heater := r' } }
    let told (t : State) (reason : Nat) : State := { t with atn := s.atn.raise asHeater (256 * reason) }
    (b = true → r.state = .prestart → exec (.auxFlameChange b) s = .next (becomes u
      (h.releaseJudged { lit with state := .running, attempts := 0, ignition := none } s.now))) ∧
    (b = false → r.state = .running → exec (.auxFlameChange b) s =
      .next (told (becomes u { h.cooling s.now true with flame := b }) 2)) ∧
    ((b = true → r.state ≠ .prestart) → (b = false → r.state ≠ .running) →
      exec (.auxFlameChange b) s = .next (becomes u lit)) ∧
    (r.ignition.isSome = true → exec .ignitionTimerExpiry s = .next (told (becomes s (h.cooling s.now false)) 1)) ∧
    (r.coolantRelease.isSome = true → exec .coolantReleaseExpiry s = .next (becomes s (h.cooling s.now false))) ∧
    (r.demandRelease.isSome = true → exec .demandReleaseExpiry s = .next (becomes s (h.cooling s.now false))) ∧
    (r.cooldown.isSome = true → r.state = .cooldown →
      let ended : Heater := { r with auxDemand := h.calls run, cooldown := none, restart := false }
      (2 ≤ r.attempts → exec .cooldownTimerExpiry s = .next (told (becomes s { ended with state := .locked }) 3)) ∧
      (r.attempts < 2 → h.calls run = true → exec .cooldownTimerExpiry s = .next (becomes s
        { ended with
          state := .prestart, attempts := r.attempts + 1, ignition := some (s.now + 1000000 * h.settings.ignition) })) ∧
      (r.attempts < 2 → h.calls run = false →
        exec .cooldownTimerExpiry s = .next (becomes s { ended with state := .off }))) ∧
    ((match h.valveHold with | .running _ => true | .stopped => false | .expired => false) = true →
      exec .valveHoldTimerExpiry s =
        .next { s with heu :=
          if h.cltStatus = .usable then { h with valveOpen := false, valveHold := .stopped }
          else { h with valveHold := .expired } })

/-- SET_HEAT clamps, refuses a release demand not below the aux start demand and a coolant target not above the coolant
minimum, and judges everything afresh, where an OPEN valve whose hold has run out closes with the coolant usable, the
model's reading (assumption 38); AUX_INHIBIT and AUX_CLEAR_LOCK act by the state of the heater. -/
def Obligations.HeatRequests : Prop :=
  ∀ (auxStart release flag : Byte) (coolantMin valveHold coolantTarget releaseHold ignition cooldown : Half) (s : State),
    s.part.state ≠ .init →
    let h : Heu := s.heu
    let r := h.heater
    let run : Bool := decide (s.part.state = .run)
    let set : Instr := .setHeat coolantMin valveHold auxStart release coolantTarget releaseHold ignition cooldown
    let settings : HeatSettings :=
      ⟨max 300 (min 900 coolantMin.toNat), max 5 (min 600 valveHold.toNat), max 1 (min 100 auxStart.toNat),
        min 99 release.toNat, max 300 (min 1000 coolantTarget.toNat), max 10 (min 600 releaseHold.toNat),
        max 10 (min 300 ignition.toNat), max 30 (min 600 cooldown.toNat)⟩
    let sent : HeatSettings :=
      ⟨coolantMin.toNat, valveHold.toNat, auxStart.toNat, release.toNat, coolantTarget.toNat, releaseHold.toNat,
        ignition.toNat, cooldown.toNat⟩
    let refused : Prop := settings.auxStart ≤ settings.release ∨ settings.coolantTarget ≤ settings.coolantMin
    let inhibit : Instr := .auxInhibit flag
    let ok (c : Instr) (kind : Byte) (r' : Heater) : State :=
      { s.replied c kind [0#8] with heu := { h with heater := r' } }
    (refused → exec set s = .next (s.replied set 0xC0#8 [19#8])) ∧
    (¬ refused → exec set s =
      .next { s.replied set 0xC0#8 [if settings = sent then 0#8 else 1#8] with
        heu := ({ h with settings := settings } : Heu).judged s.now run }) ∧
    (1 < flag.toNat → exec inhibit s = .next (s.replied inhibit 0xC1#8 [19#8])) ∧
    (flag.toNat ≤ 1 → r.inhibit = decide (flag = 1#8) → exec inhibit s = .next (s.replied inhibit 0xC1#8 [0#8])) ∧
    (flag = 1#8 → r.inhibit = false →
      (r.state = .prestart ∨ r.state = .running → exec inhibit s =
        .next (ok inhibit 0xC1#8 { h.cooling s.now false with inhibit := true, auxDemand := false })) ∧
      (r.state = .cooldown → exec inhibit s =
        .next (ok inhibit 0xC1#8 { r with inhibit := true, auxDemand := false, restart := false })) ∧
      (r.state = .off ∨ r.state = .locked → exec inhibit s =
        .next (ok inhibit 0xC1#8 { r with inhibit := true, auxDemand := false }))) ∧
    (flag = 0#8 → r.inhibit = true → exec inhibit s =
      .next (ok inhibit 0xC1#8 (({ h with heater := { r with inhibit := false } } : Heu).auxJudged s.now run))) ∧
    (r.state = .locked → exec .auxClearLock s =
      .next (ok .auxClearLock 0xC2#8
        (({ h with heater := { r with state := .off, attempts := 0, restart := false } } : Heu).auxJudged s.now run))) ∧
    (r.state ≠ .locked → exec .auxClearLock s = .next (s.replied .auxClearLock 0xC2#8 [20#8]))

/-! ### Attention -/

/-- The sources that a raise, a collect, a clear or new levels leave, and the ATTN line judged by them: asserted exactly
while a source of level 1 or more is pending. -/
def Sys2Proof.Machine.State.sourcesBecome (s : State) (v : Vector Source 16) : State :=
  { s with atn := { s.atn with
      sources := v
      attn := (List.finRange 16).any fun i => v[i].pending && decide (1 ≤ v[i].level) } }

/-- COLLECT takes the pending source of the highest level, the earliest of those in table order; CLEAR clears the named
sources and ASSERT raises them; SET_LEVELS replaces the levels, or refuses them all; a raise counts up to 15 and keeps
the latest detail. -/
def Obligations.Attention : Prop :=
  ∀ (i : SourceIx) (detail : Nat) (mask : Half) (levels : Vector Byte 16) (s : State), s.part.state ≠ .init →
    let src := s.atn.sources
    let cleared (r : Source) : Source := { r with pending := false, count := 0 }
    let raised (r : Source) (n : Nat) : Source := { r with pending := true, count := min 15 (r.count + 1), detail := n }
    let chosen : Prop := src[i].pending = true ∧ ∀ j : SourceIx, src[j].pending = true →
      src[j].level < src[i].level ∨ src[j].level = src[i].level ∧ i.val ≤ j.val
    let none : Prop := ∀ j : SourceIx, src[j].pending = false
    let high : Prop := ∃ j : SourceIx, 3 < levels[j].toNat
    s.raise i detail = s.sourcesBecome (src.set i (raised src[i] detail)) ∧
    (chosen → exec .collect s =
      .next ((s.replied .collect 0xC9#8
        [0#8, BitVec.ofNat 8 i.val, BitVec.ofNat 8 src[i].level, BitVec.ofNat 8 src[i].count,
          BitVec.ofNat 8 src[i].detail, BitVec.ofNat 8 (src[i].detail / 256)]).sourcesBecome (src.set i (cleared src[i])))) ∧
    (none → exec .collect s = .next (s.replied .collect 0xC9#8 [0#8, 255#8, 0#8, 0#8, 0#8, 0#8])) ∧
    exec (.clearSources mask) s =
      .next ((s.replied (.clearSources mask) 0xCA#8 [0#8]).sourcesBecome
        (Vector.ofFn fun j => if mask.getLsbD j.val then cleared src[j] else src[j])) ∧
    (mask ≠ 0#16 → exec (.assertSources mask) s =
      .next ((s.replied (.assertSources mask) 0xCB#8 [0#8]).sourcesBecome
        (Vector.ofFn fun j => if mask.getLsbD j.val then raised src[j] 0 else src[j]))) ∧
    exec (.assertSources 0#16) s = .next (s.replied (.assertSources 0#16) 0xCB#8 [0#8]) ∧
    (¬ high → exec (.setLevels levels) s =
      .next ((s.replied (.setLevels levels) 0xC8#8 [0#8]).sourcesBecome
        (Vector.ofFn fun j => { src[j] with level := levels[j].toNat }))) ∧
    (high → exec (.setLevels levels) s = .next (s.replied (.setLevels levels) 0xC8#8 [19#8]))
end

