-- ==== Sys2Proof/Laws/State.lean ====
section
/-! SUPPORT. What each update of the state leaves in each field: one lemma for each field of each update, true by
unfolding, so that no later proof unfolds a record update. -/

namespace Sys2Proof.Machine

variable (s : State)

@[simp] theorem State.hand_pending (c : Instr) : (s.hand c).pending = s.pending := rfl
@[simp] theorem State.hand_handed (c : Instr) : (s.hand c).handed = s.handed ++ [c] := rfl
@[simp] theorem State.hand_now (c : Instr) : (s.hand c).now = s.now := rfl
@[simp] theorem State.hand_free (c : Instr) : (s.hand c).free = s.free := rfl
@[simp] theorem State.hand_blockOrder (c : Instr) : (s.hand c).blockOrder = s.blockOrder := rfl
@[simp] theorem State.hand_sns (c : Instr) : (s.hand c).sns = s.sns := rfl
@[simp] theorem State.hand_asr (c : Instr) : (s.hand c).asr = s.asr := rfl
@[simp] theorem State.hand_adm (c : Instr) : (s.hand c).adm = s.adm := rfl
@[simp] theorem State.hand_zon (c : Instr) : (s.hand c).zon = s.zon := rfl
@[simp] theorem State.hand_ddr (c : Instr) : (s.hand c).ddr = s.ddr := rfl
@[simp] theorem State.hand_mov (c : Instr) : (s.hand c).mov = s.mov := rfl
@[simp] theorem State.hand_heu (c : Instr) : (s.hand c).heu = s.heu := rfl
@[simp] theorem State.hand_trm (c : Instr) : (s.hand c).trm = s.trm := rfl
@[simp] theorem State.hand_atn (c : Instr) : (s.hand c).atn = s.atn := rfl
@[simp] theorem State.hand_part (c : Instr) : (s.hand c).part = s.part := rfl
@[simp] theorem State.hand_link (c : Instr) : (s.hand c).link = s.link := rfl

@[simp] theorem State.handAll_pending (cs : List Instr) : (s.handAll cs).pending = s.pending := rfl
@[simp] theorem State.handAll_handed (cs : List Instr) : (s.handAll cs).handed = s.handed ++ cs := rfl
@[simp] theorem State.handAll_now (cs : List Instr) : (s.handAll cs).now = s.now := rfl
@[simp] theorem State.handAll_free (cs : List Instr) : (s.handAll cs).free = s.free := rfl
@[simp] theorem State.handAll_blockOrder (cs : List Instr) : (s.handAll cs).blockOrder = s.blockOrder := rfl
@[simp] theorem State.handAll_sns (cs : List Instr) : (s.handAll cs).sns = s.sns := rfl
@[simp] theorem State.handAll_asr (cs : List Instr) : (s.handAll cs).asr = s.asr := rfl
@[simp] theorem State.handAll_adm (cs : List Instr) : (s.handAll cs).adm = s.adm := rfl
@[simp] theorem State.handAll_zon (cs : List Instr) : (s.handAll cs).zon = s.zon := rfl
@[simp] theorem State.handAll_ddr (cs : List Instr) : (s.handAll cs).ddr = s.ddr := rfl
@[simp] theorem State.handAll_mov (cs : List Instr) : (s.handAll cs).mov = s.mov := rfl
@[simp] theorem State.handAll_heu (cs : List Instr) : (s.handAll cs).heu = s.heu := rfl
@[simp] theorem State.handAll_trm (cs : List Instr) : (s.handAll cs).trm = s.trm := rfl
@[simp] theorem State.handAll_atn (cs : List Instr) : (s.handAll cs).atn = s.atn := rfl
@[simp] theorem State.handAll_part (cs : List Instr) : (s.handAll cs).part = s.part := rfl
@[simp] theorem State.handAll_link (cs : List Instr) : (s.handAll cs).link = s.link := rfl

@[simp] theorem State.strike_pending (c : Instr) : (s.strike c).pending = s.pending := rfl
@[simp] theorem State.strike_handed (c : Instr) : (s.strike c).handed = s.handed.erase c := rfl
@[simp] theorem State.strike_now (c : Instr) : (s.strike c).now = s.now := rfl
@[simp] theorem State.strike_free (c : Instr) : (s.strike c).free = s.free := rfl
@[simp] theorem State.strike_blockOrder (c : Instr) : (s.strike c).blockOrder = s.blockOrder := rfl
@[simp] theorem State.strike_sns (c : Instr) : (s.strike c).sns = s.sns := rfl
@[simp] theorem State.strike_asr (c : Instr) : (s.strike c).asr = s.asr := rfl
@[simp] theorem State.strike_adm (c : Instr) : (s.strike c).adm = s.adm := rfl
@[simp] theorem State.strike_zon (c : Instr) : (s.strike c).zon = s.zon := rfl
@[simp] theorem State.strike_ddr (c : Instr) : (s.strike c).ddr = s.ddr := rfl
@[simp] theorem State.strike_mov (c : Instr) : (s.strike c).mov = s.mov := rfl
@[simp] theorem State.strike_heu (c : Instr) : (s.strike c).heu = s.heu := rfl
@[simp] theorem State.strike_trm (c : Instr) : (s.strike c).trm = s.trm := rfl
@[simp] theorem State.strike_atn (c : Instr) : (s.strike c).atn = s.atn := rfl
@[simp] theorem State.strike_part (c : Instr) : (s.strike c).part = s.part := rfl
@[simp] theorem State.strike_link (c : Instr) : (s.strike c).link = s.link := rfl

@[simp] theorem State.spendFree_pending (n : Nat) : (s.spendFree n).pending = s.pending := rfl
@[simp] theorem State.spendFree_handed (n : Nat) : (s.spendFree n).handed = s.handed := rfl
@[simp] theorem State.spendFree_now (n : Nat) : (s.spendFree n).now = s.now := rfl
@[simp] theorem State.spendFree_free (n : Nat) : (s.spendFree n).free = s.free + n := rfl
@[simp] theorem State.spendFree_blockOrder (n : Nat) : (s.spendFree n).blockOrder = s.blockOrder := rfl
@[simp] theorem State.spendFree_sns (n : Nat) : (s.spendFree n).sns = s.sns := rfl
@[simp] theorem State.spendFree_asr (n : Nat) : (s.spendFree n).asr = s.asr := rfl
@[simp] theorem State.spendFree_adm (n : Nat) : (s.spendFree n).adm = s.adm := rfl
@[simp] theorem State.spendFree_zon (n : Nat) : (s.spendFree n).zon = s.zon := rfl
@[simp] theorem State.spendFree_ddr (n : Nat) : (s.spendFree n).ddr = s.ddr := rfl
@[simp] theorem State.spendFree_mov (n : Nat) : (s.spendFree n).mov = s.mov := rfl
@[simp] theorem State.spendFree_heu (n : Nat) : (s.spendFree n).heu = s.heu := rfl
@[simp] theorem State.spendFree_trm (n : Nat) : (s.spendFree n).trm = s.trm := rfl
@[simp] theorem State.spendFree_atn (n : Nat) : (s.spendFree n).atn = s.atn := rfl
@[simp] theorem State.spendFree_part (n : Nat) : (s.spendFree n).part = s.part := rfl
@[simp] theorem State.spendFree_link (n : Nat) : (s.spendFree n).link = s.link := rfl

@[simp] theorem State.raise_pending (i : SourceIx) (n : Nat) : (s.raise i n).pending = s.pending := rfl
@[simp] theorem State.raise_handed (i : SourceIx) (n : Nat) : (s.raise i n).handed = s.handed := rfl
@[simp] theorem State.raise_now (i : SourceIx) (n : Nat) : (s.raise i n).now = s.now := rfl
@[simp] theorem State.raise_free (i : SourceIx) (n : Nat) : (s.raise i n).free = s.free := rfl
@[simp] theorem State.raise_blockOrder (i : SourceIx) (n : Nat) : (s.raise i n).blockOrder = s.blockOrder := rfl
@[simp] theorem State.raise_sns (i : SourceIx) (n : Nat) : (s.raise i n).sns = s.sns := rfl
@[simp] theorem State.raise_asr (i : SourceIx) (n : Nat) : (s.raise i n).asr = s.asr := rfl
@[simp] theorem State.raise_adm (i : SourceIx) (n : Nat) : (s.raise i n).adm = s.adm := rfl
@[simp] theorem State.raise_zon (i : SourceIx) (n : Nat) : (s.raise i n).zon = s.zon := rfl
@[simp] theorem State.raise_ddr (i : SourceIx) (n : Nat) : (s.raise i n).ddr = s.ddr := rfl
@[simp] theorem State.raise_mov (i : SourceIx) (n : Nat) : (s.raise i n).mov = s.mov := rfl
@[simp] theorem State.raise_heu (i : SourceIx) (n : Nat) : (s.raise i n).heu = s.heu := rfl
@[simp] theorem State.raise_trm (i : SourceIx) (n : Nat) : (s.raise i n).trm = s.trm := rfl
@[simp] theorem State.raise_atn (i : SourceIx) (n : Nat) : (s.raise i n).atn = s.atn.raise i n := rfl
@[simp] theorem State.raise_part (i : SourceIx) (n : Nat) : (s.raise i n).part = s.part := rfl
@[simp] theorem State.raise_link (i : SourceIx) (n : Nat) : (s.raise i n).link = s.link := rfl

@[simp] theorem State.judgeFault_pending : (s.judgeFault).pending = s.pending := rfl
@[simp] theorem State.judgeFault_handed : (s.judgeFault).handed = s.handed := rfl
@[simp] theorem State.judgeFault_now : (s.judgeFault).now = s.now := rfl
@[simp] theorem State.judgeFault_free : (s.judgeFault).free = s.free := rfl
@[simp] theorem State.judgeFault_blockOrder : (s.judgeFault).blockOrder = s.blockOrder := rfl
@[simp] theorem State.judgeFault_sns : (s.judgeFault).sns = s.sns := rfl
@[simp] theorem State.judgeFault_asr : (s.judgeFault).asr = s.asr := rfl
@[simp] theorem State.judgeFault_adm : (s.judgeFault).adm = s.adm := rfl
@[simp] theorem State.judgeFault_zon : (s.judgeFault).zon = s.zon := rfl
@[simp] theorem State.judgeFault_ddr : (s.judgeFault).ddr = s.ddr := rfl
@[simp] theorem State.judgeFault_mov : (s.judgeFault).mov = s.mov := rfl
@[simp] theorem State.judgeFault_heu : (s.judgeFault).heu = s.heu := rfl
@[simp] theorem State.judgeFault_trm : (s.judgeFault).trm = s.trm := rfl
@[simp] theorem State.judgeFault_atn : (s.judgeFault).atn = { s.atn with fault := s.adm.cabCo || s.adm.breathing || s.adm.sealImpaired } := rfl
@[simp] theorem State.judgeFault_part : (s.judgeFault).part = s.part := rfl
@[simp] theorem State.judgeFault_link : (s.judgeFault).link = s.link := rfl

@[simp] theorem State.sendReply_pending (k : Byte) (b : List Byte) : (s.sendReply k b).pending = s.pending := rfl
@[simp] theorem State.sendReply_handed (k : Byte) (b : List Byte) : (s.sendReply k b).handed = s.handed := rfl
@[simp] theorem State.sendReply_now (k : Byte) (b : List Byte) : (s.sendReply k b).now = s.now := rfl
@[simp] theorem State.sendReply_free (k : Byte) (b : List Byte) : (s.sendReply k b).free = s.free := rfl
@[simp] theorem State.sendReply_blockOrder (k : Byte) (b : List Byte) : (s.sendReply k b).blockOrder = s.blockOrder := rfl
@[simp] theorem State.sendReply_sns (k : Byte) (b : List Byte) : (s.sendReply k b).sns = s.sns := rfl
@[simp] theorem State.sendReply_asr (k : Byte) (b : List Byte) : (s.sendReply k b).asr = s.asr := rfl
@[simp] theorem State.sendReply_adm (k : Byte) (b : List Byte) : (s.sendReply k b).adm = s.adm := rfl
@[simp] theorem State.sendReply_zon (k : Byte) (b : List Byte) : (s.sendReply k b).zon = s.zon := rfl
@[simp] theorem State.sendReply_ddr (k : Byte) (b : List Byte) : (s.sendReply k b).ddr = s.ddr := rfl
@[simp] theorem State.sendReply_mov (k : Byte) (b : List Byte) : (s.sendReply k b).mov = s.mov := rfl
@[simp] theorem State.sendReply_heu (k : Byte) (b : List Byte) : (s.sendReply k b).heu = s.heu := rfl
@[simp] theorem State.sendReply_trm (k : Byte) (b : List Byte) : (s.sendReply k b).trm = s.trm := rfl
@[simp] theorem State.sendReply_atn (k : Byte) (b : List Byte) : (s.sendReply k b).atn = s.atn := rfl
@[simp] theorem State.sendReply_part (k : Byte) (b : List Byte) : (s.sendReply k b).part = s.part := rfl
@[simp] theorem State.sendReply_link (k : Byte) (b : List Byte) : (s.sendReply k b).link = { s.link with busy := true, reply := some ⟨replyKind k, b⟩ } := rfl

@[simp] theorem State.answer_pending (r : Req) (st : StatusCode) (b : List Byte) : (s.answer r st b).pending = s.pending := rfl
@[simp] theorem State.answer_handed (r : Req) (st : StatusCode) (b : List Byte) : (s.answer r st b).handed = s.handed := rfl
@[simp] theorem State.answer_now (r : Req) (st : StatusCode) (b : List Byte) : (s.answer r st b).now = s.now := rfl
@[simp] theorem State.answer_free (r : Req) (st : StatusCode) (b : List Byte) : (s.answer r st b).free = s.free := rfl
@[simp] theorem State.answer_blockOrder (r : Req) (st : StatusCode) (b : List Byte) : (s.answer r st b).blockOrder = s.blockOrder := rfl
@[simp] theorem State.answer_sns (r : Req) (st : StatusCode) (b : List Byte) : (s.answer r st b).sns = s.sns := rfl
@[simp] theorem State.answer_asr (r : Req) (st : StatusCode) (b : List Byte) : (s.answer r st b).asr = s.asr := rfl
@[simp] theorem State.answer_adm (r : Req) (st : StatusCode) (b : List Byte) : (s.answer r st b).adm = s.adm := rfl
@[simp] theorem State.answer_zon (r : Req) (st : StatusCode) (b : List Byte) : (s.answer r st b).zon = s.zon := rfl
@[simp] theorem State.answer_ddr (r : Req) (st : StatusCode) (b : List Byte) : (s.answer r st b).ddr = s.ddr := rfl
@[simp] theorem State.answer_mov (r : Req) (st : StatusCode) (b : List Byte) : (s.answer r st b).mov = s.mov := rfl
@[simp] theorem State.answer_heu (r : Req) (st : StatusCode) (b : List Byte) : (s.answer r st b).heu = s.heu := rfl
@[simp] theorem State.answer_trm (r : Req) (st : StatusCode) (b : List Byte) : (s.answer r st b).trm = s.trm := rfl
@[simp] theorem State.answer_atn (r : Req) (st : StatusCode) (b : List Byte) : (s.answer r st b).atn = s.atn := rfl
@[simp] theorem State.answer_part (r : Req) (st : StatusCode) (b : List Byte) : (s.answer r st b).part = s.part := rfl
@[simp] theorem State.answer_link (r : Req) (st : StatusCode) (b : List Byte) : (s.answer r st b).link = { s.link with busy := true, reply := some ⟨replyKind r.code, st.code :: b⟩ } := rfl

@[simp] theorem State.status_pending (r : Req) (st : StatusCode) : (s.status r st).pending = s.pending := rfl
@[simp] theorem State.status_handed (r : Req) (st : StatusCode) : (s.status r st).handed = s.handed := rfl
@[simp] theorem State.status_now (r : Req) (st : StatusCode) : (s.status r st).now = s.now := rfl
@[simp] theorem State.status_free (r : Req) (st : StatusCode) : (s.status r st).free = s.free := rfl
@[simp] theorem State.status_blockOrder (r : Req) (st : StatusCode) : (s.status r st).blockOrder = s.blockOrder := rfl
@[simp] theorem State.status_sns (r : Req) (st : StatusCode) : (s.status r st).sns = s.sns := rfl
@[simp] theorem State.status_asr (r : Req) (st : StatusCode) : (s.status r st).asr = s.asr := rfl
@[simp] theorem State.status_adm (r : Req) (st : StatusCode) : (s.status r st).adm = s.adm := rfl
@[simp] theorem State.status_zon (r : Req) (st : StatusCode) : (s.status r st).zon = s.zon := rfl
@[simp] theorem State.status_ddr (r : Req) (st : StatusCode) : (s.status r st).ddr = s.ddr := rfl
@[simp] theorem State.status_mov (r : Req) (st : StatusCode) : (s.status r st).mov = s.mov := rfl
@[simp] theorem State.status_heu (r : Req) (st : StatusCode) : (s.status r st).heu = s.heu := rfl
@[simp] theorem State.status_trm (r : Req) (st : StatusCode) : (s.status r st).trm = s.trm := rfl
@[simp] theorem State.status_atn (r : Req) (st : StatusCode) : (s.status r st).atn = s.atn := rfl
@[simp] theorem State.status_part (r : Req) (st : StatusCode) : (s.status r st).part = s.part := rfl
@[simp] theorem State.status_link (r : Req) (st : StatusCode) : (s.status r st).link = { s.link with busy := true, reply := some ⟨replyKind r.code, [st.code]⟩ } := rfl

@[simp] theorem State.putChannel_pending (ch : ChannelIx) (c : Channel) : (s.putChannel ch c).pending = s.pending := rfl
@[simp] theorem State.putChannel_handed (ch : ChannelIx) (c : Channel) : (s.putChannel ch c).handed = s.handed := rfl
@[simp] theorem State.putChannel_now (ch : ChannelIx) (c : Channel) : (s.putChannel ch c).now = s.now := rfl
@[simp] theorem State.putChannel_free (ch : ChannelIx) (c : Channel) : (s.putChannel ch c).free = s.free := rfl
@[simp] theorem State.putChannel_blockOrder (ch : ChannelIx) (c : Channel) : (s.putChannel ch c).blockOrder = s.blockOrder := rfl
@[simp] theorem State.putChannel_sns (ch : ChannelIx) (c : Channel) : (s.putChannel ch c).sns = { s.sns with channels := s.sns.channels.set ch c } := rfl
@[simp] theorem State.putChannel_asr (ch : ChannelIx) (c : Channel) : (s.putChannel ch c).asr = s.asr := rfl
@[simp] theorem State.putChannel_adm (ch : ChannelIx) (c : Channel) : (s.putChannel ch c).adm = s.adm := rfl
@[simp] theorem State.putChannel_zon (ch : ChannelIx) (c : Channel) : (s.putChannel ch c).zon = s.zon := rfl
@[simp] theorem State.putChannel_ddr (ch : ChannelIx) (c : Channel) : (s.putChannel ch c).ddr = s.ddr := rfl
@[simp] theorem State.putChannel_mov (ch : ChannelIx) (c : Channel) : (s.putChannel ch c).mov = s.mov := rfl
@[simp] theorem State.putChannel_heu (ch : ChannelIx) (c : Channel) : (s.putChannel ch c).heu = s.heu := rfl
@[simp] theorem State.putChannel_trm (ch : ChannelIx) (c : Channel) : (s.putChannel ch c).trm = s.trm := rfl
@[simp] theorem State.putChannel_atn (ch : ChannelIx) (c : Channel) : (s.putChannel ch c).atn = s.atn := rfl
@[simp] theorem State.putChannel_part (ch : ChannelIx) (c : Channel) : (s.putChannel ch c).part = s.part := rfl
@[simp] theorem State.putChannel_link (ch : ChannelIx) (c : Channel) : (s.putChannel ch c).link = s.link := rfl

@[simp] theorem State.putSlot_pending (i : SlotIx) (o : Option Override) : (s.putSlot i o).pending = s.pending := rfl
@[simp] theorem State.putSlot_handed (i : SlotIx) (o : Option Override) : (s.putSlot i o).handed = s.handed := rfl
@[simp] theorem State.putSlot_now (i : SlotIx) (o : Option Override) : (s.putSlot i o).now = s.now := rfl
@[simp] theorem State.putSlot_free (i : SlotIx) (o : Option Override) : (s.putSlot i o).free = s.free := rfl
@[simp] theorem State.putSlot_blockOrder (i : SlotIx) (o : Option Override) : (s.putSlot i o).blockOrder = s.blockOrder := rfl
@[simp] theorem State.putSlot_sns (i : SlotIx) (o : Option Override) : (s.putSlot i o).sns = { s.sns with slots := s.sns.slots.set i o } := rfl
@[simp] theorem State.putSlot_asr (i : SlotIx) (o : Option Override) : (s.putSlot i o).asr = s.asr := rfl
@[simp] theorem State.putSlot_adm (i : SlotIx) (o : Option Override) : (s.putSlot i o).adm = s.adm := rfl
@[simp] theorem State.putSlot_zon (i : SlotIx) (o : Option Override) : (s.putSlot i o).zon = s.zon := rfl
@[simp] theorem State.putSlot_ddr (i : SlotIx) (o : Option Override) : (s.putSlot i o).ddr = s.ddr := rfl
@[simp] theorem State.putSlot_mov (i : SlotIx) (o : Option Override) : (s.putSlot i o).mov = s.mov := rfl
@[simp] theorem State.putSlot_heu (i : SlotIx) (o : Option Override) : (s.putSlot i o).heu = s.heu := rfl
@[simp] theorem State.putSlot_trm (i : SlotIx) (o : Option Override) : (s.putSlot i o).trm = s.trm := rfl
@[simp] theorem State.putSlot_atn (i : SlotIx) (o : Option Override) : (s.putSlot i o).atn = s.atn := rfl
@[simp] theorem State.putSlot_part (i : SlotIx) (o : Option Override) : (s.putSlot i o).part = s.part := rfl
@[simp] theorem State.putSlot_link (i : SlotIx) (o : Option Override) : (s.putSlot i o).link = s.link := rfl

@[simp] theorem State.putAssessor_pending (a : AssessorIx) (r : Assessor) : (s.putAssessor a r).pending = s.pending := rfl
@[simp] theorem State.putAssessor_handed (a : AssessorIx) (r : Assessor) : (s.putAssessor a r).handed = s.handed := rfl
@[simp] theorem State.putAssessor_now (a : AssessorIx) (r : Assessor) : (s.putAssessor a r).now = s.now := rfl
@[simp] theorem State.putAssessor_free (a : AssessorIx) (r : Assessor) : (s.putAssessor a r).free = s.free := rfl
@[simp] theorem State.putAssessor_blockOrder (a : AssessorIx) (r : Assessor) : (s.putAssessor a r).blockOrder = s.blockOrder := rfl
@[simp] theorem State.putAssessor_sns (a : AssessorIx) (r : Assessor) : (s.putAssessor a r).sns = s.sns := rfl
@[simp] theorem State.putAssessor_asr (a : AssessorIx) (r : Assessor) : (s.putAssessor a r).asr = s.asr.set a r := rfl
@[simp] theorem State.putAssessor_adm (a : AssessorIx) (r : Assessor) : (s.putAssessor a r).adm = s.adm := rfl
@[simp] theorem State.putAssessor_zon (a : AssessorIx) (r : Assessor) : (s.putAssessor a r).zon = s.zon := rfl
@[simp] theorem State.putAssessor_ddr (a : AssessorIx) (r : Assessor) : (s.putAssessor a r).ddr = s.ddr := rfl
@[simp] theorem State.putAssessor_mov (a : AssessorIx) (r : Assessor) : (s.putAssessor a r).mov = s.mov := rfl
@[simp] theorem State.putAssessor_heu (a : AssessorIx) (r : Assessor) : (s.putAssessor a r).heu = s.heu := rfl
@[simp] theorem State.putAssessor_trm (a : AssessorIx) (r : Assessor) : (s.putAssessor a r).trm = s.trm := rfl
@[simp] theorem State.putAssessor_atn (a : AssessorIx) (r : Assessor) : (s.putAssessor a r).atn = s.atn := rfl
@[simp] theorem State.putAssessor_part (a : AssessorIx) (r : Assessor) : (s.putAssessor a r).part = s.part := rfl
@[simp] theorem State.putAssessor_link (a : AssessorIx) (r : Assessor) : (s.putAssessor a r).link = s.link := rfl

@[simp] theorem State.putZone_pending (z : ZoneIx) (r : Zone) : (s.putZone z r).pending = s.pending := rfl
@[simp] theorem State.putZone_handed (z : ZoneIx) (r : Zone) : (s.putZone z r).handed = s.handed := rfl
@[simp] theorem State.putZone_now (z : ZoneIx) (r : Zone) : (s.putZone z r).now = s.now := rfl
@[simp] theorem State.putZone_free (z : ZoneIx) (r : Zone) : (s.putZone z r).free = s.free := rfl
@[simp] theorem State.putZone_blockOrder (z : ZoneIx) (r : Zone) : (s.putZone z r).blockOrder = s.blockOrder := rfl
@[simp] theorem State.putZone_sns (z : ZoneIx) (r : Zone) : (s.putZone z r).sns = s.sns := rfl
@[simp] theorem State.putZone_asr (z : ZoneIx) (r : Zone) : (s.putZone z r).asr = s.asr := rfl
@[simp] theorem State.putZone_adm (z : ZoneIx) (r : Zone) : (s.putZone z r).adm = s.adm := rfl
@[simp] theorem State.putZone_zon (z : ZoneIx) (r : Zone) : (s.putZone z r).zon = { s.zon with zones := s.zon.zones.set z r } := rfl
@[simp] theorem State.putZone_ddr (z : ZoneIx) (r : Zone) : (s.putZone z r).ddr = s.ddr := rfl
@[simp] theorem State.putZone_mov (z : ZoneIx) (r : Zone) : (s.putZone z r).mov = s.mov := rfl
@[simp] theorem State.putZone_heu (z : ZoneIx) (r : Zone) : (s.putZone z r).heu = s.heu := rfl
@[simp] theorem State.putZone_trm (z : ZoneIx) (r : Zone) : (s.putZone z r).trm = s.trm := rfl
@[simp] theorem State.putZone_atn (z : ZoneIx) (r : Zone) : (s.putZone z r).atn = s.atn := rfl
@[simp] theorem State.putZone_part (z : ZoneIx) (r : Zone) : (s.putZone z r).part = s.part := rfl
@[simp] theorem State.putZone_link (z : ZoneIx) (r : Zone) : (s.putZone z r).link = s.link := rfl

@[simp] theorem State.putMover_pending (m : MoverIx) (r : Mover) : (s.putMover m r).pending = s.pending := rfl
@[simp] theorem State.putMover_handed (m : MoverIx) (r : Mover) : (s.putMover m r).handed = s.handed := rfl
@[simp] theorem State.putMover_now (m : MoverIx) (r : Mover) : (s.putMover m r).now = s.now := rfl
@[simp] theorem State.putMover_free (m : MoverIx) (r : Mover) : (s.putMover m r).free = s.free := rfl
@[simp] theorem State.putMover_blockOrder (m : MoverIx) (r : Mover) : (s.putMover m r).blockOrder = s.blockOrder := rfl
@[simp] theorem State.putMover_sns (m : MoverIx) (r : Mover) : (s.putMover m r).sns = s.sns := rfl
@[simp] theorem State.putMover_asr (m : MoverIx) (r : Mover) : (s.putMover m r).asr = s.asr := rfl
@[simp] theorem State.putMover_adm (m : MoverIx) (r : Mover) : (s.putMover m r).adm = s.adm := rfl
@[simp] theorem State.putMover_zon (m : MoverIx) (r : Mover) : (s.putMover m r).zon = s.zon := rfl
@[simp] theorem State.putMover_ddr (m : MoverIx) (r : Mover) : (s.putMover m r).ddr = s.ddr := rfl
@[simp] theorem State.putMover_mov (m : MoverIx) (r : Mover) : (s.putMover m r).mov = { s.mov with movers := s.mov.movers.set m r } := rfl
@[simp] theorem State.putMover_heu (m : MoverIx) (r : Mover) : (s.putMover m r).heu = s.heu := rfl
@[simp] theorem State.putMover_trm (m : MoverIx) (r : Mover) : (s.putMover m r).trm = s.trm := rfl
@[simp] theorem State.putMover_atn (m : MoverIx) (r : Mover) : (s.putMover m r).atn = s.atn := rfl
@[simp] theorem State.putMover_part (m : MoverIx) (r : Mover) : (s.putMover m r).part = s.part := rfl
@[simp] theorem State.putMover_link (m : MoverIx) (r : Mover) : (s.putMover m r).link = s.link := rfl

@[simp] theorem State.setDemand_pending (m : MoverIx) (n : Nat) : (s.setDemand m n).pending = s.pending := rfl
@[simp] theorem State.setDemand_handed (m : MoverIx) (n : Nat) : (s.setDemand m n).handed = s.handed := rfl
@[simp] theorem State.setDemand_now (m : MoverIx) (n : Nat) : (s.setDemand m n).now = s.now := rfl
@[simp] theorem State.setDemand_free (m : MoverIx) (n : Nat) : (s.setDemand m n).free = s.free := rfl
@[simp] theorem State.setDemand_blockOrder (m : MoverIx) (n : Nat) : (s.setDemand m n).blockOrder = s.blockOrder := rfl
@[simp] theorem State.setDemand_sns (m : MoverIx) (n : Nat) : (s.setDemand m n).sns = s.sns := rfl
@[simp] theorem State.setDemand_asr (m : MoverIx) (n : Nat) : (s.setDemand m n).asr = s.asr := rfl
@[simp] theorem State.setDemand_adm (m : MoverIx) (n : Nat) : (s.setDemand m n).adm = s.adm := rfl
@[simp] theorem State.setDemand_zon (m : MoverIx) (n : Nat) : (s.setDemand m n).zon = s.zon := rfl
@[simp] theorem State.setDemand_ddr (m : MoverIx) (n : Nat) : (s.setDemand m n).ddr = s.ddr := rfl
@[simp] theorem State.setDemand_mov (m : MoverIx) (n : Nat) : (s.setDemand m n).mov = { s.mov with movers := s.mov.movers.set m { s.mov.movers[m] with demand := n } } := rfl
@[simp] theorem State.setDemand_heu (m : MoverIx) (n : Nat) : (s.setDemand m n).heu = s.heu := rfl
@[simp] theorem State.setDemand_trm (m : MoverIx) (n : Nat) : (s.setDemand m n).trm = s.trm := rfl
@[simp] theorem State.setDemand_atn (m : MoverIx) (n : Nat) : (s.setDemand m n).atn = s.atn := rfl
@[simp] theorem State.setDemand_part (m : MoverIx) (n : Nat) : (s.setDemand m n).part = s.part := rfl
@[simp] theorem State.setDemand_link (m : MoverIx) (n : Nat) : (s.setDemand m n).link = s.link := rfl

@[simp] theorem State.putLoop_pending (l : Loop) : (s.putLoop l).pending = s.pending := rfl
@[simp] theorem State.putLoop_handed (l : Loop) : (s.putLoop l).handed = s.handed := rfl
@[simp] theorem State.putLoop_now (l : Loop) : (s.putLoop l).now = s.now := rfl
@[simp] theorem State.putLoop_free (l : Loop) : (s.putLoop l).free = s.free := rfl
@[simp] theorem State.putLoop_blockOrder (l : Loop) : (s.putLoop l).blockOrder = s.blockOrder := rfl
@[simp] theorem State.putLoop_sns (l : Loop) : (s.putLoop l).sns = s.sns := rfl
@[simp] theorem State.putLoop_asr (l : Loop) : (s.putLoop l).asr = s.asr := rfl
@[simp] theorem State.putLoop_adm (l : Loop) : (s.putLoop l).adm = s.adm := rfl
@[simp] theorem State.putLoop_zon (l : Loop) : (s.putLoop l).zon = s.zon := rfl
@[simp] theorem State.putLoop_ddr (l : Loop) : (s.putLoop l).ddr = s.ddr := rfl
@[simp] theorem State.putLoop_mov (l : Loop) : (s.putLoop l).mov = { s.mov with loop := l } := rfl
@[simp] theorem State.putLoop_heu (l : Loop) : (s.putLoop l).heu = s.heu := rfl
@[simp] theorem State.putLoop_trm (l : Loop) : (s.putLoop l).trm = s.trm := rfl
@[simp] theorem State.putLoop_atn (l : Loop) : (s.putLoop l).atn = s.atn := rfl
@[simp] theorem State.putLoop_part (l : Loop) : (s.putLoop l).part = s.part := rfl
@[simp] theorem State.putLoop_link (l : Loop) : (s.putLoop l).link = s.link := rfl

@[simp] theorem State.judgePhase_pending : (s.judgePhase).pending = s.pending := rfl
@[simp] theorem State.judgePhase_handed : (s.judgePhase).handed = s.handed := rfl
@[simp] theorem State.judgePhase_now : (s.judgePhase).now = s.now := rfl
@[simp] theorem State.judgePhase_free : (s.judgePhase).free = s.free := rfl
@[simp] theorem State.judgePhase_blockOrder : (s.judgePhase).blockOrder = s.blockOrder := rfl
@[simp] theorem State.judgePhase_sns : (s.judgePhase).sns = s.sns := rfl
@[simp] theorem State.judgePhase_asr : (s.judgePhase).asr = s.asr := rfl
@[simp] theorem State.judgePhase_adm : (s.judgePhase).adm = s.adm := rfl
@[simp] theorem State.judgePhase_zon : (s.judgePhase).zon = s.zon := rfl
@[simp] theorem State.judgePhase_ddr : (s.judgePhase).ddr = s.ddr := rfl
@[simp] theorem State.judgePhase_mov : (s.judgePhase).mov = { s.mov with
      loop := s.mov.loop.enter s.now s.adm.settings.pressFraction (phaseOf s.inRun s.mov.picture) } := rfl
@[simp] theorem State.judgePhase_heu : (s.judgePhase).heu = s.heu := rfl
@[simp] theorem State.judgePhase_trm : (s.judgePhase).trm = s.trm := rfl
@[simp] theorem State.judgePhase_atn : (s.judgePhase).atn = s.atn := rfl
@[simp] theorem State.judgePhase_part : (s.judgePhase).part = s.part := rfl
@[simp] theorem State.judgePhase_link : (s.judgePhase).link = s.link := rfl

@[simp] theorem State.putHeu_pending (h : Heu) : (s.putHeu h).pending = s.pending := rfl
@[simp] theorem State.putHeu_handed (h : Heu) : (s.putHeu h).handed = s.handed := rfl
@[simp] theorem State.putHeu_now (h : Heu) : (s.putHeu h).now = s.now := rfl
@[simp] theorem State.putHeu_free (h : Heu) : (s.putHeu h).free = s.free := rfl
@[simp] theorem State.putHeu_blockOrder (h : Heu) : (s.putHeu h).blockOrder = s.blockOrder := rfl
@[simp] theorem State.putHeu_sns (h : Heu) : (s.putHeu h).sns = s.sns := rfl
@[simp] theorem State.putHeu_asr (h : Heu) : (s.putHeu h).asr = s.asr := rfl
@[simp] theorem State.putHeu_adm (h : Heu) : (s.putHeu h).adm = s.adm := rfl
@[simp] theorem State.putHeu_zon (h : Heu) : (s.putHeu h).zon = s.zon := rfl
@[simp] theorem State.putHeu_ddr (h : Heu) : (s.putHeu h).ddr = s.ddr := rfl
@[simp] theorem State.putHeu_mov (h : Heu) : (s.putHeu h).mov = s.mov := rfl
@[simp] theorem State.putHeu_heu (h : Heu) : (s.putHeu h).heu = h := rfl
@[simp] theorem State.putHeu_trm (h : Heu) : (s.putHeu h).trm = s.trm := rfl
@[simp] theorem State.putHeu_atn (h : Heu) : (s.putHeu h).atn = s.atn := rfl
@[simp] theorem State.putHeu_part (h : Heu) : (s.putHeu h).part = s.part := rfl
@[simp] theorem State.putHeu_link (h : Heu) : (s.putHeu h).link = s.link := rfl

@[simp] theorem State.putTerminal_pending (t : TerminalIx) (e : Terminal) : (s.putTerminal t e).pending = s.pending := rfl
@[simp] theorem State.putTerminal_handed (t : TerminalIx) (e : Terminal) : (s.putTerminal t e).handed = s.handed := rfl
@[simp] theorem State.putTerminal_now (t : TerminalIx) (e : Terminal) : (s.putTerminal t e).now = s.now := rfl
@[simp] theorem State.putTerminal_free (t : TerminalIx) (e : Terminal) : (s.putTerminal t e).free = s.free := rfl
@[simp] theorem State.putTerminal_blockOrder (t : TerminalIx) (e : Terminal) : (s.putTerminal t e).blockOrder = s.blockOrder := rfl
@[simp] theorem State.putTerminal_sns (t : TerminalIx) (e : Terminal) : (s.putTerminal t e).sns = s.sns := rfl
@[simp] theorem State.putTerminal_asr (t : TerminalIx) (e : Terminal) : (s.putTerminal t e).asr = s.asr := rfl
@[simp] theorem State.putTerminal_adm (t : TerminalIx) (e : Terminal) : (s.putTerminal t e).adm = s.adm := rfl
@[simp] theorem State.putTerminal_zon (t : TerminalIx) (e : Terminal) : (s.putTerminal t e).zon = s.zon := rfl
@[simp] theorem State.putTerminal_ddr (t : TerminalIx) (e : Terminal) : (s.putTerminal t e).ddr = s.ddr := rfl
@[simp] theorem State.putTerminal_mov (t : TerminalIx) (e : Terminal) : (s.putTerminal t e).mov = s.mov := rfl
@[simp] theorem State.putTerminal_heu (t : TerminalIx) (e : Terminal) : (s.putTerminal t e).heu = s.heu := rfl
@[simp] theorem State.putTerminal_trm (t : TerminalIx) (e : Terminal) : (s.putTerminal t e).trm = { s.trm with entries := s.trm.entries.set t e } := rfl
@[simp] theorem State.putTerminal_atn (t : TerminalIx) (e : Terminal) : (s.putTerminal t e).atn = s.atn := rfl
@[simp] theorem State.putTerminal_part (t : TerminalIx) (e : Terminal) : (s.putTerminal t e).part = s.part := rfl
@[simp] theorem State.putTerminal_link (t : TerminalIx) (e : Terminal) : (s.putTerminal t e).link = s.link := rfl

@[simp] theorem State.mapFunc_pending (f : Func) (t : Option TerminalIx) : (s.mapFunc f t).pending = s.pending := rfl
@[simp] theorem State.mapFunc_handed (f : Func) (t : Option TerminalIx) : (s.mapFunc f t).handed = s.handed := rfl
@[simp] theorem State.mapFunc_now (f : Func) (t : Option TerminalIx) : (s.mapFunc f t).now = s.now := rfl
@[simp] theorem State.mapFunc_free (f : Func) (t : Option TerminalIx) : (s.mapFunc f t).free = s.free := rfl
@[simp] theorem State.mapFunc_blockOrder (f : Func) (t : Option TerminalIx) : (s.mapFunc f t).blockOrder = s.blockOrder := rfl
@[simp] theorem State.mapFunc_sns (f : Func) (t : Option TerminalIx) : (s.mapFunc f t).sns = s.sns := rfl
@[simp] theorem State.mapFunc_asr (f : Func) (t : Option TerminalIx) : (s.mapFunc f t).asr = s.asr := rfl
@[simp] theorem State.mapFunc_adm (f : Func) (t : Option TerminalIx) : (s.mapFunc f t).adm = s.adm := rfl
@[simp] theorem State.mapFunc_zon (f : Func) (t : Option TerminalIx) : (s.mapFunc f t).zon = s.zon := rfl
@[simp] theorem State.mapFunc_ddr (f : Func) (t : Option TerminalIx) : (s.mapFunc f t).ddr = s.ddr := rfl
@[simp] theorem State.mapFunc_mov (f : Func) (t : Option TerminalIx) : (s.mapFunc f t).mov = s.mov := rfl
@[simp] theorem State.mapFunc_heu (f : Func) (t : Option TerminalIx) : (s.mapFunc f t).heu = s.heu := rfl
@[simp] theorem State.mapFunc_trm (f : Func) (t : Option TerminalIx) : (s.mapFunc f t).trm = { s.trm with map := s.trm.map.set f.slot t } := rfl
@[simp] theorem State.mapFunc_atn (f : Func) (t : Option TerminalIx) : (s.mapFunc f t).atn = s.atn := rfl
@[simp] theorem State.mapFunc_part (f : Func) (t : Option TerminalIx) : (s.mapFunc f t).part = s.part := rfl
@[simp] theorem State.mapFunc_link (f : Func) (t : Option TerminalIx) : (s.mapFunc f t).link = s.link := rfl

@[simp] theorem State.setPart_pending (p : PartState) : (s.setPart p).pending = s.pending := rfl
@[simp] theorem State.setPart_handed (p : PartState) : (s.setPart p).handed = s.handed := rfl
@[simp] theorem State.setPart_now (p : PartState) : (s.setPart p).now = s.now := rfl
@[simp] theorem State.setPart_free (p : PartState) : (s.setPart p).free = s.free := rfl
@[simp] theorem State.setPart_blockOrder (p : PartState) : (s.setPart p).blockOrder = s.blockOrder := rfl
@[simp] theorem State.setPart_sns (p : PartState) : (s.setPart p).sns = s.sns := rfl
@[simp] theorem State.setPart_asr (p : PartState) : (s.setPart p).asr = s.asr := rfl
@[simp] theorem State.setPart_adm (p : PartState) : (s.setPart p).adm = s.adm := rfl
@[simp] theorem State.setPart_zon (p : PartState) : (s.setPart p).zon = s.zon := rfl
@[simp] theorem State.setPart_ddr (p : PartState) : (s.setPart p).ddr = s.ddr := rfl
@[simp] theorem State.setPart_mov (p : PartState) : (s.setPart p).mov = s.mov := rfl
@[simp] theorem State.setPart_heu (p : PartState) : (s.setPart p).heu = s.heu := rfl
@[simp] theorem State.setPart_trm (p : PartState) : (s.setPart p).trm = s.trm := rfl
@[simp] theorem State.setPart_atn (p : PartState) : (s.setPart p).atn = s.atn := rfl
@[simp] theorem State.setPart_part (p : PartState) : (s.setPart p).part = { s.part with state := p } := rfl
@[simp] theorem State.setPart_link (p : PartState) : (s.setPart p).link = s.link := rfl

/-! ### What a block reads of the others stands through these updates -/

@[simp] theorem State.channel_eq (ch : ChannelIx) : s.channel ch = s.sns.channels[ch] := rfl
@[simp] theorem State.damper_eq (d : DamperIx) : s.damper d = s.ddr.dampers[d] := rfl
@[simp] theorem State.zone_eq (z : ZoneIx) : s.zone z = s.zon.zones[z] := rfl
@[simp] theorem State.mover_eq (m : MoverIx) : s.mover m = s.mov.movers[m] := rfl
@[simp] theorem State.terminal_eq (t : TerminalIx) : s.terminal t = s.trm.entries[t] := rfl

/-- The part is in RUN exactly where its record says so. -/
@[simp] theorem State.inRun_iff : s.inRun = true ↔ s.part.state = .run := by simp [State.inRun]
/-- The part is in CONFIG exactly where its record says so. -/
@[simp] theorem State.inConfig_iff : s.inConfig = true ↔ s.part.state = .config := by simp [State.inConfig]
/-- The part is in INIT exactly where its record says so. -/
@[simp] theorem State.inInit_iff : s.inInit = true ↔ s.part.state = .init := by simp [State.inInit]
@[simp] theorem State.inRun_false_iff : s.inRun = false ↔ s.part.state ≠ .run := by simp [State.inRun]
@[simp] theorem State.inConfig_false_iff : s.inConfig = false ↔ s.part.state ≠ .config := by simp [State.inConfig]
@[simp] theorem State.inInit_false_iff : s.inInit = false ↔ s.part.state ≠ .init := by simp [State.inInit]

end Sys2Proof.Machine
end

