-- ==== Sys2Proof/Laws/Ops.lean ====
section
/-! SUPPORT. For each shared operation, once, everything that it can do: the shapes of a meaning, replies, raises,
the events that one block hands another, the words of the link. -/

namespace Sys2Proof.Machine

variable (s t : State)

/-! ### The shapes of a meaning -/

/-- A handed event or a request, outside INIT: its effect runs on the state in which it waits no longer. -/
theorem State.take_next (c : Instr) (effect : State → State) (h : s.part.state ≠ .init) :
    s.take c effect = .next (effect (s.strike c)) := by
  simp [State.take, h]

/-- A handed event or a request in INIT waits no longer, and does nothing else. -/
theorem State.take_init (c : Instr) (effect : State → State) (h : s.part.state = .init) :
    s.take c effect = .next (s.strike c) := by
  simp [State.take, h]

/-- An event of a block's own, outside INIT: its effect runs. -/
theorem State.own_next (effect : State → State) (h : s.part.state ≠ .init) :
    s.own effect = .next (effect s) := by
  simp [State.own, h]

/-- An event of a block's own in INIT does nothing. -/
theorem State.own_init (effect : State → State) (h : s.part.state = .init) : s.own effect = .next s := by
  simp [State.own, h]

/-- Whatever a handed event or a request answers is the struck state, or what its effect makes of it. -/
theorem State.take_cases (c : Instr) (effect : State → State) (h : s.take c effect = .next t) :
    s.part.state = .init ∧ t = s.strike c ∨ s.part.state ≠ .init ∧ t = effect (s.strike c) := by
  by_cases hi : s.part.state = .init
  · rw [State.take_init s c effect hi] at h
    exact .inl ⟨hi, (Host.Outcome.next.inj h).symm⟩
  · rw [State.take_next s c effect hi] at h
    exact .inr ⟨hi, (Host.Outcome.next.inj h).symm⟩

/-- Whatever an event of a block's own answers is the state itself, or what its effect makes of it. -/
theorem State.own_cases (effect : State → State) (h : s.own effect = .next t) :
    s.part.state = .init ∧ t = s ∨ s.part.state ≠ .init ∧ t = effect s := by
  by_cases hi : s.part.state = .init
  · rw [State.own_init s effect hi] at h
    exact .inl ⟨hi, (Host.Outcome.next.inj h).symm⟩
  · rw [State.own_next s effect hi] at h
    exact .inr ⟨hi, (Host.Outcome.next.inj h).symm⟩

/-- Every command answers a next state: no meaning of this model stops. -/
theorem exec_next (c : Instr) : ∃ t, exec c s = .next t := by
  cases c <;> exact ⟨_, rfl⟩

/-! ### Words and indices -/

@[simp] theorem Half.ofBytes_lo_hi (h : Half) : Half.ofBytes h.lo h.hi = h := by
  apply BitVec.eq_of_getLsbD_eq
  intro i hi
  simp only [Half.ofBytes, Half.lo, Half.hi, BitVec.getLsbD_append, BitVec.getLsbD_setWidth,
    BitVec.getLsbD_ushiftRight]
  by_cases h8 : i < 8
  · simp [h8]
  · simp [h8, show i - 8 < 8 by omega, show 8 + (i - 8) = i by omega]

@[simp] theorem Half.lo_ofBytes (lo hi : Byte) : (Half.ofBytes lo hi).lo = lo := by
  apply BitVec.eq_of_getLsbD_eq
  intro i h
  simp only [Half.ofBytes, Half.lo, BitVec.getLsbD_setWidth, BitVec.getLsbD_append]
  simp [h]

@[simp] theorem Half.hi_ofBytes (lo hi : Byte) : (Half.ofBytes lo hi).hi = hi := by
  apply BitVec.eq_of_getLsbD_eq
  intro i h
  simp only [Half.ofBytes, Half.hi, BitVec.getLsbD_setWidth, BitVec.getLsbD_ushiftRight, BitVec.getLsbD_append]
  simp [h]

/-- An index below its bound, sent as a byte, names its record. -/
theorem indexOf_ofNat (n : Nat) (i : Fin n) (h : n ≤ 256) : indexOf n (BitVec.ofNat 8 i.val) = some i := by
  have hi := i.isLt
  simp [indexOf, BitVec.toNat_ofNat, Nat.mod_eq_of_lt (show i.val < 256 by omega)]

/-- A byte at or above the bound names no record. -/
theorem indexOf_none (n : Nat) (b : Byte) (h : n ≤ b.toNat) : indexOf n b = none := by
  simp [indexOf, Nat.not_lt.mpr h]

@[simp] theorem replyKind_code (r : Req) : replyKind r.code = r.code + 0x80#8 := by
  cases r <;> rfl

/-- A reply is sent as SYNC, LEN, KIND, BODY and the two CHECK bytes (R185). -/
@[simp] theorem Reply.frame_length (r : Reply) : r.frame.length = r.body.length + 5 := by
  simp [Reply.frame, frameBytes]

@[simp] theorem State.sending_sendReply (kind : Byte) (body : List Byte) :
    (s.sendReply kind body).sending = some (Reply.frame ⟨replyKind kind, body⟩) := rfl

/-! ### The dedicated outputs -/

/-- A dedicated output is driven low exactly while it is asserted outside INIT (R170, R175). -/
@[simp] theorem State.dedicatedDrive_low (b : Bool) :
    s.dedicatedDrive b = .low ↔ b = true ∧ s.part.state ≠ .init := by
  simp [State.dedicatedDrive]

/-- A dedicated output is never driven high (R170, R175). -/
theorem State.dedicatedDrive_cases (b : Bool) : s.dedicatedDrive b = .low ∨ s.dedicatedDrive b = .released := by
  unfold State.dedicatedDrive
  split <;> simp

/-! ### The grant -/

/-- With no order waiting, or no lane FREE, a grant does nothing (R102). -/
theorem Work.grant_idle (w : Work) (h : w.ddr.freeLanes = [] ∨ w.ddr.queue = []) : w.grant = w := by
  unfold Work.grant Work.grantUpTo
  rw [if_pos h]

/-- A lane is FREE exactly where the grant finds it so (R102). -/
@[simp] theorem Ddr.mem_freeLanes (r : Ddr) (l : LaneIx) : l ∈ r.freeLanes ↔ r.lanes[l].state = .free := by
  simp [Ddr.freeLanes, allLanes]

/-! ### Raises -/

/-- A raise sets the source's pending and detail and adds to its count, up to 15 (R169). -/
@[simp] theorem Atn.raise_getElem_self (a : Atn) (i : SourceIx) (n : Nat) :
    (a.raise i n).sources[i] = { a.sources[i] with pending := true, count := min 15 (a.sources[i].count + 1), detail := n } := by
  simp [Atn.raise, Atn.update, Atn.judge, Source.raise]

/-- A raise leaves every other source as it stood (R169). -/
theorem Atn.raise_getElem_ne (a : Atn) (i j : SourceIx) (n : Nat) (h : j ≠ i) :
    (a.raise i n).sources[j] = a.sources[j] := by
  have hij : ¬ i.val = j.val := fun e => h (Fin.ext e.symm)
  simp [Atn.raise, Atn.update, Atn.judge, hij]

@[simp] theorem Atn.raise_fault (a : Atn) (i : SourceIx) (n : Nat) : (a.raise i n).fault = a.fault := rfl

/-- A judged ATTN line is asserted exactly while a source is pending at level 1 or more (R170). -/
theorem Atn.judge_attn (a : Atn) :
    a.judge.attn = true ↔ ∃ i : SourceIx, a.sources[i].pending = true ∧ 1 ≤ a.sources[i].level := by
  simp only [Atn.judge, List.any_eq_true, Source.calls, Bool.and_eq_true, decide_eq_true_eq]
  constructor
  · rintro ⟨r, hr, h1, h2⟩
    obtain ⟨k, hk, rfl⟩ := List.getElem_of_mem hr
    have hk' : k < 16 := by simpa using hk
    refine ⟨⟨k, hk'⟩, ?_, ?_⟩
    · simpa using h1
    · simpa using h2
  · rintro ⟨i, h1, h2⟩
    exact ⟨a.sources[i], by simp, h1, h2⟩

/-- Several raises reach the attention records one after another and nothing else. -/
theorem State.raiseAll_eq (l : List (SourceIx × Nat)) :
    s.raiseAll l = { s with atn := l.foldl (fun a p => a.raise p.1 p.2) s.atn } := by
  induction l generalizing s with
  | nil => rfl
  | cons p l ih =>
    obtain ⟨i, n⟩ := p
    show (s.raise i n).raiseAll l = _
    rw [ih]; rfl

/-! ### Events handed -/

/-- A channel's report waits behind the events handed before it (R14). -/
theorem State.report_eq (ch : ChannelIx) :
    s.report ch =
      { s with
        handed := s.handed ++ (reportEvent ch s.sns.channels[ch].state.status s.sns.channels[ch].value).toList } := by
  unfold State.report
  simp only [State.channelStatus, State.channel]
  cases reportEvent ch s.sns.channels[ch].state.status s.sns.channels[ch].value with
  | none => simp
  | some c => simp [State.hand]

/-- An event at DDR changes its records, the free counter, the attention records and the events that wait, and
nothing else (R110). -/
theorem State.drive_eq (f : Work → Work) :
    s.drive f =
      { s with
        ddr := (f ⟨s.ddr, s.now, s.free, [], []⟩).ddr
        free := (f ⟨s.ddr, s.now, s.free, [], []⟩).free
        atn := (f ⟨s.ddr, s.now, s.free, [], []⟩).alarms.foldl (fun a p => a.raise p.1 p.2) s.atn
        handed := s.handed ++
          (f ⟨s.ddr, s.now, s.free, [], []⟩).changed.dedup.flatMap (f ⟨s.ddr, s.now, s.free, [], []⟩).ddr.reportOf } := by
  simp only [State.drive, State.raiseAll_eq, State.handAll]

/-- The outputs of ZON replaced, with an event for each that changed (R79 to R82). -/
theorem State.setOutputs_eq (o : ZonOutputs) :
    s.setOutputs o =
      { s with zon := { s.zon with out := o }, handed := s.handed ++ outputEvents s.zon.out o } := rfl

/-- With no reply in progress LTX stands high, whatever bit is named (R184). -/
theorem State.ltxDrive_idle (bit : Bool) (h : s.link.reply = none) : s.ltxDrive bit = .high := by
  simp [State.ltxDrive, State.sending, h]

/-- The levels at LTX take ten bit times for each byte of the reply (R184). -/
theorem State.ltxBits_length : s.ltxBits.length = 10 * (s.sending.getD []).length := by
  simp [State.ltxBits, lineBits, List.length_flatMap, Nat.mul_comm]

/-- MOV is handed a report exactly where the picture changed or a purge started or ended (R59, R122). -/
theorem State.handPicture_eq (before : Picture) (purged : Bool) :
    s.handPicture before purged =
      { s with
        handed := s.handed ++
          (if s.adm.picture = before ∧ purged = false then [] else [.admissionReport s.adm.picture]) } := by
  unfold State.handPicture
  split <;> simp [State.hand]

end Sys2Proof.Machine
end

