-- ==== Sys2Proof/Laws/PerInstr.lean ====
section
/-! SUPPORT. One lemma for each command: a request's body is as long as the request table says. -/

namespace Sys2Proof.Laws.FitsItsBody

open Sys2Proof.Machine

/-- The body that a command is sent with, where it is a request, has the length that R190 gives its KIND. -/
def Statement (i : Instr) : Prop :=
  ∀ (r : Req) (body : List Byte), i.request? = some (r, body) → body.length = r.bodyLength

/-- No request, no body. -/
theorem of_none {i : Instr} (h : i.request? = none) : Statement i := by
  intro r body e
  rw [h] at e
  cases e

/-- A request whose body has the tabled length. -/
theorem of_some {i : Instr} {r : Req} {body : List Byte} (h : i.request? = some (r, body))
    (n : body.length = r.bodyLength) : Statement i := by
  intro r' body' e
  rw [h] at e
  cases e
  exact n

theorem hardwareReset (kind : ResetKind) : Statement (.hardwareReset kind) := of_none rfl
theorem initEnd : Statement .initEnd := of_none rfl
theorem linkByteReceived (byte : Byte) (framingError : Bool) :
    Statement (.linkByteReceived byte framingError) := of_none rfl
theorem gapTimerExpiry : Statement .gapTimerExpiry := of_none rfl
theorem replyEnd : Statement .replyEnd := of_none rfl
theorem heldFrameTaken : Statement .heldFrameTaken := of_none rfl
theorem setState (code : Byte) : Statement (.setState code) := of_some rfl rfl
theorem linkReset : Statement .linkReset := of_some rfl rfl
theorem linkResetEffect : Statement .linkResetEffect := of_none rfl
theorem retain (flag : Byte) : Statement (.retain flag) := of_some rfl rfl
theorem readIdent : Statement .readIdent := of_some rfl rfl
theorem readConfig (selector page : Byte) : Statement (.readConfig selector page) := of_some rfl rfl
theorem bind (terminal function invert debounce drive : Byte) :
    Statement (.bind terminal function invert debounce drive) := of_some rfl rfl
theorem unbind (terminal : Byte) : Statement (.unbind terminal) := of_some rfl rfl
theorem readBinding (first : Byte) : Statement (.readBinding first) := of_some rfl rfl
theorem pinChange (t : TerminalIx) (high : Bool) : Statement (.pinChange t high) := of_none rfl
theorem debounceTimerExpiry (t : TerminalIx) : Statement (.debounceTimerExpiry t) := of_none rfl
theorem sampleArrival (ch : ChannelIx) (raw : BitVec 12) : Statement (.sampleArrival ch raw) := of_none rfl
theorem warmUpExpiry (ch : ChannelIx) : Statement (.warmUpExpiry ch) := of_none rfl
theorem channelHoldExpiry (ch : ChannelIx) : Statement (.channelHoldExpiry ch) := of_none rfl
theorem setChannel (channel : Byte) (gain offset low high warmUp hold failsafe : Half) (recovery : Byte) :
    Statement (.setChannel channel gain offset low high warmUp hold failsafe recovery) := of_some rfl rfl
theorem readChannels : Statement .readChannels := of_some rfl rfl
theorem setOverride (slot channel : Byte) (value : Half) :
    Statement (.setOverride slot channel value) := of_some rfl rfl
theorem clearOverride (slot : Byte) : Statement (.clearOverride slot) := of_some rfl rfl
theorem assessorChannelReport (a : AssessorIx) (status : Status) (value : Int) :
    Statement (.assessorChannelReport a status value) := of_none rfl
theorem setAssess (assessor alpha beta n : Byte) (ceiling low high abs h : Half) (p d : Byte) :
    Statement (.setAssess assessor alpha beta n ceiling low high abs h p d) := of_some rfl rfl
theorem readAssess : Statement .readAssess := of_some rfl rfl
theorem admLevelReport (a : AssessorIx) (level : Level) : Statement (.admLevelReport a level) := of_none rfl
theorem oatReport (status : Status) (value : Int) : Statement (.oatReport status value) := of_none rfl
theorem sealReqChange (asserted : Bool) : Statement (.sealReqChange asserted) := of_none rfl
theorem doorChange (door : DoorIx) (isOpen : Bool) : Statement (.doorChange door isOpen) := of_none rfl
theorem zonOutputChange (change : ZonChange) : Statement (.zonOutputChange change) := of_none rfl
theorem damperStateReport (report : DriveReport) : Statement (.damperStateReport report) := of_none rfl
theorem admHoldTimerExpiry : Statement .admHoldTimerExpiry := of_none rfl
theorem purgeTimerExpiry : Statement .purgeTimerExpiry := of_none rfl
theorem setDirective (code : Byte) : Statement (.setDirective code) := of_some rfl rfl
theorem setAdmission (limitFraction pressFraction : Byte) (sealHold scrubHold limitHold purgeTime : Half) (breachMin : Byte) :
    Statement (.setAdmission limitFraction pressFraction sealHold scrubHold limitHold purgeTime breachMin) := of_some rfl rfl
theorem readAdmission : Statement .readAdmission := of_some rfl rfl
theorem zoneUpdate (z : ZoneIx) : Statement (.zoneUpdate z) := of_none rfl
theorem setZone (zone enabled : Byte) (setpoint : Half) :
    Statement (.setZone zone enabled setpoint) := of_some rfl rfl
theorem setZoneTuning (kp ki : Half) (minBlower : Byte) (co2Low co2High hardLimit : Half) (occupantFresh : Byte) (discharge : Half) :
    Statement (.setZoneTuning kp ki minBlower co2Low co2High hardLimit occupantFresh discharge) := of_some rfl rfl
theorem setCrew (zone occupancy : Byte) : Statement (.setCrew zone occupancy) := of_some rfl rfl
theorem setDefrost (flag : Byte) : Statement (.setDefrost flag) := of_some rfl rfl
theorem readZones : Statement .readZones := of_some rfl rfl
theorem stepCompletion (d : DamperIx) : Statement (.stepCompletion d) := of_none rfl
theorem settleTimerExpiry (d : DamperIx) : Statement (.settleTimerExpiry d) := of_none rfl
theorem homeChange (d : DamperIx) (asserted : Bool) : Statement (.homeChange d asserted) := of_none rfl
theorem laneFltChange (l : LaneIx) (asserted : Bool) : Statement (.laneFltChange l asserted) := of_none rfl
theorem laneRecoveryExpiry (l : LaneIx) : Statement (.laneRecoveryExpiry l) := of_none rfl
theorem laneFaultHistoryExpiry (l : LaneIx) : Statement (.laneFaultHistoryExpiry l) := of_none rfl
theorem setDamper (damper : Byte) (span rate settle : Half) (homeEnd : Byte) :
    Statement (.setDamper damper span rate settle homeEnd) := of_some rfl rfl
theorem move (damper percent cls : Byte) : Statement (.move damper percent cls) := of_some rfl rfl
theorem rehome (damper : Byte) : Statement (.rehome damper) := of_some rfl rfl
theorem laneEnable (lane : Byte) : Statement (.laneEnable lane) := of_some rfl rfl
theorem readDampers : Statement .readDampers := of_some rfl rfl
theorem readQueue : Statement .readQueue := of_some rfl rfl
theorem moverUpdate (m : MoverIx) : Statement (.moverUpdate m) := of_none rfl
theorem tachEdge (m : MoverIx) : Statement (.tachEdge m) := of_none rfl
theorem edgeTimerExpiry (m : MoverIx) : Statement (.edgeTimerExpiry m) := of_none rfl
theorem stallTimerExpiry (m : MoverIx) : Statement (.stallTimerExpiry m) := of_none rfl
theorem restartTimerExpiry (m : MoverIx) : Statement (.restartTimerExpiry m) := of_none rfl
theorem cleanRunTimerExpiry (m : MoverIx) : Statement (.cleanRunTimerExpiry m) := of_none rfl
theorem groupDemandChange (g : Group) (percent : Nat) : Statement (.groupDemandChange g percent) := of_none rfl
theorem admissionReport (picture : Picture) : Statement (.admissionReport picture) := of_none rfl
theorem loopUpdate : Statement .loopUpdate := of_none rfl
theorem cpdReport (status : Status) (value : Int) : Statement (.cpdReport status value) := of_none rfl
theorem pressureLostExpiry : Statement .pressureLostExpiry := of_none rfl
theorem fpdReport (status : Status) (value : Int) : Statement (.fpdReport status value) := of_none rfl
theorem filterTimerExpiry : Statement .filterTimerExpiry := of_none rfl
theorem setMover (mover rampRate : Byte) (stallSpeed stallTime : Half) (minStallDuty : Byte) (restartDelay : Half) (retries : Byte) :
    Statement (.setMover mover rampRate stallSpeed stallTime minStallDuty restartDelay retries) := of_some rfl rfl
theorem setPressure (target : Half) (gain breachDuty : Byte) (filterLimit : Half) :
    Statement (.setPressure target gain breachDuty filterLimit) := of_some rfl rfl
theorem moverRestart (mover : Byte) : Statement (.moverRestart mover) := of_some rfl rfl
theorem readMovers : Statement .readMovers := of_some rfl rfl
theorem heatDemandChange (percent : Nat) : Statement (.heatDemandChange percent) := of_none rfl
theorem cltReport (status : Status) (value : Int) : Statement (.cltReport status value) := of_none rfl
theorem auxFlameChange (asserted : Bool) : Statement (.auxFlameChange asserted) := of_none rfl
theorem valveHoldTimerExpiry : Statement .valveHoldTimerExpiry := of_none rfl
theorem ignitionTimerExpiry : Statement .ignitionTimerExpiry := of_none rfl
theorem cooldownTimerExpiry : Statement .cooldownTimerExpiry := of_none rfl
theorem coolantReleaseExpiry : Statement .coolantReleaseExpiry := of_none rfl
theorem demandReleaseExpiry : Statement .demandReleaseExpiry := of_none rfl
theorem setHeat (coolantMin valveHold : Half) (auxStart release : Byte) (coolantTarget releaseHold ignition cooldown : Half) :
    Statement (.setHeat coolantMin valveHold auxStart release coolantTarget releaseHold ignition cooldown) := of_some rfl rfl
theorem auxInhibit (flag : Byte) : Statement (.auxInhibit flag) := of_some rfl rfl
theorem auxClearLock : Statement .auxClearLock := of_some rfl rfl
theorem readHeat : Statement .readHeat := of_some rfl rfl
theorem collect : Statement .collect := of_some rfl rfl
theorem clearSources (mask : Half) : Statement (.clearSources mask) := of_some rfl rfl
theorem assertSources (mask : Half) : Statement (.assertSources mask) := of_some rfl rfl
theorem setLevels (levels : Vector Byte 16) : Statement (.setLevels levels) := of_some rfl (by simp [Req.bodyLength])
theorem resetNegation : Statement .resetNegation := of_none rfl

end Sys2Proof.Laws.FitsItsBody
end

