-- ==== Sys2Proof/Tests/Slice0.lean ====
section
/-! SUPPORT. Tests of the model against the words and the numbers of the spec, and for every statement with
hypotheses a theorem `test_meets_<statement>` that shows states and operands meeting them, clause by clause. -/

namespace Sys2Proof.Tests

open Sys2Proof Sys2Proof.Machine

/-! ### Small states -/

/-- The part in CONFIG. -/
def cfg : State := { State.reset with part := { State.reset.part with state := .config } }

/-- The part in RUN, its records otherwise as reset leaves them. -/
def run : State := { State.reset with part := { State.reset.part with state := .run } }

/-- A channel's record changed. -/
def chan (s : State) (ch : ChannelIx) (f : Channel → Channel) : State := s.putChannel ch (f (s.channel ch))

/-- A damper's record changed. -/
def damp (s : State) (d : DamperIx) (f : Damper → Damper) : State :=
  { s with ddr := { s.ddr with dampers := s.ddr.dampers.set d (f s.ddr.dampers[d]) } }

/-- A lane's record changed. -/
def lane (s : State) (l : LaneIx) (f : Lane → Lane) : State :=
  { s with ddr := { s.ddr with lanes := s.ddr.lanes.set l (f s.ddr.lanes[l]) } }

/-- The move queue. -/
def queue (s : State) (q : List QueuedOrder) : State := { s with ddr := { s.ddr with queue := q } }

/-- A mover's record changed. -/
def mover (s : State) (m : MoverIx) (f : Mover → Mover) : State :=
  { s with mov := { s.mov with movers := s.mov.movers.set m (f s.mov.movers[m]) } }

/-- The heater's record changed. -/
def heater (s : State) (f : Heater → Heater) : State := { s with heu := { s.heu with heater := f s.heu.heater } }

/-- A zone's record changed. -/
def zone (s : State) (z : ZoneIx) (f : Zone → Zone) : State :=
  { s with zon := { s.zon with zones := s.zon.zones.set z (f s.zon.zones[z]) } }

/-- A terminal that carries a function. -/
def carry (s : State) (t : TerminalIx) (f : Func) (g : Terminal → Terminal) : State :=
  { s with trm := ⟨s.trm.entries.set t (g { s.trm.entries[t] with func := some f }), s.trm.map.set f.slot (some t)⟩ }

/-- The link's record changed. -/
def link (s : State) (f : Link → Link) : State := { s with link := f s.link }

/-- An assessor's record changed. -/
def assess (s : State) (a : AssessorIx) (f : Assessor → Assessor) : State := { s with asr := s.asr.set a (f s.asr[a]) }

/-- A source's record changed. -/
def source (s : State) (i : SourceIx) (f : Source → Source) : State :=
  { s with atn := { s.atn with sources := s.atn.sources.set i (f s.atn.sources[i]) } }

/-- What a command leaves, the state itself where it stops. -/
def after (c : Instr) (s : State) : State :=
  match exec c s with
  | .next t => t
  | .fault _ => s
  | .refused _ => s

/-! ### Well-formedness: each check refuses a term that breaks it -/

theorem test_wf_assessor_value : (Instr.assessorChannelReport 0 .usable 32768).wf = false := by decide
theorem test_wf_oat_value : (Instr.oatReport .usable (-32769)).wf = false := by decide
theorem test_wf_cpd_value : (Instr.cpdReport .usable 32768).wf = false := by decide
theorem test_wf_fpd_value : (Instr.fpdReport .usable 32768).wf = false := by decide
theorem test_wf_clt_value : (Instr.cltReport .usable 32768).wf = false := by decide
theorem test_wf_zon_fresh : (Instr.zonOutputChange (.fresh 101)).wf = false := by decide
theorem test_wf_report_position : (Instr.damperStateReport (.damper 0 .idle (some 2001))).wf = false := by decide
theorem test_wf_group_percent : (Instr.groupDemandChange .front 101).wf = false := by decide
theorem test_wf_heat_percent : (Instr.heatDemandChange 101).wf = false := by decide
theorem test_wf_bounds :
    (Instr.assessorChannelReport 0 .usable 32767).wf = true ∧ (Instr.oatReport .usable (-32768)).wf = true ∧
    (Instr.damperStateReport (.damper 0 .idle (some 2000))).wf = true ∧ (Instr.heatDemandChange 100).wf = true := by
  decide

/-! ### The words of the link -/

/-- Worked exchange, steps 1, 3 and 4: the KIND and BODY bytes as the manual writes them. -/
theorem test_worked_frames :
    dispatch 0x49#8 [] = .request .collect ∧
    dispatch 0x28#8 [0x02#8, 0x01#8, 0x5E#8, 0x01#8] = .request (.setZone 2#8 1#8 350#16) ∧
    dispatch 0x2A#8 [0x02#8, 0x03#8] = .request (.setCrew 2#8 3#8) := by decide

/-- R188: a KIND not in the table, a KIND of 80h or above, and a body of the wrong length. -/
theorem test_unknown_and_length :
    dispatch 0x06#8 [] = .unknown ∧ dispatch 0x90#8 [] = .unknown ∧ dispatch 0x49#8 [0#8] = .badLength := by decide

/-- R190, fields in the order of the owning rules, two-byte fields little-endian: a BIND, a MOVE, a SET_PRESSURE
and a SET_OVERRIDE, byte by byte. -/
theorem test_request_fields :
    dispatch 0x08#8 [24#8, 35#8, 0#8, 0#8, 1#8] = .request (.bind 24#8 35#8 0#8 0#8 1#8) ∧
    dispatch 0x31#8 [3#8, 40#8, 1#8] = .request (.move 3#8 40#8 1#8) ∧
    dispatch 0x39#8 [0xFA#8, 0x00#8, 4#8, 100#8, 0xFA#8, 0x00#8] = .request (.setPressure 250#16 4#8 100#8 250#16) ∧
    dispatch 0x12#8 [3#8, 10#8, 0x9C#8, 0xFF#8] = .request (.setOverride 3#8 10#8 (-100)) := by decide

/-- R185: one byte 00h from FFFFh, and SYNC, LEN, KIND and CHECK of a COLLECT in their places. -/
theorem test_crc : crc [0x00#8] = 0xE1F0#16 ∧
    (Instr.collect.frame?.map fun b => b.take 3) = some [0xC3#8, 0x01#8, 0x49#8] := by decide

/-- No row of the table gives bits. -/
theorem test_no_word : decodeTableWord 8 0x49 = none ∧ State.reset.withFetchWord 8 0x49 = State.reset := by
  decide +kernel

/-! ### The manual's numbers -/

/-- R1's examples. -/
theorem test_rha : rha 416 64 = 7 ∧ rha (-96) 64 = -2 ∧ rha 96 256 = 0 := by decide

/-- R35's examples: alpha 16, from 4 toward 30, from 51 toward 5, from 6 toward 5. -/
theorem test_fast_filter : fastFilter 16 4 30 = 11 ∧ fastFilter 16 51 5 = 39 ∧ fastFilter 16 6 5 = 5 := by decide

/-- R27's example: AS-COI's first sample of 40 gives f 40, b 15, s 25 and an up-count of 1 at CLEAR. -/
theorem test_first_sample :
    (after (.assessorChannelReport 0 .usable 40) cfg).asr[0] =
      { assessorReset 0 with active := true, initialised := true, f := 40, b := 15, s := 25, up := 1 } := by
  decide +kernel

/-- Worked exchange, step 5: the setpoint of 350 is stored as 320 and answered OK_CLAMPED. -/
theorem test_setpoint_clamped :
    let t := after (.setZone 2#8 1#8 350#16) cfg
    t.zon.zones[2].setpoint = 320 ∧ t.link.reply = some ⟨0xA8#8, [1#8]⟩ := by decide +kernel

/-- Worked exchange, step 2: SENSOR at level 2, count 1, detail 264. -/
theorem test_collect :
    (after .collect (source cfg asSensor fun r => { r with pending := true, count := 1, detail := 264 })).link.reply =
      some ⟨0xC9#8, [0#8, 8#8, 2#8, 1#8, 8#8, 1#8]⟩ := by decide +kernel

/-- A backlog and its collection, step 10: ADMISSION before SENSOR at the same level, by table order. -/
theorem test_collect_order :
    (after .collect
      (source (source cfg asSensor fun r => { r with pending := true, count := 1, detail := 264 }) asAdmission
        fun r => { r with pending := true, count := 3, detail := 3 })).link.reply =
      some ⟨0xC9#8, [0#8, 3#8, 2#8, 3#8, 3#8, 0#8]⟩ := by decide +kernel

/-- R176: the end of INIT after a power-on raises RESTART with detail 256 and asserts ATTN. -/
theorem test_init_end :
    let t := after .initEnd State.reset
    t.part.state = .config ∧ t.atn.sources[asRestart] = ⟨1, true, 1, 256⟩ ∧ t.atn.attn = true ∧ t.atn.fault = false := by
  decide +kernel

/-- Binding a cab on the bench, steps 1 and 4: DOOR2 asserted from the binding on, SEL0 not allowed on P30. -/
theorem test_bind_bench :
    let s := after (.pinChange 21 true) cfg
    (after (.bind 21#8 26#8 0#8 2#8 0#8) s).trm.entries[21].debounced = true ∧
    (after (.bind 46#8 35#8 0#8 0#8 0#8) s).link.reply = some ⟨0x88#8, [19#8]⟩ := by decide +kernel

/-- Worked exchange, step 2: the reply as one frame, SYNC to BODY as the manual writes it, and its CHECK. -/
theorem test_reply_frame :
    let t := after .collect (source cfg asSensor fun r => { r with pending := true, count := 1, detail := 264 })
    (t.sending.map fun b => (b.take 9, b.length)) =
      some ([0xC3#8, 0x07#8, 0xC9#8, 0x00#8, 0x08#8, 0x02#8, 0x01#8, 0x08#8, 0x01#8], 11) := by decide +kernel

/-- R184: SYNC, C3h, on the line, start bit first and least significant bit next; LTX idles high, from a reset too. -/
theorem test_line_bits :
    lineBits 0xC3#8 = [false, true, true, false, false, false, false, true, true, true] ∧
    (after (.hardwareReset .powerOn) (link run fun l => { l with reply := some ⟨0xC9#8, [0#8]⟩ })).ltxDrive false = .high := by
  decide +kernel

/-- R57, R59: a cab condition that becomes HIGH in a purge restarts it, and MOV is handed a report of the start. -/
theorem test_purge_restart_reported :
    let s := assess { run with adm := { run.adm with
        accepted := .seal, sealLine := true, demanded := .seal, purge := some ⟨.running 9, .recirc⟩
        ordered := #v[some 0, some 100, some 0] } } 2 fun a => { a with level := .high }
    let t := after (.admLevelReport 2 .high) s
    t.adm.purge = some ⟨.frozen 90000000, .recirc⟩ ∧ .admissionReport t.adm.picture ∈ t.handed := by decide +kernel

/-- R170, R175: an output is released while negated and driven low while asserted. -/
theorem test_dedicated_outputs :
    let t := after .initEnd State.reset
    State.reset.attnDrive = .released ∧ t.attnDrive = .low ∧ t.faultDrive = .released := by decide +kernel

/-- R102: both lanes FREE at one grant, L0 takes the first order, L1 the next, though DMP1 finds its home end at once. -/
theorem test_both_lanes_granted :
    let s := lane (lane (damp (damp cfg 1 fun c => { c with state := .waiting, homeInput := true }) 2
      fun c => { c with state := .waiting }) 0 fun r => { r with state := .free }) 1 fun r => { r with state := .free }
    let w := Work.grant ⟨(queue s [⟨1, .home none, .safety, .start, 0⟩, ⟨2, .home none, .normal, .start, 1⟩]).ddr, 0, 0, [], []⟩
    w.ddr.lanes[0].state = .free ∧ w.ddr.lanes[1].holder = some 2 ∧ w.ddr.dampers[1].position = some 0 := by decide +kernel

/-- R64: a check stays pending where the event's own order has set FRESH in motion, whatever its report carries. -/
theorem test_check_reads_the_record :
    let a := { run.adm with accepted := .opened, check := some .opened, fresh := 50, ordered := #v[some 10, some 0, some 100] }
    let s := damp { run with adm := a } 0 fun c => { c with state := .idle, position := some 80, target := some 80 }
    (after (.damperStateReport (.damper 0 .idle (some 400))) s).adm.check = some .opened := by decide +kernel

/-- R133: the expiry taken before an SC13 report carries the value before the report. -/
theorem test_pressure_detail :
    let s := chan { run with mov := { run.mov with cpd := -5, loop := { run.mov.loop with lost := some 0 } } } 13
      fun c => { c with state := .valid, value := 300 }
    (after .pressureLostExpiry s).atn.sources[asPressure].detail = 65531 := by decide +kernel

/-- A rehome that finds slip, the first two rows: FRESH, JAMMED and ordered to 15 %, is HOMING on L0 with pending 120. -/
theorem test_rehome_worked :
    let s := lane (damp { run with adm := { run.adm with ordered := #v[some 15, none, none] } } 0
      fun c => { c with state := .jammed, jam := true }) 0 fun r => { r with state := .free }
    let c := (after (.rehome 0#8) s).ddr.dampers[0]
    c.state = .homing ∧ c.pending = some 120 ∧ c.lane = some 0 ∧ c.jam = false ∧
      c.order = some ⟨.home, .safety, .link, 0⟩ := by decide +kernel

/-- Two lanes and a waiting queue, t = 1600: RELIEF arrives at 0 with HOME asserted, and L0 goes to BLEND1 at once. -/
theorem test_arrival_grants :
    let s := queue (lane (damp (damp cfg 2 fun c => { c with
        state := .moving, position := some 1, target := some 0, lane := some 0, homeInput := true
        order := some ⟨.move, .safety, .adm, 5⟩, stepDue := some 0 }) 4
        fun c => { c with state := .waiting, position := some 240, target := some 336 }) 0
      fun r => { r with state := .busy, holder := some 2 }) [⟨4, .move 336, .normal, .zon, 3⟩]
    let t := after (.stepCompletion 2) s
    t.ddr.dampers[2].state = .settling ∧ t.ddr.lanes[0].holder = some 4 ∧ t.ddr.dampers[4].state = .moving := by
  decide +kernel

/-! ### Small states of the damper drive that meet its law -/

/-- The clauses of `State.DriveLaw` on one damper, as a test evaluates them. -/
def lawfulDamper (s : State) (d : DamperIx) : Bool :=
  decide ((s.ddr.dampers[d].state = .absent ↔ (s.bound (.sel d) && s.bound (.home d)) = false) ∧
    (s.ddr.dampers[d].state = .waiting ↔ (s.ddr.queuedOrder d).isSome = true) ∧
    (s.ddr.dampers[d].state = .homing ∨ s.ddr.dampers[d].state = .moving → s.ddr.dampers[d].lane.isSome = true) ∧
    (∀ l ∈ s.ddr.dampers[d].lane, s.ddr.lanes[l].holder = some d ∧
      (s.ddr.dampers[d].state = .homing ∨ s.ddr.dampers[d].state = .moving ∨ s.ddr.dampers[d].state = .settling))) &&
  decide ((s.ddr.dampers[d].lane.isSome = true → s.ddr.dampers[d].order.isSome = true) ∧
    (s.ddr.dampers[d].stepDue.isSome = true ↔
      s.ddr.dampers[d].state = .homing ∨ s.ddr.dampers[d].state = .moving) ∧
    (s.ddr.dampers[d].settle.isSome = true ↔ s.ddr.dampers[d].state = .settling) ∧
    (s.ddr.dampers[d].state = .idle ∨ s.ddr.dampers[d].state = .moving ∨ s.ddr.dampers[d].state = .settling →
      s.ddr.dampers[d].position.isSome = true ∧ s.ddr.dampers[d].target.isSome = true)) &&
  decide ((s.ddr.dampers[d].state = .idle ∨ s.ddr.dampers[d].state = .settling ∧ s.ddr.dampers[d].lane = none →
      s.ddr.dampers[d].target = s.ddr.dampers[d].position) ∧
    (s.ddr.dampers[d].deferred.isSome = true → s.ddr.dampers[d].state = .settling ∧ s.ddr.dampers[d].lane = none) ∧
    (s.ddr.dampers[d].state = .homing ∨ s.ddr.dampers[d].state = .unhomed ∨ s.ddr.dampers[d].state = .jammed ∨
      s.ddr.dampers[d].state = .absent → s.ddr.dampers[d].position = none))

/-- The clauses of `State.DriveLaw` on one lane, as a test evaluates them. -/
def lawfulLane (s : State) (l : LaneIx) : Bool :=
  decide ((s.ddr.lanes[l].state = .absent ↔ (s.bound (.step l) && s.bound (.dir l)) = false) ∧
    (s.ddr.lanes[l].state = .busy ↔ s.ddr.lanes[l].holder.isSome = true) ∧
    (∀ d ∈ s.ddr.lanes[l].holder, s.ddr.dampers[d].lane = some l) ∧
    (s.ddr.lanes[l].recovery.isSome = true → s.ddr.lanes[l].state = .out))

/-- `State.DriveLaw` as a test evaluates it. -/
def lawful (s : State) : Bool :=
  decide ((∀ d, lawfulDamper s d = true) ∧ (∀ l, lawfulLane s l = true) ∧
    (s.ddr.queue.map fun o => o.damper).Nodup ∧
    (∀ o ∈ s.ddr.queue, o.goal.isHome = true ∨ s.ddr.dampers[o.damper].position.isSome = true) ∧
    s.ddr.queue.Pairwise (fun a b => b.before a = false) ∧
    ((∃ l : LaneIx, s.ddr.lanes[l].state = .free) → s.ddr.queue = []))

theorem lawful_iff (s : State) : lawful s = true ↔ s.DriveLaw := by
  unfold lawful State.DriveLaw
  rw [decide_eq_true_iff]
  simp only [lawfulDamper, lawfulLane, Bool.and_eq_true, decide_eq_true_eq, and_assoc]

/-- A part in CONFIG with DMP1, DMP2 and both lanes bound: the dampers UNHOMED, the lanes OUT. -/
def rig : State :=
  lane (lane (damp (damp (carry (carry (carry (carry (carry (carry (carry (carry cfg 24 (.sel 1) id) 1 (.home 1) id) 25
    (.sel 2) id) 2 (.home 2) id) 26 (.step 0) id) 27 (.dir 0) id) 28 (.step 1) id) 29 (.dir 1) id) 1
    fun c => { c with state := .unhomed }) 2 fun c => { c with state := .unhomed }) 0 fun r => { r with state := .out }) 1
    fun r => { r with state := .out }

/-- DMP1 holds L0. -/
def held (f : Damper → Damper) : State :=
  lane (damp rig 1 fun c => { f c with lane := some 0, order := some ⟨.move, .normal, .link, 0⟩ }) 0
    fun r => { r with state := .busy, holder := some 1 }

/-- DMP1 MOVING on L0. -/
def moving (p t : Nat) : State :=
  held fun c => { c with state := .moving, position := some p, target := some t, stepDue := some 0 }

/-- DMP1 in the overtravel of its home end, 0. -/
def searching (t n : Nat) : State :=
  damp (moving 0 t) 1 fun c => { c with overtravel := true, stepCount := n }

/-- DMP1 HOMING on L0. -/
def homing (pending : Option Nat) (n : Nat) : State :=
  held fun c => { c with state := .homing, pending := pending, stepCount := n, stepDue := some 0 }

/-- DMP1 in the settle of a reversal on L0. -/
def reversing (p t : Nat) : State :=
  held fun c => { c with state := .settling, position := some p, target := some t, settle := some 0 }

/-- DMP1 IDLE. -/
def idle (p : Nat) : State := damp rig 1 fun c => { c with state := .idle, position := some p, target := some p }

/-- DMP1 in the settle after an arrival. -/
def settling (p : Nat) (o : Option DeferredOrder) : State :=
  damp rig 1 fun c => { c with state := .settling, position := some p, target := some p, settle := some 0, deferred := o }

/-- DMP1 WAITING with a MOVE. -/
def waitingMove (p t : Nat) : State :=
  queue (damp rig 1 fun c => { c with state := .waiting, position := some p, target := some t })
    [⟨1, .move t, .normal, .link, 0⟩]

/-- DMP1 WAITING with a HOME. -/
def waitingHome : State :=
  queue (damp rig 1 fun c => { c with state := .waiting }) [⟨1, .home none, .normal, .link, 0⟩]

/-- DMP2 waits too. -/
def beside (s : State) : State :=
  queue (damp s 2 fun c => { c with state := .waiting }) (s.ddr.queue ++ [⟨2, .home none, .normal, .start, 9⟩])

/-- L1 is FREE. -/
def freed (s : State) : State := lane s 1 fun r => { r with state := .free }

/-- L1's recovery runs. -/
def recovering (s : State) : State := lane s 1 fun r => { r with recovery := some 0 }

/-! ### States and operands that meet the hypotheses, clause by clause -/

theorem test_meets_StepOnAnEmptyQueue :
    cfg.pending = [] ∧
    ({ cfg with handed := [.loopUpdate] } : State).handed = .loopUpdate :: [] ∧
    (let s := link cfg fun l => { l with gap := some 0 };
      s.handed = [] ∧ s.timers = [] ++ (some 0, .gapTimerExpiry) :: s.timers.tail ∧
      TimerEntry.isDue s.now (some 0, .gapTimerExpiry) = true) ∧
    (cfg.handed = [] ∧ cfg.timers.any (TimerEntry.isDue cfg.now) = false) := by decide +kernel

/-- The order of the blocks, in CONFIG with nothing bound; every law below is shown there. -/
theorem test_meets_BlocksComplete : cfg.BlocksComplete := by
  unfold State.BlocksComplete
  decide +kernel

theorem test_meets_StepKeepsTheAttentionLaw : cfg.AttentionLaw := by
  unfold State.AttentionLaw
  decide +kernel

theorem test_meets_StepKeepsTheAdmissionLaw : cfg.AdmissionLaw :=
  ⟨fun h => absurd h (by decide), fun _ => by unfold Adm.RestLaw; decide +kernel⟩

theorem test_meets_StepKeepsTheHeatLaw : cfg.HeatLaw := by
  unfold State.HeatLaw
  decide +kernel

theorem test_meets_StepKeepsTheMoverLaw : cfg.MoverLaw := by
  unfold State.MoverLaw
  decide +kernel

theorem test_meets_StepKeepsTheZoneLaw : cfg.ZoneLaw := by
  unfold State.ZoneLaw
  decide +kernel

theorem test_meets_StepKeepsTheSensorLaw : cfg.SensorLaw := by
  unfold State.SensorLaw
  decide +kernel

theorem test_meets_StepKeepsTheAssessorLaw : cfg.AssessorLaw := by
  unfold State.AssessorLaw
  decide +kernel

theorem test_meets_StepKeepsTheTerminalLaw : cfg.TerminalLaw := by
  unfold State.TerminalLaw
  decide +kernel

theorem test_meets_StepKeepsTheDriveLaw : cfg.DriveLaw :=
  ⟨by decide +kernel, by decide +kernel, by decide +kernel, by decide +kernel, by decide +kernel⟩

theorem test_meets_StepKeepsTheReceiveLaw : cfg.ReceiveLaw := by
  unfold State.ReceiveLaw
  decide +kernel

theorem test_meets_StepKeepsThePercentLaw : cfg.PercentLaw := by
  unfold State.PercentLaw
  decide +kernel

/-- A step from there answers a next state, a microsecond on. -/
theorem test_step_ticks :
    (match step cfg with | .next t => t.now | .fault _ => 0 | .refused _ => 0) = 1 := by decide +kernel

theorem test_meets_HardwareResetAndInit :
    State.reset.part.state = .init ∧ State.reset.part.resetAsserted = false ∧
    (after (.hardwareReset .resetPin) cfg).part.resetAsserted = true ∧ cfg.part.state ≠ .init ∧
    (match Instr.collect with | .hardwareReset _ | .initEnd | .resetNegation | .pinChange _ _ => false | _ => true) = true := by
  decide +kernel

/-- A part in CONFIG with DMP0 and L0 bound, DMP0 as `c` gives it. -/
def driven (c : Damper → Damper) (r : Lane → Lane) : State :=
  lane (damp (carry (carry (carry (carry cfg 24 (.sel 0) id) 1 (.home 0) id) 25 (.step 0) id) 26 (.dir 0) id) 0 c) 0 r

/-- DMP0 UNHOMED, L0 FREE. -/
def atRest : State := driven (fun c => { c with state := .unhomed }) fun r => { r with state := .free }

/-- DMP0 MOVING on L0 from step 5 to step 9. -/
def inMotion : State :=
  driven (fun c => { c with
    state := .moving, position := some 5, target := some 9, lane := some 0, order := some ⟨.move, .normal, .link, 0⟩
    stepDue := some 5000 }) fun r => { r with state := .busy, holder := some 0 }

theorem test_meets_EnteringRun_laws : atRest.DriveLaw ∧ atRest.HeatLaw ∧ atRest.ddr.dampers[0].state ≠ .absent ∧
    atRest.ddr.lanes[0].state ≠ .absent :=
  ⟨⟨by decide +kernel, by decide +kernel, by decide +kernel, by decide +kernel, by decide +kernel, by decide +kernel⟩,
    by unfold State.HeatLaw; decide +kernel, by decide +kernel, by decide +kernel⟩
theorem test_meets_EnteringRun :
    cfg.blockOrder.Perm blockOrderReset ∧ cfg.part.state = .config ∧ run.part.state = .run ∧
    1 < (2#8 : Byte).toNat ∧ cfg.ddr.dampers[0].state = .absent ∧
    (let s := lane (damp cfg 0 fun c => { c with state := .unhomed }) 1 fun r => { r with state := .free };
      s.ddr.dampers[0].state ≠ .absent ∧ s.ddr.lanes[1].state ≠ .absent ∧ s.ddr.lanes[0].state = .absent) ∧
    (let s := damp cfg 0 fun c => { c with state := .jammed };
      s.ddr.dampers[0].state ≠ .absent ∧ s.ddr.lanes[0].state = .absent ∧ s.ddr.lanes[1].state = .absent) ∧
    (let s := driven (fun c => { c with state := .unhomed }) fun r => { r with state := .out };
      s.DriveLaw ∧ s.ddr.seq + 16 < 4294967296 ∧ s.ddr.dampers[0].state = .unhomed ∧ s.ddr.lanes[0].state ≠ .absent ∧
      ∀ l : LaneIx, s.ddr.lanes[l].state ≠ .free ∧ s.ddr.lanes[l].state ≠ .busy) := by
  simp only [← lawful_iff]
  decide +kernel

theorem test_meets_LeavingRun : run.part.state = .run ∧ run.blockOrder.Perm blockOrderReset := by decide +kernel

theorem test_meets_LinkReset :
    (let s := link run fun l => { l with resetting := true };
      s.part.state ≠ .init ∧ s.link.resetting = true ∧ s.blockOrder.Perm blockOrderReset ∧
      ∀ i : SlotIx, ∀ o ∈ s.sns.slots[i], o.channel ≠ 14) ∧
    (let s := (link run fun l => { l with resetting := true }).putSlot 3 (some ⟨14, -5⟩);
      s.link.resetting = true ∧ s.sns.slots[3] = some ⟨14, -5⟩ ∧
      ∀ j : SlotIx, ∀ p ∈ s.sns.slots[j], p.channel = 14 → j = 3) ∧
    (link run fun l => { l with held := some ⟨1#8, [0x49#8], 0#8, 0#8⟩, resetting := true }).link.held.isSome = true ∧
    (1#8 : Byte).toNat ≤ 1 ∧ 1 < (2#8 : Byte).toNat := by decide +kernel

theorem test_meets_IdentityAndConfiguration :
    cfg.part.state ≠ .init ∧
    ((configPages.lookup (0#8 : Byte).toNat).getD [])[(14#8 : Byte).toNat]? = some .setChannel ∧
    ((configPages.lookup (3#8 : Byte).toNat).getD [])[(5#8 : Byte).toNat]? = some .setDefrost ∧
    ((configPages.lookup (0#8 : Byte).toNat).getD [])[(15#8 : Byte).toNat]? = none ∧
    ((configPages.lookup (8#8 : Byte).toNat).getD [])[(0#8 : Byte).toNat]? = none := by decide +kernel

theorem test_meets_ReadsAnswer : cfg.part.state ≠ .init ∧ (47#8 : Byte).toNat ≤ 47 ∧ 47 < (48#8 : Byte).toNat := by decide

theorem test_meets_RhaRoundsHalfAway :
    0 < 2 ∧ 2 % 2 = 0 ∧ (0 : Int) ≤ 0 ∧ (-1 : Int) < 0 ∧ (rha 1 2 * (2 : Nat) - 1).natAbs * 2 = 2 := by decide

theorem test_meets_FilterStages :
    1 ≤ 1 ∧ 1 ≤ 64 ∧ 64 ≤ 64 ∧ 255 ≤ 255 ∧ (4 < 5 ∧ 5 < 6 ∧ 0 < 1) ∧ (15 ≤ 15 ∧ 14 < 15) := by decide

theorem test_meets_RequestsDecodeAsEncoded :
    (Instr.setCrew 2#8 3#8).request? = some (.setCrew, [2#8, 3#8]) ∧ Instr.collect.request? = some (.collect, []) := by
  decide

theorem test_meets_FramesHandTheirRequest :
    (∃ b, Instr.collect.frame? = some b) ∧ cfg.part.state ≠ .init ∧ cfg.link.phase = .hunt ∧ cfg.link.busy = false ∧
    cfg.link.held = none ∧ cfg.link.resetting = false := by
  exact ⟨⟨_, rfl⟩, by decide +kernel⟩

theorem test_meets_BytesAtTheReceiveRecord :
    cfg.part.state ≠ .init ∧ cfg.link.phase = .hunt ∧ ¬ ((0xC2#8 : Byte) = 0xC3#8 ∧ false = false) ∧
    ¬ ((0xC3#8 : Byte) = 0xC3#8 ∧ true = false) ∧
    (link cfg fun l => { l with phase := .length }).link.phase ≠ .hunt ∧
    (1 ≤ (1#8 : Byte).toNat ∧ (57#8 : Byte).toNat ≤ 57) ∧ ((0#8 : Byte).toNat = 0 ∧ 57 < (58#8 : Byte).toNat) ∧
    (link cfg fun l => { l with phase := .data, len := 1#8 }).link.phase = .data ∧
    (link cfg fun l => { l with phase := .check }).link.check = [] ∧
    (link cfg fun l => { l with phase := .check, check := [1#8] }).link.check ≠ [] ∧
    (link cfg fun l => { l with phase := .length, gap := some 4000 }).link.gap.isSome = true := by decide +kernel

theorem test_meets_CompleteFramesAndReplies :
    (let s := link cfg fun l => { l with phase := .check, len := 1#8, data := [0x49#8], check := [0#8] };
      s.part.state ≠ .init ∧ s.link.check.head? = some 0#8 ∧ s.link.data ≠ [] ∧ s.link.busy = false ∧
      s.link.held = none ∧ s.link.resetting = false) ∧
    (link cfg fun l => { l with busy := true }).link.busy = true ∧
    (link cfg fun l => { l with resetting := true }).link.resetting = true ∧
    (let s := link cfg fun l => { l with held := some ⟨1#8, [0x49#8], 0#8, 0#8⟩ };
      s.link.held = some ⟨1#8, [0x49#8], 0#8, 0#8⟩ ∧ s.link.resetting = false ∧ [0x49#8] ≠ ([] : List Byte)) ∧
    (let s := link cfg fun l => { l with busy := true, reply := some ⟨0x82#8, [0#8]⟩, resetDue := true };
      s.link.reply.isSome = true ∧ s.link.resetDue = true) ∧
    (let s := link cfg fun l => { l with busy := true, reply := some ⟨0xC9#8, [0#8]⟩ };
      s.link.reply.isSome = true ∧ s.link.resetDue = false) := by decide +kernel

theorem test_meets_RequestsAreAnswered :
    cfg.part.state ≠ .init ∧ (Instr.setState 2#8).request? = some (.setState, [2#8]) ∧
    (after (.setState 2#8) cfg).link.reply = some ⟨0x81#8, [19#8]⟩ ∧ 16 ≤ (19#8 : Byte).toNat ∧ Req.setState ≠ .move := by
  decide +kernel

/-- BIND: a new binding negated and asserted, another function, a bound function, a rebinding with and without a change. -/
theorem test_meets_Binding :
    (cfg.part.state ≠ .init ∧ cfg.DriveLaw) ∧ run.part.state = .run ∧ run.DriveLaw ∧
    (47 < (48#8 : Byte).toNat ∧ (0#8 : Byte).toNat = 0 ∧ 51 < (52#8 : Byte).toNat) ∧
    ((Func.sc 0).cls = 0 ∧ (Func.home 0).cls = 1 ∧ (Func.tach 2).cls = 2 ∧ (Func.auxRun).cls = 3 ∧ (Func.pwm 0).cls = 4) ∧
    ((1#8 : Byte).toNat ≤ 1 ∧ (3#8 : Byte).toNat ≤ 3) ∧
    (cfg.trm.entries[16].func = none ∧ cfg.trm.map[(Func.tach 0).slot] = none ∧ (Func.door 3).levelEvent true = some (.doorChange 3 true)) ∧
    (let s := carry cfg 5 (.door 0) fun e => { e with debounced := true };
      s.DriveLaw ∧ s.trm.entries[5].func = some (.door 0) ∧ s.trm.entries[5].func ≠ some (.door 1) ∧
      (s.trm.map[(Func.door 0).slot]).isSome = true ∧ (s.trm.entries[5].level != false) ≠ s.trm.entries[5].debounced) ∧
    (let s := carry cfg 16 (.tach 0) id;
      s.DriveLaw ∧ s.trm.entries[16].func = some (.tach 0) ∧ s.trm.entries[16].invert ≠ true) ∧
    (let s := lane { waitingHome with trm :=
          ⟨waitingHome.trm.entries.set 28 waitingHome.trm.entries[47], waitingHome.trm.map.set (Func.step 1).slot none⟩ } 1
        fun r => { r with state := .absent };
      s.DriveLaw ∧ s.trm.entries[28].func = none ∧ s.trm.map[(Func.step 1).slot] = none ∧ s.ddr.queue ≠ []) ∧
    (let s := { carry cfg 5 (.laneFlt 1) id with handed := [.laneFltChange 1 true] };
      s.DriveLaw ∧ s.trm.entries[5].func = some (.laneFlt 1) ∧ (Func.laneFlt 1).levelEvent true ∈ s.handed.head?.map some) := by
  simp only [← lawful_iff]
  decide +kernel

theorem test_meets_Unbinding :
    cfg.part.state = .config ∧ run.part.state = .run ∧ cfg.DriveLaw ∧ run.DriveLaw ∧ 47 < (48#8 : Byte).toNat ∧
    cfg.trm.entries[47].func = none ∧
    (let s := carry cfg 5 (.laneFlt 1) fun e => { e with debounced := true };
      s.DriveLaw ∧ s.trm.entries[5].func = some (.laneFlt 1) ∧ s.trm.entries[5].debounced = true ∧
      (Func.laneFlt 1).levelEvent false = some (.laneFltChange 1 false)) ∧
    (let s := beside (moving 5 9); s.DriveLaw ∧ s.trm.entries[26].func = some (.step 0) ∧ s.ddr.lanes[0].holder = some 1 ∧
      s.trm.entries[26].debounced = false ∧ s.ddr.queue ≠ []) := by
  simp only [← lawful_iff]
  decide +kernel

theorem test_meets_PinsAndDebounce :
    (cfg.trm.entries[0].level = false ∧ cfg.trm.entries[0].level ≠ true ∧ cfg.trm.entries[0].func = none) ∧
    (carry cfg 0 (.sc 0) id).trm.entries[0].func = some (.sc 0) ∧ (Func.sc 0).cls = 0 ∧
    (carry cfg 16 (.tach 2) id).trm.entries[16].func = some (.tach 2) ∧ (Func.tach 2).cls = 2 ∧
    (let e := (carry cfg 3 .sealReq fun e => { e with debounce := .ms0 }).trm.entries[3];
      e.func = some .sealReq ∧ Func.sealReq.cls = 1 ∧ e.debounce = .ms0) ∧
    (let e := (carry cfg 3 .sealReq fun e => { e with timer := some 50000 }).trm.entries[3];
      e.debounce ≠ .ms0 ∧ e.timer.isSome = true) ∧ cfg.part.state ≠ .init := by decide +kernel

/-- DMP0 MOVING, in the overtravel, HOMING and in a reversal settle; an input, an output and a terminal that carries nothing. -/
theorem test_meets_OutputLinesAndDrives :
    (inMotion.DriveLaw ∧ inMotion.AttentionLaw) ∧
    (let c := inMotion.ddr.dampers[0];
      c.lane = some 0 ∧ c.state = .moving ∧ c.overtravel = false ∧ c.position = some 5 ∧ c.target = some 9) ∧
    (damp inMotion 0 fun c => { c with overtravel := true }).ddr.dampers[0].overtravel = true ∧
    (damp inMotion 0 fun c => { c with state := .homing }).ddr.dampers[0].state = .homing ∧
    (damp inMotion 0 fun c => { c with state := .settling }).ddr.dampers[0].state = .settling ∧
    inMotion.ddr.lanes[1].state ≠ .busy ∧ inMotion.trm.entries[0].func = none ∧
    (inMotion.trm.entries[1].func = some (.home 0) ∧ (Func.home 0).cls ≤ 2) ∧
    (inMotion.trm.entries[24].func = some (.sel 0) ∧ 3 ≤ (Func.sel 0).cls) ∧ inMotion.link.reply = none ∧
    (link inMotion fun l => { l with reply := some ⟨0xC9#8, [0#8]⟩ }).sending.isSome = true :=
  ⟨⟨⟨by decide +kernel, by decide +kernel, by decide +kernel, by decide +kernel, by decide +kernel, by decide +kernel⟩,
    by unfold State.AttentionLaw; decide +kernel⟩, by decide +kernel⟩

/-- SC0 scales 16 to -493 and 4079 to 1491, both in its window; 15 and 4080 mark an open or shorted sensor. -/
theorem test_meets_SampleArrivals :
    (16 ≤ (16#12 : BitVec 12).toNat ∧ (4079#12 : BitVec 12).toNat ≤ 4079 ∧ (-500 : Int) ≤ -500 + ((16 * 2000 / 4096 : Nat) : Int) ∧
      (-500 : Int) + ((4079 * 2000 / 4096 : Nat) : Int) ≤ 1499) ∧
    (¬ 16 ≤ (15#12 : BitVec 12).toNat ∧ ¬ (4080#12 : BitVec 12).toNat ≤ 4079) ∧
    cfg.part.state ≠ .init ∧ cfg.sns.channels[0].state = .absent ∧
    (let c := (chan cfg 0 fun c => { c with state := .warming, warmUp := .running 5 }).sns.channels[0];
      c.state = .warming ∧ c.warmUp ≠ .expired ∧ c.warmUp ≠ .stopped) ∧
    (let c := (chan cfg 0 fun c => { c with state := .warming, warmUp := .expired }).sns.channels[0];
      c.state = .warming ∧ c.warmUp = .expired) ∧
    (let c := (chan cfg 0 fun c => { c with state := .valid, lastGood := some 5 }).sns.channels[0];
      c.state = .valid ∧ c.lastGood = some 5) ∧
    (chan cfg 0 fun c => { c with state := .held }).sns.channels[0].state = .held ∧
    (let c := (chan cfg 0 fun c => { c with state := .failed, recovery := 2 }).sns.channels[0];
      c.state = .failed ∧ c.settings.recovery ≤ c.recovery + 1) ∧
    (let c := (chan cfg 0 fun c => { c with state := .failed, recovery := 1 }).sns.channels[0];
      c.state = .failed ∧ c.recovery + 1 < c.settings.recovery) ∧
    (chan cfg 0 fun c => { c with state := .forced }).sns.channels[0].state = .forced := by decide +kernel

theorem test_meets_ChannelTimers :
    cfg.part.state ≠ .init ∧ (chan cfg 8 fun c => { c with warmUp := .running 5 }).sns.channels[8].warmUp ≠ .stopped ∧
    (chan cfg 8 fun c => { c with state := .held, hold := some 5 }).sns.channels[8].hold.isSome = true := by decide +kernel

theorem test_meets_SetChannel :
    run.part.state = .run ∧ cfg.part.state = .config ∧ 14 < (15#8 : Byte).toNat ∧ 32767 < (32768#16 : Half).toNat ∧
    (-1 : Half).toInt < (0#16 : Half).toInt ∧ (32767#16 : Half).toNat ≤ 32767 ∧ (5#16 : Half).toInt ≤ (5#16 : Half).toInt ∧
    (let c := (chan cfg 8 fun c => { c with state := .failed }).sns.channels[8];
      c.state = .failed ∧ c.settings.failsafe ≠ (0#16 : Half).toInt ∧ c.settings.failsafe = (499#16 : Half).toInt) ∧
    cfg.sns.channels[8].state ≠ .failed := by decide +kernel

theorem test_meets_Overrides :
    cfg.part.state ≠ .init ∧ 3 < (4#8 : Byte).toNat ∧ 14 < (15#8 : Byte).toNat ∧ cfg.sns.channels[10].state = .absent ∧
    (let s := chan cfg 10 fun c => { c with state := .forced, slot := some 1 };
      s.sns.channels[10].state ≠ .absent ∧ ∃ j ∈ s.sns.channels[10].slot, j ≠ 0) ∧
    (let s := chan cfg 10 fun c => { c with state := .valid };
      s.sns.channels[10].slot = none ∧ s.sns.slots[0] = none) ∧
    (let s := (chan cfg 10 fun c => { c with state := .forced, slot := some 0 }).putSlot 0 (some ⟨10, 7⟩);
      s.sns.channels[10].slot = some 0 ∧ s.sns.slots[0] = some ⟨10, 7⟩) ∧
    (let s := ((chan cfg 10 fun c => { c with state := .valid }).putSlot 0 (some ⟨8, 7⟩));
      s.sns.channels[10].state ≠ .absent ∧ ∃ o ∈ s.sns.slots[0], o.channel ≠ 10) := by decide +kernel

theorem test_meets_AssessorReports :
    cfg.part.state ≠ .init ∧ cfg.asr[0].active = false ∧
    (let a := (assess cfg 0 fun a => { a with active := true, initialised := true, interval := 49 }).asr[0];
      a.active = true ∧ a.initialised = true ∧ a.settings.n ≤ a.interval + 1 ∧ a.level = .clear) ∧
    (let a := (assess cfg 0 fun a => { a with active := true, level := .unknown }).asr[0];
      a.active = true ∧ a.initialised = false) := by decide +kernel

theorem test_meets_SetAssess :
    cfg.part.state ≠ .init ∧ 2 < (3#8 : Byte).toNat ∧ ¬ (1 ≤ (0#8 : Byte).toNat ∧ (0#8 : Byte).toNat ≤ 64) ∧
    ¬ (1 ≤ (65#8 : Byte).toNat ∧ (65#8 : Byte).toNat ≤ 64) ∧
    (1 ≤ (1#8 : Byte).toNat ∧ (64#8 : Byte).toNat ≤ 64 ∧ (32767#16 : Half).toNat ≤ 32767 ∧ (15#8 : Byte).toNat ≤ 15 ∧
      1 ≤ (1#16 : Half).toNat ∧ (1#16 : Half).toNat ≤ (1#16 : Half).toNat) := by decide

/-- Admission in RUN at OPEN, everything CLEAR. -/
def admOpen : State :=
  { run with adm := { run.adm with accepted := .opened, ordered := #v[some 10, some 0, some 100] } }

/-- Admission in RUN at SEAL, released and on hold, with a purge running. -/
def admSeal : State :=
  { run with
    adm := { run.adm with
      accepted := .seal, hold := some 9, purge := some ⟨.running 9, .recirc⟩
      ordered := #v[some 0, some 100, some 0] } }

theorem test_meets_AdmissionEvents_open : admOpen.AdmissionLaw :=
  ⟨fun _ => ⟨by decide, by decide, by decide, by decide, by decide +kernel, by decide, by decide, by decide,
    by decide +kernel⟩, fun h => absurd rfl h⟩

theorem test_meets_AdmissionEvents_seal : admSeal.AdmissionLaw :=
  ⟨fun _ => ⟨by decide, by decide, by decide, by decide, by decide +kernel, by decide, by decide, by decide,
    by decide +kernel⟩, fun h => absurd rfl h⟩

/-- Every event brings ADM something in one of the two states. -/
theorem test_meets_AdmissionEvents :
    admOpen.part.state = .run ∧ admSeal.part.state = .run ∧
    (admOpen.admissionInput (.admLevelReport 2 .high)).isSome = true ∧
    (admOpen.admissionInput (.oatReport .usable (-101))).isSome = true ∧
    (admOpen.admissionInput (.sealReqChange true)).isSome = true ∧
    (admSeal.admissionInput (.sealReqChange false)).isSome = true ∧
    (admOpen.admissionInput (.doorChange 3 true)).isSome = true ∧
    (admOpen.admissionInput (.zonOutputChange (.fresh 100))).isSome = true ∧
    (admOpen.admissionInput (.zonOutputChange (.breathing true))).isSome = true ∧
    (admOpen.admissionInput (.damperStateReport (.damper 0 .jammed none))).isSome = true ∧
    (admOpen.admissionInput (.damperStateReport (.lane 1 .out))).isSome = true ∧
    (admSeal.admissionInput .admHoldTimerExpiry).isSome = true ∧
    (admSeal.admissionInput .purgeTimerExpiry).isSome = true ∧
    (admOpen.admissionInput (.setDirective 2#8)).isSome = true ∧
    (admOpen.admissionInput (.setAdmission 101#8 0#8 0#16 601#16 1#16 9#16 61#8)).isSome = true := by
  decide +kernel

theorem test_meets_AdmissionRequestsAndConfig :
    cfg.part.state = .config ∧ cfg.ddr.dampers[0].position = none ∧
    (let s := damp cfg 0 fun c => { c with state := .idle, position := some 1 };
      s.ddr.dampers[0].position = some 1 ∧ s.ddr.dampers[0].state = .idle ∧ s.ddr.seq + 1 < 4294967296 ∧
      ∀ l : LaneIx, s.ddr.lanes[l].state ≠ .free) ∧
    (let s := damp cfg 0 fun c => { c with state := .idle, position := some 0 };
      s.ddr.dampers[0].position = some 0 ∧ s.ddr.dampers[0].state = .idle ∧ s.ddr.queue = []) ∧
    (let s := inMotion; s.part.state = .config ∧ s.ddr.dampers[0].position.isSome = true) ∧
    run.part.state = .run ∧ 2 < (3#8 : Byte).toNat ∧ (0#8 : Byte).toNat = run.adm.directive.code := by
  decide +kernel

theorem test_meets_ZoneUpdates :
    (let s := zone run 3 fun r => { r with enabled := true, mode := .active, update := some 0 };
      s.part.state ≠ .init ∧ s.zon.zones[3].update.isSome = true ∧ s.sns.channels[(3 : ZoneIx).val + 2].state ≠ .valid ∧
      s.zon.zones[3].ordered ≠ some 0) ∧
    (let s := chan (zone run 0 fun r => { r with ordered := some 50, update := some 0 }) 2
        fun c => { c with state := .valid, value := 210 };
      s.sns.channels[(0 : ZoneIx).val + 2].state = .valid ∧ s.zon.zones[0].ordered = some 50) := by decide +kernel

theorem test_meets_ZoneOutputs :
    (zone run 1 fun r => { r with enabled := true }).zon.zones[1].enabled = true ∧
    ({ run.zon with defrost := true } : Zon).defrost = true ∧ (1 : ZoneIx).val < 2 ∧ 2 ≤ (2 : ZoneIx).val := by
  decide +kernel

theorem test_meets_ZoneRequests :
    3 < (4#8 : Byte).toNat ∧ 1 < (2#8 : Byte).toNat ∧ (1#8 : Byte).toNat ≤ 1 ∧ cfg.part.state = .config ∧
    run.part.state = .run ∧ run.zon.zones[0].enabled = false ∧
    (zone run 0 fun r => { r with enabled := true }).zon.zones[0].enabled = true := by decide +kernel

theorem test_meets_ZoneTuningAndCrew :
    3 < (4#8 : Byte).toNat ∧ 255 < (256#16 : Half).toNat ∧ 9999 < (10000#16 : Half).toNat ∧
    (800#16 : Half).toNat ≤ (800#16 : Half).toNat ∧
    ¬ (255 < (255#16 : Half).toNat ∨ 9999 < (9999#16 : Half).toNat ∨ (9999#16 : Half).toNat ≤ (9998#16 : Half).toNat) ∧
    cfg.part.state = .config ∧ run.part.state = .run := by decide

theorem test_meets_OrdersByDamperState :
    (rig.part.state = .config ∧ (1#8 : Byte).toNat ≤ 1 ∧ rig.DriveLaw ∧ rig.ddr.seq + 1 < 4294967296 ∧
      rig.ddr.dampers[3].state = .absent ∧ rig.ddr.dampers[1].state = .unhomed) ∧
    (let s := damp rig 1 fun c => { c with state := .jammed }; s.DriveLaw ∧ s.ddr.dampers[1].state = .jammed) ∧
    ((min 100 13 * 800 + 50) / 100 = 104 ∧ 104 ≤ 100 + 8 ∧ (min 100 14 * 800 + 50) / 100 = 112 ∧ ¬ 112 ≤ 100 + 8) ∧
    (let s := freed (idle 100); s.DriveLaw ∧ s.ddr.dampers[1].state = .idle ∧ s.ddr.dampers[1].target = some 100 ∧
      s.ddr.dampers[1].position ≠ some 112) ∧
    (let s := waitingMove 104 300; s.DriveLaw ∧ s.ddr.dampers[1].state = .waiting ∧
      s.ddr.queuedOrder 1 = some ⟨1, .move 300, .normal, .link, 0⟩ ∧ s.ddr.dampers[1].position = some 104) ∧
    (let s := waitingHome; s.DriveLaw ∧ s.ddr.queuedOrder 1 = some ⟨1, .home none, .normal, .link, 0⟩) ∧
    (let s := freed (moving 104 108); let c := s.ddr.dampers[1]; s.DriveLaw ∧ c.state = .moving ∧ c.overtravel = false ∧
      (104 < 112 ∧ 104 < 108) ∧ (96 < 104 ∧ 104 < 108) ∧ c.position = some 104 ∧ c.target = some 108 ∧ c.lane = some 0) ∧
    (let s := moving 0 9; let c := s.ddr.dampers[1]; s.DriveLaw ∧ c.overtravel = false ∧ c.position = some 0 ∧
      c.settings.homeOpen = false ∧ c.homeInput = false ∧ c.stepDue.isSome = true) ∧
    (let s := searching 0 7; s.DriveLaw ∧ s.ddr.dampers[1].overtravel = true) ∧
    (let s := homing none 0; s.DriveLaw ∧ s.ddr.dampers[1].state = .homing) ∧
    (let s := freed (settling 100 none); s.DriveLaw ∧ s.ddr.dampers[1].state = .settling ∧ s.ddr.dampers[1].lane = none) ∧
    (let s := reversing 100 90; s.DriveLaw ∧ s.ddr.dampers[1].state = .settling ∧
      s.ddr.dampers[1].lane.isSome = true) := by
  simp only [← lawful_iff]
  decide +kernel

theorem test_meets_LanesAreGranted :
    run.part.state = .run ∧ 7 < (8#8 : Byte).toNat ∧ 1 < (2#8 : Byte).toNat ∧
    (let s := freed (idle 100); s.DriveLaw ∧ s.part.state = .config ∧ s.ddr.queue = [] ∧ s.ddr.seq + 1 < 4294967296 ∧
      s.ddr.lanes[1].state = .free ∧ s.ddr.lanes[0].state ≠ .free ∧ s.ddr.dampers[1].state = .idle ∧
      s.ddr.dampers[1].target = some 100 ∧ 100 + 8 < 109 ∧ s.ddr.dampers[1].position ≠ some 109) ∧
    (let s := freed rig; s.DriveLaw ∧ s.ddr.dampers[1].state = .unhomed ∧ s.ddr.dampers[1].homeInput = false) ∧
    (let s := recovering (waitingMove 100 101); s.DriveLaw ∧ s.ddr.lanes[1].recovery.isSome = true ∧
      s.ddr.lanes[1].state = .out ∧ (∀ m : LaneIx, m ≠ 1 → s.ddr.lanes[m].state ≠ .free) ∧
      s.ddr.queue.head? = some ⟨1, .move 101, .normal, .link, 0⟩ ∧ s.ddr.dampers[1].position ≠ some 101) ∧
    (let s := recovering rig; s.ddr.queue = [] ∧ s.ddr.lanes[1].state = .out) ∧
    (let s := recovering waitingHome; s.DriveLaw ∧ s.ddr.lanes[1].recovery.isSome = true ∧
      s.ddr.queue.head? = some ⟨1, .home none, .normal, .link, 0⟩ ∧ s.ddr.dampers[1].homeInput = false) ∧
    (let s := damp (recovering waitingHome) 1 fun c => { c with homeInput := true };
      s.DriveLaw ∧ s.ddr.dampers[1].homeInput = true ∧ s.ddr.queue.tail = []) ∧
    (let s := lane (recovering (queue (damp (damp rig 1 fun c => { c with state := .waiting, position := some 100 }) 2
          fun c => { c with state := .waiting, position := some 100 })
        [⟨1, .move 101, .normal, .link, 0⟩, ⟨2, .move 99, .normal, .link, 1⟩])) 0 fun r => { r with state := .free };
      s.ddr.lanes[1].recovery.isSome = true ∧ (∀ m : LaneIx, m ≠ 1 → s.ddr.lanes[m].state = .free) ∧
      s.ddr.queue.head? = some ⟨1, .move 101, .normal, .link, 0⟩ ∧
      s.ddr.queue.tail.head? = some ⟨2, .move 99, .normal, .link, 1⟩ ∧ s.ddr.dampers[1].position ≠ some 101 ∧
      s.ddr.dampers[2].position ≠ some 99) := by
  simp only [← lawful_iff]
  decide +kernel

theorem test_meets_Steps :
    (let s := moving 100 102; let c := s.ddr.dampers[1]; s.part.state ≠ .init ∧ s.DriveLaw ∧ c.lane = some 0 ∧
      c.overtravel = false ∧ c.position = some 100 ∧ c.target = some 102 ∧ 100 + 1 ≠ 102) ∧
    (let s := beside (moving 100 101); s.DriveLaw ∧ s.ddr.dampers[1].target = some (100 + 1) ∧ s.ddr.queue ≠ []) ∧
    (let s := moving 1 0; let c := s.ddr.dampers[1]; s.DriveLaw ∧ c.target = some (1 - 1) ∧ c.homeInput = false ∧
      c.settings.homeOpen = false) ∧
    (14 + 1 < 16 ∧ 16 ≤ 15 + 1) ∧ (862 + 1 < 800 + 64 ∧ 800 + 64 ≤ 863 + 1) ∧
    (let s := beside (searching 0 15); s.DriveLaw ∧ s.ddr.dampers[1].overtravel = true ∧ s.ddr.dampers[1].stepCount = 15) ∧
    (let s := homing none 863; s.DriveLaw ∧ s.ddr.dampers[1].state = .homing ∧ s.ddr.dampers[1].stepCount = 863) := by
  simp only [← lawful_iff]
  decide +kernel

theorem test_meets_Settles :
    (let s := settling 100 none; s.part.state ≠ .init ∧ s.DriveLaw ∧ s.ddr.dampers[1].settle.isSome = true ∧
      s.ddr.dampers[1].lane = none ∧ s.ddr.dampers[1].deferred = none) ∧
    (let s := settling 100 (some ⟨108, .normal, .link⟩);
      s.DriveLaw ∧ s.ddr.dampers[1].deferred = some ⟨108, .normal, .link⟩ ∧ s.ddr.dampers[1].target = some 100 ∧
      108 ≤ 100 + 8) ∧
    (let s := freed (settling 100 (some ⟨109, .normal, .link⟩));
      s.DriveLaw ∧ s.ddr.dampers[1].position ≠ some 109 ∧ ¬ 109 ≤ 100 + 8 ∧ s.ddr.seq + 1 < 4294967296) ∧
    (let s := beside (reversing 100 100); s.DriveLaw ∧ s.ddr.dampers[1].settle.isSome = true ∧
      s.ddr.dampers[1].lane = some 0 ∧ s.ddr.dampers[1].target = s.ddr.dampers[1].position) ∧
    (let s := reversing 100 99; s.DriveLaw ∧ s.ddr.dampers[1].target ≠ s.ddr.dampers[1].position) := by
  simp only [← lawful_iff]
  decide +kernel

theorem test_meets_HomeInputs :
    (rig.part.state ≠ .init ∧ rig.DriveLaw ∧ rig.ddr.dampers[1].state ≠ .homing ∧ rig.ddr.dampers[1].state ≠ .moving) ∧
    (let s := beside (homing none 3); let c := s.ddr.dampers[1]; s.DriveLaw ∧ c.lane = some 0 ∧ c.state = .homing ∧
      c.pending.getD 0 = 0) ∧
    (let s := homing (some 1) 3; s.DriveLaw ∧ s.ddr.dampers[1].pending.getD 0 ≠ 0) ∧
    (let s := moving 17 0; let c := s.ddr.dampers[1]; s.DriveLaw ∧ c.position = some 17 ∧ c.target = some 0 ∧
      16 < (17 - 0) + (0 - 17) ∧ (16 - 0) + (0 - 16) ≤ 16) ∧
    (let s := moving 17 18; s.DriveLaw ∧ s.ddr.dampers[1].target ≠ some 0 ∧ (0 < 18 ↔ 17 < 18)) ∧
    (let s := moving 17 16; s.DriveLaw ∧ s.ddr.dampers[1].target ≠ some 0 ∧ ¬ (0 < 16 ↔ 17 < 16)) ∧
    (let s := searching 0 7; let c := s.ddr.dampers[1]; s.DriveLaw ∧ c.overtravel = true ∧ c.position = some 0 ∧
      c.target = some 0) ∧
    (let s := searching 1 7; s.DriveLaw ∧ s.ddr.dampers[1].target ≠ some 0) := by
  simp only [← lawful_iff]
  decide +kernel

theorem test_meets_LaneFaults :
    (rig.part.state ≠ .init ∧ rig.DriveLaw ∧ rig.ddr.lanes[0].state = .out ∧ rig.ddr.lanes[0].recovery = none) ∧
    (cfg.DriveLaw ∧ cfg.ddr.lanes[0].state = .absent) ∧
    (let s := lane rig 0 fun r => { r with state := .lockedOut }; s.DriveLaw ∧ s.ddr.lanes[0].state = .lockedOut) ∧
    (let s := freed rig; s.DriveLaw ∧ s.ddr.lanes[1].state = .free ∧ ¬ 2 ≤ s.ddr.lanes[1].history.length) ∧
    (let s := lane (recovering waitingHome) 1 fun r => { r with history := [0, 0] };
      s.DriveLaw ∧ s.ddr.lanes[1].state = .out ∧ s.ddr.lanes[1].recovery.isSome = true ∧
      2 ≤ s.ddr.lanes[1].history.length ∧ s.ddr.queue ≠ []) ∧
    (let s := freed (moving 5 9); s.DriveLaw ∧ s.ddr.lanes[0].state = .busy ∧ s.ddr.lanes[0].holder = some 1) := by
  simp only [← lawful_iff]
  decide +kernel

theorem test_meets_DriveRequests :
    (rig.part.state = .config ∧ rig.DriveLaw ∧ run.part.state = .run ∧ run.DriveLaw ∧ 7 < (8#8 : Byte).toNat ∧
      1 < (2#8 : Byte).toNat ∧ rig.ddr.seq + 1 < 4294967296) ∧
    (¬ 1 ≤ (0#16 : Half).toNat ∧ ¬ (2001#16 : Half).toNat ≤ 2000 ∧ 1 ≤ (1#16 : Half).toNat ∧ (2000#16 : Half).toNat ≤ 2000) ∧
    (rig.ddr.dampers[1].state = .unhomed ∧ rig.ddr.dampers[3].state = .absent) ∧
    (let s := freed (idle 100); s.DriveLaw ∧ s.ddr.dampers[1].state = .idle) ∧
    (let s := freed (damp rig 1 fun c => { c with state := .jammed }); s.DriveLaw ∧ s.ddr.dampers[1].state = .jammed) ∧
    (let s := homing none 0; s.DriveLaw ∧ s.ddr.dampers[1].state = .homing) ∧
    (let s := waitingMove 100 3; s.DriveLaw ∧ s.ddr.dampers[1].state = .waiting ∧
      s.ddr.queuedOrder 1 = some ⟨1, .move 3, .normal, .link, 0⟩) ∧
    (let s := waitingHome; s.DriveLaw ∧ s.ddr.queuedOrder 1 = some ⟨1, .home none, .normal, .link, 0⟩) ∧
    (let s := { waitingHome with part := { cfg.part with state := .run } };
      s.DriveLaw ∧ s.part.state = .run ∧ s.ddr.dampers[1].state = .waiting) ∧
    (let s := freed (moving 5 9); s.DriveLaw ∧ s.ddr.dampers[1].state = .moving ∧ s.ddr.dampers[1].lane = some 0) ∧
    (let s := freed (settling 100 (some ⟨9, .normal, .link⟩)); s.DriveLaw ∧ s.ddr.dampers[1].state = .settling ∧
      s.ddr.dampers[1].lane = none) ∧
    (cfg.DriveLaw ∧ cfg.ddr.lanes[1].state = .absent ∧ rig.ddr.lanes[1].state = .out) ∧
    (let s := lane rig 1 fun r => { r with state := .lockedOut, fltInput := true };
      s.DriveLaw ∧ s.ddr.lanes[1].state = .lockedOut ∧ s.ddr.lanes[1].fltInput = true) ∧
    (let s := lane waitingHome 1 fun r => { r with state := .lockedOut };
      s.DriveLaw ∧ s.ddr.lanes[1].state = .lockedOut ∧ s.ddr.queue ≠ []) := by
  simp only [← lawful_iff]
  decide +kernel

theorem test_meets_MoverUpdates :
    (let r := (mover run 0 fun r => { r with update := some 0 }).mov.movers[0];
      run.part.state ≠ .init ∧ r.update.isSome = true ∧ r.state = .off ∧ r.demand = 0) ∧
    0 < (mover run 0 fun r => { r with update := some 0, demand := 1 }).mov.movers[0].demand ∧
    (let r := (mover run 0 fun r => { r with state := .running, duty := 2 }).mov.movers[0];
      r.state = .running ∧ r.duty - min (max 1 (r.settings.rampRate / 10)) (r.duty - r.demand) = 0 ∧ r.demand = 0) ∧
    (let r := (mover run 0 fun r => { r with state := .running, duty := 3 }).mov.movers[0];
      r.state = .running ∧ ¬ r.duty - min (max 1 (r.settings.rampRate / 10)) (r.duty - r.demand) = 0) ∧
    (mover run 0 fun r => { r with state := .stalled }).mov.movers[0].state = .stalled ∧
    (mover run 0 fun r => { r with state := .failed }).mov.movers[0].state = .failed := by decide +kernel

theorem test_meets_FanSpeeds :
    run.part.state ≠ .init ∧ run.bound (.tach 0) = false ∧ (carry run 16 (.tach 0) id).bound (.tach 0) = true ∧
    run.mov.movers[0].lastEdge = none ∧
    (let s := { mover run 0 fun r => { r with lastEdge := some 4, edge := some 500004 } with now := 5 };
      s.mov.movers[0].lastEdge = some 4 ∧ 4 < s.now ∧ s.mov.movers[0].edge.isSome = true) ∧
    (let s := mover run 0 fun r => { r with lastEdge := some 0, edge := some 500000 };
      s.mov.movers[0].lastEdge = some 0 ∧ s.now ≤ 0) := by decide +kernel

theorem test_meets_MoverTimersAndRequests :
    run.part.state ≠ .init ∧ 2 < (3#8 : Byte).toNat ∧
    (mover run 2 fun r => { r with state := .running, stall := some 0, cleanRun := some 0 }).mov.movers[2].stall.isSome = true ∧
    (mover run 2 fun r => { r with state := .running, cleanRun := some 0 }).mov.movers[2].cleanRun.isSome = true ∧
    (let r := (mover run 2 fun r => { r with state := .stalled, restart := some 0, retry := 3 }).mov.movers[2];
      r.restart.isSome = true ∧ r.settings.retries < r.retry + 1) ∧
    (let r := (mover run 2 fun r => { r with state := .stalled, restart := some 0, retry := 2 }).mov.movers[2];
      r.retry + 1 ≤ r.settings.retries) ∧
    (mover run 2 fun r => { r with state := .failed }).mov.movers[2].state = .failed ∧ run.mov.movers[2].state ≠ .failed := by
  decide +kernel

theorem test_meets_MoverDemands : run.part.state ≠ .init := by decide

theorem test_meets_PressureLoopAndFilter :
    run.part.state ≠ .init ∧
    (let s := { run with mov := { run.mov with
        loop := { run.mov.loop with phase := .running, update := some 0, lost := some 0 }, filter := ⟨.timing, some 0⟩ } };
      s.mov.loop.update.isSome = true ∧ s.mov.loop.lost.isSome = true ∧ s.mov.filter.timer.isSome = true) := by decide +kernel

theorem test_meets_HeatInputs : run.part.state ≠ .init := by decide

theorem test_meets_HeaterEvents :
    run.part.state ≠ .init ∧
    (let r := (heater run fun r => { r with state := .prestart, ignition := some 0 }).heu.heater;
      r.state = .prestart ∧ r.ignition.isSome = true) ∧
    (let r := (heater run fun r => { r with state := .running, coolantRelease := some 0, demandRelease := some 0 }).heu.heater;
      r.state = .running ∧ r.coolantRelease.isSome = true ∧ r.demandRelease.isSome = true) ∧
    run.heu.heater.state ≠ .prestart ∧
    (let s := heater run fun r => { r with state := .cooldown, cooldown := some 0, attempts := 2 };
      s.heu.heater.cooldown.isSome = true ∧ 2 ≤ s.heu.heater.attempts) ∧
    (let s := { heater run fun r => { r with state := .cooldown, cooldown := some 0, attempts := 1 } with
        heu := { run.heu with demand := 40, cltStatus := .usable, clt := 599 } };
      1 < 2 ∧ s.heu.calls true = true) ∧ run.heu.calls true = false ∧
    KeptTimer.running 0 ≠ .expired := by decide +kernel

theorem test_meets_HeatRequests :
    run.part.state ≠ .init ∧ (40 ≤ 40 ∧ 600 ≤ 600) ∧ ¬ (40 ≤ 39 ∨ 601 ≤ 600) ∧ 1 < (2#8 : Byte).toNat ∧
    (1#8 : Byte).toNat ≤ 1 ∧ run.heu.heater.inhibit = decide ((0#8 : Byte) = 1#8) ∧ run.heu.heater.inhibit = false ∧
    (heater run fun r => { r with state := .prestart }).heu.heater.state = .prestart ∧
    (heater run fun r => { r with state := .cooldown }).heu.heater.state = .cooldown ∧ run.heu.heater.state = .off ∧
    (heater run fun r => { r with inhibit := true }).heu.heater.inhibit = true ∧
    (heater run fun r => { r with state := .locked }).heu.heater.state = .locked ∧ run.heu.heater.state ≠ .locked := by
  decide +kernel

theorem test_meets_Attention :
    cfg.part.state ≠ .init ∧
    (let s := source cfg asSettled fun r => { r with pending := true, count := 1 };
      s.atn.sources[asSettled].pending = true ∧ ∀ j : SourceIx, s.atn.sources[j].pending = true → j = asSettled) ∧
    (∀ j : SourceIx, cfg.atn.sources[j].pending = false) ∧ (1#16 : Half) ≠ 0#16 ∧
    (∃ j : SourceIx, 3 < ((Vector.replicate 16 (4#8 : Byte))[j]).toNat) ∧
    ¬ (∃ j : SourceIx, 3 < ((Vector.replicate 16 (3#8 : Byte))[j]).toNat) := by decide +kernel

end Sys2Proof.Tests
end

/-! The arithmetic of 00_scope: R1's RHA division. Every fact is proved at a magnitude first (`rha_natCast`) and carried to
the negative operands by the symmetry `rha_neg`. -/

namespace Sys2Proof.Machine

/-! ### RHA at a magnitude and its symmetry -/

/-- R1 with the sign dropped. At 0 the sign is 0, and half the divisor divided by the divisor is 0 too. -/
theorem rha_natCast (n d : Nat) : rha n d = ((n + d / 2) / d : Nat) := by
  obtain rfl | hn := Nat.eq_zero_or_pos n
  · have half_div : d / 2 / d = 0 := Nat.div_eq_zero_iff.mpr (by omega)
    simp [rha, half_div]
  · rw [rha, Int.sign_eq_one_of_pos (by omega), Int.natAbs_natCast, Int.one_mul]

@[simp] theorem rha_neg (x : Int) (d : Nat) : rha (-x) d = -rha x d := by
  simp [rha, Int.sign_neg]

theorem rha_of_nonneg {x : Int} (hx : 0 ≤ x) (d : Nat) : rha x d = (x + (d / 2 : Nat)) / d := by
  lift x to Nat using hx
  rw [rha_natCast, Int.natCast_div, Int.natCast_add]

theorem rha_of_neg {x : Int} (hx : x < 0) (d : Nat) : rha x d = -((-x + (d / 2 : Nat)) / d) := by
  rw [← rha_of_nonneg (by omega), rha_neg, Int.neg_neg]

/-! ### How far the rounded multiple lies from the operand -/

theorem rha_natCast_mul_le (n d : Nat) : rha n d * d ≤ n + (d / 2 : Nat) := by
  rw [rha_natCast]
  exact_mod_cast Nat.div_mul_le_self (n + d / 2) d

theorem lt_rha_natCast_mul_add (n : Nat) {d : Nat} (hd : 0 < d) : n + (d / 2 : Nat) < rha n d * d + d := by
  rw [rha_natCast]
  exact_mod_cast Nat.lt_div_mul_add hd

/-- A multiple as far as half a divisor below the magnitude would leave the floor a whole divisor short, so a tie lies
above it: this is where RHA rounds away from 0. -/
theorem rha_natCast_nearest (n : Nat) {d : Nat} (hd : 0 < d) :
    (rha n d * d - n).natAbs * 2 ≤ d ∧ ((rha n d * d - n).natAbs * 2 = d → n ≤ (rha n d * d).natAbs) := by
  have le_above := rha_natCast_mul_le n d
  have lt_next := lt_rha_natCast_mul_add n hd
  omega

theorem rha_nearest (x : Int) {d : Nat} (hd : 0 < d) :
    (rha x d * d - x).natAbs * 2 ≤ d ∧
      ((rha x d * d - x).natAbs * 2 = d → x.natAbs ≤ (rha x d * d).natAbs) := by
  obtain ⟨n, rfl | rfl⟩ := x.eq_nat_or_neg
  · exact rha_natCast_nearest n hd
  · have mirrored : rha (-n) d * d - -n = -(rha n d * d - n) := by rw [rha_neg]; ring
    rw [mirrored, rha_neg, Int.neg_mul, Int.natAbs_neg, Int.natAbs_neg, Int.natAbs_neg]
    exact rha_natCast_nearest n hd

end Sys2Proof.Machine

namespace Sys2Proof

open Sys2Proof.Machine

/-- Settles O22: R1's definition by the sign of the operand, its symmetry and the rounding bound. The divisor's being even
is not needed. -/
theorem rhaRoundsHalfAway : Obligations.RhaRoundsHalfAway :=
  fun x d hd _ => ⟨fun hx => rha_of_nonneg hx d, fun hx => rha_of_neg hx d, rha_neg x d, rha_nearest x hd⟩

end Sys2Proof

/-! Sensor Channels (01): what a sample makes of a channel in each state, then the slots' forcing and release. The events and
requests hand the report of the record that they leave, so each is a `State.channelReports`. -/

namespace Sys2Proof.Machine

/-! ### A channel's record and its report -/

theorem State.channelReports_eq (s : State) (ch : ChannelIx) (c : Channel) :
    s.channelReports ch c =
      { s with
        sns := { s.sns with channels := s.sns.channels.set ch c }
        handed := s.handed ++ (reportEvent ch c.state.status c.value).toList } := rfl

/-- R14: the report that follows a change of a channel carries the status and value of the new record. -/
theorem State.putChannel_report (s : State) (ch : ChannelIx) (c : Channel) :
    (s.putChannel ch c).report ch = s.channelReports ch c := by
  simp [State.report_eq, State.channelReports_eq]

theorem State.channelReports_channel_ne (s : State) {ch k : ChannelIx} (c : Channel) (h : ch ≠ k) :
    (s.channelReports ch c).sns.channels[k] = s.sns.channels[k] := by
  simp [State.channelReports, Vector.getElem_set_ne, Fin.val_ne_of_ne h]

/-! ### A sample by the state of its channel -/

/-- R6: the open-short window and the channel's range. -/
theorem plausible_iff (set : ChannelSettings) (raw : Nat) (v : Int) :
    plausible set raw v = true ↔ 16 ≤ raw ∧ raw ≤ 4079 ∧ set.low ≤ v ∧ v ≤ set.high := by
  simp [plausible, and_assoc]

/-- R6: the verdict on a channel's scaled sample. -/
def Channel.verdict (c : Channel) (raw : Nat) : Bool := plausible c.settings raw (scaledSample c.settings raw)

section Sample

variable {c : Channel} (now : Time) {raw : Nat} {good : Bool}

theorem Channel.sample_of_warmingUp (h : c.state = .warming) (expired : c.warmUp ≠ .expired)
    (stopped : c.warmUp ≠ .stopped) (judged : c.verdict raw = good) :
    c.sample now raw =
      ({ c with raw := raw } : Channel).sampleWarming (scaledSample c.settings raw) good := by
  cases timer : c.warmUp with
  | stopped => exact absurd timer stopped
  | running due => simp [Channel.sample, ← judged, Channel.verdict, h, timer]
  | expired => exact absurd timer expired

theorem Channel.sample_of_warm (h : c.state = .warming) (expired : c.warmUp = .expired)
    (judged : c.verdict raw = good) :
    c.sample now raw =
      ({ c with raw := raw } : Channel).sampleWarm now (scaledSample c.settings raw) good := by
  simp [Channel.sample, ← judged, Channel.verdict, h, expired]

theorem Channel.sample_of_valid (h : c.state = .valid) (judged : c.verdict raw = good) :
    c.sample now raw =
      ({ c with raw := raw } : Channel).sampleValid now (scaledSample c.settings raw) good := by
  simp [Channel.sample, ← judged, Channel.verdict, h]

theorem Channel.sample_of_held (h : c.state = .held) (judged : c.verdict raw = good) :
    c.sample now raw =
      ({ c with raw := raw } : Channel).sampleHeld (scaledSample c.settings raw) good := by
  simp [Channel.sample, ← judged, Channel.verdict, h]

theorem Channel.sample_of_failed (h : c.state = .failed) (judged : c.verdict raw = good) :
    c.sample now raw =
      ({ c with raw := raw } : Channel).sampleFailed (scaledSample c.settings raw) good := by
  simp [Channel.sample, ← judged, Channel.verdict, h]

theorem Channel.sample_of_forced (raw : Nat) (h : c.state = .forced) : c.sample now raw = { c with raw := raw } := by
  simp [Channel.sample, h]

end Sample

/-! ### What a verdict makes of the record, where it is not read off the definition -/

section Verdict

variable (c : Channel) (now : Time) (v : Int)

/-- R9: an implausible sample starts the hold timer, where it does not run already. -/
theorem Channel.sampleWarm_bad :
    c.sampleWarm now v false =
      { c with value := v, hold := if c.hold.isSome then c.hold else some (now + c.settings.hold * 1000) } := by
  cases running : c.hold <;> simp [Channel.sampleWarm, startIfStopped, inMs, running]

/-- R10: an implausible sample holds the last good value. -/
theorem Channel.sampleValid_bad {g : Int} (last : c.lastGood = some g) :
    c.sampleValid now v false = { c with state := .held, value := g, hold := some (now + c.settings.hold * 1000) } := by
  simp [Channel.sampleValid, inMs, last]

/-- R12: the plausible sample that completes the recovery. -/
theorem Channel.sampleFailed_recovers (enough : c.settings.recovery ≤ c.recovery + 1) :
    c.sampleFailed v true = { c.toValid v with recovery := 0 } := by
  simp [Channel.sampleFailed, enough]

/-- R12: a plausible sample that the recovery counts. -/
theorem Channel.sampleFailed_counts (short : c.recovery + 1 < c.settings.recovery) :
    c.sampleFailed v true = { c with recovery := c.recovery + 1, lastGood := some v } := by
  simp [Channel.sampleFailed, Nat.not_le.mpr short]

end Verdict

/-! ### A sample arrival -/

theorem execSampleArrival_absent (ch : ChannelIx) (raw : BitVec 12) (s : State) (outside : s.part.state ≠ .init)
    (h : s.sns.channels[ch].state = .absent) : execSampleArrival ch raw s = .next s := by
  rw [execSampleArrival, State.own_next s _ outside, State.channel_eq, if_pos h]

/-- R4: a bound channel takes the sample and reports (R14). -/
theorem execSampleArrival_bound (ch : ChannelIx) (raw : BitVec 12) (s : State) (outside : s.part.state ≠ .init)
    (h : s.sns.channels[ch].state ≠ .absent) :
    execSampleArrival ch raw s = .next (s.channelReports ch (s.sns.channels[ch].sample s.now raw.toNat)) := by
  simp only [execSampleArrival, State.own_next s _ outside, State.channel_eq, if_neg h, State.putChannel_report]

/-! ### Forcing and release -/

/-- R18: the slot is emptied and its channel released, with a report. -/
theorem State.releaseSlot_some (s : State) {i : SlotIx} {o : Override} (h : s.sns.slots[i] = some o) :
    s.releaseSlot i =
      (s.putSlot i none).channelReports o.channel (s.sns.channels[o.channel].releasedFrom s.now o.value) := by
  simp only [State.releaseSlot, h, State.putChannel_report]
  rfl

theorem State.releaseSlot_none (s : State) {i : SlotIx} (h : s.sns.slots[i] = none) : s.releaseSlot i = s := by
  simp only [State.releaseSlot, h]

/-- R16: an empty slot, or one that holds the channel already, forces it and nothing else. -/
theorem State.force_same (s : State) {i : SlotIx} {ch : ChannelIx} (v : Int)
    (h : ∀ o ∈ s.sns.slots[i], o.channel = ch) :
    s.force i ch v = (s.putSlot i (some ⟨ch, v⟩)).channelReports ch (s.sns.channels[ch].forcedBy i v) := by
  cases held : s.sns.slots[i] with
  | none => simp only [State.force, held, State.putChannel_report]; rfl
  | some o => simp only [State.force, held, h o held, if_true, State.putChannel_report]; rfl

/-- R16: a slot that holds another channel releases it first. The slot ends as if it had been filled at the start. -/
theorem State.force_other (s : State) {i : SlotIx} {ch : ChannelIx} (v : Int) {o : Override}
    (held : s.sns.slots[i] = some o) (other : o.channel ≠ ch) :
    s.force i ch v =
      ((s.putSlot i (some ⟨ch, v⟩)).channelReports o.channel
        (s.sns.channels[o.channel].releasedFrom s.now o.value)).channelReports ch (s.sns.channels[ch].forcedBy i v) := by
  have untouched : (s.releaseSlot i).sns.channels[ch] = s.sns.channels[ch] := by
    rw [s.releaseSlot_some held, State.channelReports_channel_ne _ _ other, State.putSlot_sns]
  have filled : (s.releaseSlot i).putSlot i (some ⟨ch, v⟩) =
      (s.putSlot i (some ⟨ch, v⟩)).channelReports o.channel
        (s.sns.channels[o.channel].releasedFrom s.now o.value) := by
    simp [s.releaseSlot_some held, State.channelReports, State.putSlot]
  simp only [State.force, held, if_neg other, State.putChannel_report, State.channel_eq, untouched, filled]
  rfl

/-! ### The override requests -/

/-- A request answered with a STATUS alone and nothing else done. -/
theorem State.strike_status (s : State) (c : Instr) (r : Req) (status : StatusCode) :
    (s.strike c).status r status = s.replied c (r.code + 0x80#8) [status.code] := by
  simp only [State.status, State.answer, State.sendReply, replyKind_code]
  rfl

theorem State.putSlot_status (s : State) (i : SlotIx) (o : Option Override) (r : Req) (status : StatusCode) :
    (s.putSlot i o).status r status = (s.status r status).putSlot i o := rfl

theorem State.channelReports_status (s : State) (ch : ChannelIx) (c : Channel) (r : Req) (status : StatusCode) :
    (s.channelReports ch c).status r status = (s.status r status).channelReports ch c := rfl

section OverrideRequests

variable {s : State} (outside : s.part.state ≠ .init)
include outside

theorem execSetOverride_range (slot channel : Byte) (value : Half) (h : 3 < slot.toNat ∨ 14 < channel.toNat) :
    execSetOverride slot channel value s = .next (s.replied (.setOverride slot channel value) 0x92#8 [19#8]) := by
  rw [execSetOverride, State.take_next _ _ _ outside]
  obtain noSlot | noChannel := h
  · simp only [indexOf_none 4 slot noSlot, State.strike_status]
    rfl
  · simp only [indexOf_none 15 channel noChannel, State.strike_status]
    cases indexOf 4 slot <;> rfl

theorem execClearOverride_range (slot : Byte) (h : 3 < slot.toNat) :
    execClearOverride slot s = .next (s.replied (.clearOverride slot) 0x93#8 [19#8]) := by
  simp only [execClearOverride, State.take_next _ _ _ outside, indexOf_none 4 slot h, State.strike_status]
  rfl

/-- R16: what SET_OVERRIDE does at a slot and a channel in range. -/
theorem execSetOverride_eq (i : SlotIx) (ch : ChannelIx) (value : Half) :
    let set : Instr := .setOverride (BitVec.ofNat 8 i.val) (BitVec.ofNat 8 ch.val) value
    let c := s.sns.channels[ch]
    execSetOverride (BitVec.ofNat 8 i.val) (BitVec.ofNat 8 ch.val) value s = .next (
      if c.state = .absent then s.replied set 0x92#8 [23#8]
      else if c.slot ≠ none ∧ c.slot ≠ some i then s.replied set 0x92#8 [24#8]
      else ((s.strike set).force i ch value.toInt).status .setOverride .ok) := by
  simp only [execSetOverride, State.take_next _ _ _ outside, indexOf_ofNat 4 i (by decide),
    indexOf_ofNat 15 ch (by decide), State.strike_status, State.channel_eq, State.strike_sns]
  rfl

/-- R18: what CLEAR_OVERRIDE does at a slot in range. -/
theorem execClearOverride_eq (i : SlotIx) :
    execClearOverride (BitVec.ofNat 8 i.val) s =
      .next (((s.strike (.clearOverride (BitVec.ofNat 8 i.val))).releaseSlot i).status .clearOverride .ok) := by
  simp only [execClearOverride, State.take_next _ _ _ outside, indexOf_ofNat 4 i (by decide)]

end OverrideRequests

end Sys2Proof.Machine

namespace Sys2Proof

open Sys2Proof.Machine

/-- Settles O33, by the state of the channel and then the verdict. -/
theorem sampleArrivals : Obligations.SampleArrivals := by
  intro ch raw s outside c v good valid started becomes
  have verdict_good (g : good) : c.verdict raw.toNat = true := (plausible_iff _ _ _).mpr g
  have verdict_bad (g : ¬ good) : c.verdict raw.toNat = false :=
    Bool.eq_false_iff.mpr fun p => g ((plausible_iff _ _ _).mp p)
  have becomes_of {c' : Channel} {st : ChannelState} (state : c.state = st) (bound : st ≠ .absent)
      (sampled : c.sample s.now raw.toNat = c') : becomes c' := by
    rw [← sampled]
    exact execSampleArrival_bound ch raw s outside (state ▸ bound)
  refine ⟨execSampleArrival_absent ch raw s outside, fun h expired stopped => ?warmingUp, fun h expired => ?warm,
    fun h => ?valid, fun h => ?held, fun h => ?failed, fun h => ?forced⟩
  case warmingUp =>
    exact ⟨fun g => becomes_of h (by decide) (Channel.sample_of_warmingUp _ h expired stopped (verdict_good g)),
      fun g => becomes_of h (by decide) (Channel.sample_of_warmingUp _ h expired stopped (verdict_bad g))⟩
  case warm =>
    refine ⟨fun g => becomes_of h (by decide) (Channel.sample_of_warm _ h expired (verdict_good g)),
      fun g => becomes_of h (by decide) ((Channel.sample_of_warm _ h expired (verdict_bad g)).trans ?_)⟩
    exact Channel.sampleWarm_bad _ _ _
  case valid =>
    refine ⟨fun g => becomes_of h (by decide) (Channel.sample_of_valid _ h (verdict_good g)),
      fun g _ last => becomes_of h (by decide) ((Channel.sample_of_valid _ h (verdict_bad g)).trans ?_)⟩
    exact Channel.sampleValid_bad _ _ _ last
  case held =>
    exact ⟨fun g => becomes_of h (by decide) (Channel.sample_of_held _ h (verdict_good g)),
      fun g => becomes_of h (by decide) (Channel.sample_of_held _ h (verdict_bad g))⟩
  case failed =>
    refine ⟨fun g enough => becomes_of h (by decide) ((Channel.sample_of_failed _ h (verdict_good g)).trans ?_),
      fun g short => becomes_of h (by decide) ((Channel.sample_of_failed _ h (verdict_good g)).trans ?_),
      fun g => becomes_of h (by decide) (Channel.sample_of_failed _ h (verdict_bad g))⟩
    · exact Channel.sampleFailed_recovers _ _ enough
    · exact Channel.sampleFailed_counts _ _ short
  case forced => exact becomes_of h (by decide) (Channel.sample_of_forced s.now raw.toNat h)

/-- Settles O36: the refusals in order, then the slot by what it holds. -/
theorem overrides : Obligations.Overrides := by
  intro slot channel i ch value s outside c raw set clear slots taken u
  have force_eq (h : c.state ≠ .absent) (free : c.slot = none ∨ c.slot = some i) :
      exec set s = .next (((s.strike set).force i ch value.toInt).status .setOverride .ok) := by
    have mine : ¬ (c.slot ≠ none ∧ c.slot ≠ some i) := by tauto
    exact (execSetOverride_eq outside i ch value).trans (by rw [if_neg h, if_neg mine])
  refine ⟨execSetOverride_range outside slot channel value, execClearOverride_range outside slot, fun absent => ?absent,
    fun bound other => ?duplicate, fun bound free => ⟨fun same => ?same, fun o held other => ?other⟩,
    fun empty => ?clearEmpty, fun o held => ?clearHeld⟩
  case absent => exact (execSetOverride_eq outside i ch value).trans (by rw [if_pos absent])
  case duplicate =>
    obtain ⟨j, slotted, ne⟩ := other
    have elsewhere : c.slot ≠ none ∧ c.slot ≠ some i := by
      rw [Option.mem_def.mp slotted]
      exact ⟨Option.some_ne_none j, fun e => ne (Option.some.inj e)⟩
    exact (execSetOverride_eq outside i ch value).trans (by rw [if_neg bound, if_pos elsewhere])
  case same =>
    rw [force_eq bound free, (s.strike set).force_same _ same, State.channelReports_status, State.putSlot_status,
      State.strike_status]
    rfl
  case other =>
    rw [force_eq bound free, (s.strike set).force_other _ held other, State.channelReports_status,
      State.channelReports_status, State.putSlot_status, State.strike_status]
    rfl
  case clearEmpty =>
    refine (execClearOverride_eq outside i).trans ?_
    rw [(s.strike clear).releaseSlot_none empty, State.strike_status]
    rfl
  case clearHeld =>
    refine (execClearOverride_eq outside i).trans ?_
    rw [(s.strike clear).releaseSlot_some held, State.channelReports_status, State.putSlot_status, State.strike_status]
    rfl

end Sys2Proof

/-! Contamination assessment (02_contamination_assessment): the stages of one sample, then an assessor's action on a
channel report by the status that it carries. -/

namespace Sys2Proof.Machine

/-! ### The persistence stage -/

/-- R32: the candidate with every threshold lowered by `h`. The two candidates are this one at 0 and at the hysteresis. -/
def Assessor.candidate (a : Assessor) (h : Int) : Level :=
  if (a.settings.high : Int) - h ≤ a.s ∨ (a.settings.abs : Int) - h ≤ a.f then .high
  else if (a.settings.low : Int) - h ≤ a.s then .elevated
  else .clear

section Stages

variable (a : Assessor)

theorem Assessor.upCandidate_eq : a.upCandidate = a.candidate 0 := by
  simp only [Assessor.upCandidate, Assessor.candidate, sub_zero, Nat.cast_le]

theorem Assessor.downCandidate_eq : a.downCandidate = a.candidate a.settings.h := rfl

/-- R33: a candidate on one side of the level is counted until its count is complete. -/
theorem Assessor.persisted_eq :
    a.persisted =
      if a.level.rank < (a.candidate 0).rank then
        if a.up + 1 < a.settings.p then { a with up := a.up + 1, down := 0 }
        else { a with level := a.candidate 0, up := 0, down := 0 }
      else if (a.candidate a.settings.h).rank < a.level.rank then
        if a.down + 1 < a.settings.d then { a with up := 0, down := a.down + 1 }
        else { a with level := a.candidate a.settings.h, up := 0, down := 0 }
      else { a with up := 0, down := 0 } := rfl

/-- The model asks whether a count is complete, the statement whether it is still short. -/
theorem Assessor.persist_eq_persisted : a.persist = a.persisted := by
  simp only [Assessor.persist, Assessor.persisted_eq, Assessor.upCandidate_eq, Assessor.downCandidate_eq,
    ← Nat.not_lt, ite_not]

/-! ### One sample -/

/-- R35: the interval counts on, or ends and lets a CLEAR record learn. -/
theorem Assessor.intervalStage_eq :
    a.intervalStage =
      { a with
        interval := if a.settings.n ≤ a.interval + 1 then 0 else a.interval + 1
        b := if a.settings.n ≤ a.interval + 1 ∧ a.level = .clear then
            baselineUpdate a.settings.beta a.settings.ceiling a.b a.f
          else a.b } := by
  by_cases ends : a.settings.n ≤ a.interval + 1
  · simp only [Assessor.intervalStage, ends, true_and, if_true]
  · simp only [Assessor.intervalStage, ends, false_and, if_false]

/-- R26: the stages of a sample at an initialised record, up to the persistence stage. -/
theorem Assessor.process_eq (v : Nat) :
    let f := fastFilter a.settings.alpha a.f v
    let ends : Prop := a.settings.n ≤ a.interval + 1
    let b := if ends ∧ a.level = .clear then baselineUpdate a.settings.beta a.settings.ceiling a.b f else a.b
    a.process v =
      ({ a with f := f, b := b, s := f - b, interval := if ends then 0 else a.interval + 1 } : Assessor).persisted := by
  rw [Assessor.process, Assessor.persist_eq_persisted, Assessor.intervalStage_eq]
  rfl

/-- R27: the record that a first sample makes, up to the persistence stage. -/
theorem Assessor.initialise_eq (v : Nat) :
    a.initialise v =
      ({ a with
        active := true, initialised := true, f := v, b := min v a.settings.ceiling
        s := v - min v a.settings.ceiling, level := .clear, up := 0, down := 0, interval := 0 } : Assessor).persisted := by
  rw [Assessor.initialise, Assessor.persist_eq_persisted]
  rfl

end Stages

/-! ### A usable and a held report, by the record that they meet -/

section Reports

variable {a : Assessor}

theorem Assessor.sample_of_initialised (value : Int) (active : a.active = true) (initialised : a.initialised = true) :
    a.sample value = a.process value.toNat := if_pos ⟨active, initialised⟩

theorem Assessor.sample_of_not_initialised (value : Int) (h : a.active = false ∨ a.initialised = false) :
    a.sample value = a.initialise value.toNat := by
  obtain inactive | fresh := h
  · exact if_neg fun both => Bool.false_ne_true (inactive.symm.trans both.1)
  · exact if_neg fun both => Bool.false_ne_true (fresh.symm.trans both.2)

theorem Assessor.pause_of_active (active : a.active = true) : a.pause = a := if_pos active

theorem Assessor.pause_of_inactive (inactive : a.active = false) :
    a.pause = { a with active := true, initialised := false, level := .clear } :=
  if_neg (Bool.eq_false_iff.mp inactive)

end Reports

/-! ### The report at the part -/

/-- R26, R34: the report waits no longer, its assessor acts on it, and a changed level is handed to ADM. -/
theorem execAssessorChannelReport_next (i : AssessorIx) (status : Status) (value : Int) {s : State}
    (outside : s.part.state ≠ .init) :
    let a := s.asr[i]
    let a' := a.takeReport status value
    let cmd : Instr := .assessorChannelReport i status value
    execAssessorChannelReport i status value s =
      .next { s with
        asr := s.asr.set i a'
        handed := s.handed.erase cmd ++ (if a'.level = a.level then [] else [.admLevelReport i a'.level]) } := by
  intro a a' cmd
  refine (State.take_next s cmd _ outside).trans (congrArg _ ?_)
  show (if a'.level = a.level then (s.strike cmd).putAssessor i a'
    else ((s.strike cmd).putAssessor i a').hand (.admLevelReport i a'.level)) = _
  by_cases kept : a'.level = a.level
  · rw [if_pos kept, if_pos kept, List.append_nil]
    rfl
  · rw [if_neg kept, if_neg kept]
    rfl

end Sys2Proof.Machine

namespace Sys2Proof

open Sys2Proof.Machine

/-- Settles O37, by the status of the report and then what the record was. -/
theorem assessorReports : Obligations.AssessorReports := by
  intro i status value s outside a c cmd v becomes ends f b
  have becomes_of {a' : Assessor} {st : Status} (is : status = st) (acts : a.takeReport st value = a') : becomes a' := by
    rw [← acts, ← is]
    exact execAssessorChannelReport_next i status value outside
  refine ⟨fun usable new => ?initialise, fun usable active initialised => ?process, fun held active => ?pause,
    fun held inactive => ?wake, fun failed => becomes_of failed rfl, fun absent => becomes_of absent rfl⟩
  case initialise =>
    exact becomes_of usable ((Assessor.sample_of_not_initialised value new).trans (a.initialise_eq v))
  case process =>
    exact becomes_of usable ((Assessor.sample_of_initialised value active initialised).trans (a.process_eq v))
  case pause => exact becomes_of held (Assessor.pause_of_active active)
  case wake => exact becomes_of held (Assessor.pause_of_inactive inactive)

end Sys2Proof

/-! Zones and Crew Demand (04): the tuning and crew requests. A request that stores settings answers as a plain reply does,
so each is a `State.replied` with the settings laid over it; in RUN the group demands are formed again on top. -/

namespace Sys2Proof.Machine

/-! ### A reply beside a changed record of ZON -/

/-- R189: OK exactly where nothing was clamped. -/
theorem clampStatus_code (changed : Bool) : (clampStatus changed).code = if changed then 1#8 else 0#8 := by
  cases changed <;> rfl

theorem State.putZone_status (s : State) (z : ZoneIx) (c : Zone) (r : Req) (status : StatusCode) :
    (s.putZone z c).status r status = (s.status r status).putZone z c := rfl

/-- The tuning settings replaced, and nothing formed from them yet. -/
def State.tuned (s : State) (c : Tuning) : State := { s with zon := { s.zon with tuning := c } }

theorem State.tuned_status (s : State) (c : Tuning) (r : Req) (status : StatusCode) :
    (s.tuned c).status r status = (s.status r status).tuned c := rfl

theorem State.setOutputs_status (s : State) (o : ZonOutputs) (r : Req) (status : StatusCode) :
    (s.setOutputs o).status r status = (s.status r status).setOutputs o := rfl

/-! ### The group demands formed again -/

/-- R81: the outputs as they stand, with the group demands that the stored blower demands give. -/
def Zon.regrouped (r : Zon) : ZonOutputs := { r.out with front := r.outputs.front, rear := r.outputs.rear }

theorem State.recomputeGroups_of_run {s : State} (run : s.part.state = .run) :
    s.recomputeGroups = s.setOutputs s.zon.regrouped := by
  simp only [State.recomputeGroups, s.inRun_iff.mpr run, if_true]
  rfl

/-- R88: the demands are stored, so the tuning does not show in the outputs before a zone's next update. -/
theorem State.tuned_regrouped (s : State) (c : Tuning) : (s.tuned c).zon.regrouped = s.zon.regrouped := rfl

theorem front_mem_outputEvents {old new : ZonOutputs} (changed : old.front ≠ new.front) :
    .groupDemandChange .front new.front ∈ outputEvents old new := by
  simp [outputEvents, changed.symm]

theorem rear_mem_outputEvents {old new : ZonOutputs} (changed : old.rear ≠ new.rear) :
    .groupDemandChange .rear new.rear ∈ outputEvents old new := by
  simp [outputEvents, changed.symm]

/-! ### The tuning sent -/

/-- R88: the refusals. -/
theorem Tuning.refusable_iff (c : Tuning) :
    c.refusable = true ↔
      255 < c.kp ∨ 255 < c.ki ∨ 9999 < c.co2Low ∨ 9999 < c.co2High ∨ c.co2High ≤ c.co2Low := by
  simp only [Tuning.refusable, Bool.or_eq_true, decide_eq_true_eq, or_assoc]

/-- R88: the ranges. A natural number needs no lower end at 0. -/
theorem Tuning.clamp_eq (c : Tuning) :
    c.clamp =
      { c with
        minBlower := min 100 c.minBlower, hardLimit := max 1 (min 9999 c.hardLimit)
        occupantFresh := min 25 c.occupantFresh, discharge := max (-500) (min 1499 c.discharge) } := by
  simp only [Tuning.clamp, clampNat, clampInt, Nat.zero_max]

/-- R88, R189: the STATUS of an accepted tuning. -/
def Tuning.statusByte (c : Tuning) : Byte := if c.clamp = c then 0#8 else 1#8

/-- The model compares as a Boolean the settings stored with those sent. -/
theorem Tuning.clampStatus_code_clamp (c : Tuning) : (clampStatus (c.clamp != c)).code = c.statusByte := by
  by_cases kept : c.clamp = c <;> simp [clampStatus_code, Tuning.statusByte, kept]

/-! ### The requests -/

section ZoneSettingRequests

variable {s : State} (outside : s.part.state ≠ .init)
include outside

theorem execSetCrew_range (zone occupancy : Byte) (h : 3 < zone.toNat) :
    execSetCrew zone occupancy s = .next (s.replied (.setCrew zone occupancy) 0xAA#8 [19#8]) := by
  simp only [execSetCrew, State.take_next _ _ _ outside, indexOf_none 4 zone h, State.strike_status]
  rfl

/-- R89: the occupancy is stored, and nothing is formed from it. -/
theorem execSetCrew_eq (z : ZoneIx) (occupancy : Byte) :
    let crew : Instr := .setCrew (BitVec.ofNat 8 z.val) occupancy
    execSetCrew (BitVec.ofNat 8 z.val) occupancy s =
      .next ((s.replied crew 0xAA#8 [if 4 < occupancy.toNat then 1#8 else 0#8]).putZone z
        { s.zon.zones[z] with occupancy := min 4 occupancy.toNat }) := by
  simp only [execSetCrew, State.take_next _ _ _ outside, indexOf_ofNat 4 z (by decide), State.putZone_status,
    State.strike_status, clampStatus_code, decide_eq_true_eq, Nat.min_comm 4]
  rfl

variable (kp ki : Half) (minBlower : Byte) (co2Low co2High hardLimit : Half) (occupantFresh : Byte) (discharge : Half)

theorem execSetZoneTuning_refused :
    let tune : Instr := .setZoneTuning kp ki minBlower co2Low co2High hardLimit occupantFresh discharge
    let sent := tuningOf kp ki minBlower co2Low co2High hardLimit occupantFresh discharge
    sent.refusable = true →
      execSetZoneTuning kp ki minBlower co2Low co2High hardLimit occupantFresh discharge s =
        .next (s.replied tune 0xA9#8 [19#8]) := by
  intro tune sent refused
  refine (State.take_next s tune _ outside).trans (congrArg _ ((if_pos refused).trans ?_))
  exact State.strike_status s tune .setZoneTuning .range

/-- R88: outside RUN the tuning is stored, and nothing is formed from it. -/
theorem execSetZoneTuning_config :
    let tune : Instr := .setZoneTuning kp ki minBlower co2Low co2High hardLimit occupantFresh discharge
    let sent := tuningOf kp ki minBlower co2Low co2High hardLimit occupantFresh discharge
    ¬ sent.refusable = true → s.part.state ≠ .run →
      execSetZoneTuning kp ki minBlower co2Low co2High hardLimit occupantFresh discharge s =
        .next ((s.replied tune 0xA9#8 [sent.statusByte]).tuned sent.clamp) := by
  intro tune sent accepted idle
  refine (State.take_next s tune _ outside).trans (congrArg _ ((if_neg accepted).trans ?_))
  show (if s.inRun = true then _ else (s.strike tune).tuned sent.clamp).status .setZoneTuning _ = _
  rw [if_neg (mt s.inRun_iff.mp idle), State.tuned_status, State.strike_status, Tuning.clampStatus_code_clamp]
  rfl

/-- R81, R88: in RUN the tuning is stored and the group demands are formed again. -/
theorem execSetZoneTuning_run :
    let tune : Instr := .setZoneTuning kp ki minBlower co2Low co2High hardLimit occupantFresh discharge
    let sent := tuningOf kp ki minBlower co2Low co2High hardLimit occupantFresh discharge
    ¬ sent.refusable = true → s.part.state = .run →
      execSetZoneTuning kp ki minBlower co2Low co2High hardLimit occupantFresh discharge s =
        .next (((s.replied tune 0xA9#8 [sent.statusByte]).tuned sent.clamp).setOutputs s.zon.regrouped) := by
  intro tune sent accepted run
  have stillRun : ((s.strike tune).tuned sent.clamp).part.state = .run := run
  refine (State.take_next s tune _ outside).trans (congrArg _ ((if_neg accepted).trans ?_))
  show (if s.inRun = true then ((s.strike tune).tuned sent.clamp).recomputeGroups else _).status .setZoneTuning _ = _
  rw [if_pos (s.inRun_iff.mpr run), State.recomputeGroups_of_run stillRun, State.tuned_regrouped,
    State.setOutputs_status, State.tuned_status, State.strike_status, Tuning.clampStatus_code_clamp]
  rfl

end ZoneSettingRequests

end Sys2Proof.Machine

namespace Sys2Proof

open Sys2Proof.Machine

/-- Settles O44: SET_CREW by its index, SET_ZONE_TUNING by the refusal and then the part state. -/
theorem zoneTuningAndCrew : Obligations.ZoneTuningAndCrew := by
  intro z index occupancy minBlower occupantFresh kp ki co2Low co2High hardLimit discharge s outside r crew tune refused
    set sent status
  have refused_iff : sent.refusable = true ↔ refused := sent.refusable_iff
  have clamped : sent.clamp = set := sent.clamp_eq
  have status_eq : sent.statusByte = status := by rw [Tuning.statusByte, clamped]
  rw [← status_eq, ← clamped]
  refine ⟨execSetCrew_range outside index occupancy, execSetCrew_eq outside z occupancy, fun no => ?refused,
    fun ok config => ?config, fun ok run => ?run⟩
  case refused => exact execSetZoneTuning_refused outside _ _ _ _ _ _ _ _ (refused_iff.mpr no)
  case config =>
    have idle : s.part.state ≠ .run := by simp [config]
    exact execSetZoneTuning_config outside _ _ _ _ _ _ _ _ (mt refused_iff.mp ok) idle
  case run =>
    exact ⟨_, execSetZoneTuning_run outside _ _ _ _ _ _ _ _ (mt refused_iff.mp ok) run, rfl, rfl,
      fun changed => List.mem_append_right _ (front_mem_outputEvents changed),
      fun changed => List.mem_append_right _ (rear_mem_outputEvents changed)⟩

end Sys2Proof

/-! Air Movers and Cab Pressure (06): the expiries and requests of one mover, then the demands. A mover's own event whose
timer runs, and a request in range, leave a `State.putMover`; the demands and the loop phase are read by the words of the
rules, `pressCases` and `Loop.phased`, instead of the model's functions. -/

namespace Sys2Proof.Machine

/-! ### The settings sent, and a reply beside a changed record of MOV -/

/-- R135: the ranges. A natural number needs no lower end at 0. -/
theorem MoverSettings.clamp_eq (c : MoverSettings) :
    c.clamp =
      ⟨max 1 (min 100 c.rampRate), min 10000 c.stallSpeed, max 500 (min 10000 c.stallTime), min 100 c.minStallDuty,
        max 1000 (min 60000 c.restartDelay), min 15 c.retries⟩ := by
  simp only [MoverSettings.clamp, clampNat, Nat.zero_max]

/-- R136: the ranges of the settings as sent. The gain is a byte, so it is in range already. -/
theorem pressureSettingsOf_clamp (target : Half) (gain breachDuty : Byte) (filterLimit : Half) :
    (pressureSettingsOf target gain breachDuty filterLimit).clamp =
      ⟨min 1000 target.toNat, gain.toNat, min 100 breachDuty.toNat, max 1 (min 999 filterLimit.toNat)⟩ := by
  have gain_le : min 255 gain.toNat = gain.toNat := Nat.min_eq_right (Nat.le_of_lt_succ gain.isLt)
  simp only [pressureSettingsOf, PressureSettings.clamp, clampNat, Nat.zero_max, gain_le]

/-- R189: the STATUS of settings stored, by whether they are those sent. -/
theorem clampStatus_code_ne {α : Type} [DecidableEq α] (stored sent : α) :
    (clampStatus (stored != sent)).code = if stored = sent then 0#8 else 1#8 := by
  by_cases kept : stored = sent <;> simp [clampStatus_code, kept]

theorem State.putMover_status (s : State) (m : MoverIx) (c : Mover) (r : Req) (status : StatusCode) :
    (s.putMover m c).status r status = (s.status r status).putMover m c := rfl

/-! ### The timers of one mover -/

section MoverTimers

variable {s : State} (outside : s.part.state ≠ .init) (m : MoverIx)
include outside

/-- R126: the stall timer ends the run; the restart timer starts. -/
theorem execStallTimerExpiry_running (runs : s.mov.movers[m].stall.isSome = true) :
    let r := s.mov.movers[m]
    execStallTimerExpiry m s = .next (s.putMover m
      { r with
        state := .stalled, duty := 0, stall := none, cleanRun := none
        restart := some (s.now + r.settings.restartDelay * 1000) }) := by
  obtain ⟨due, timer⟩ := Option.isSome_iff_exists.mp runs
  simp only [execStallTimerExpiry, State.own_next s _ outside, State.mover_eq, timer]
  rfl

theorem execRestartTimerExpiry_running (runs : s.mov.movers[m].restart.isSome = true) :
    execRestartTimerExpiry m s = .next (s.restartMover m) := by
  obtain ⟨due, timer⟩ := Option.isSome_iff_exists.mp runs
  simp only [execRestartTimerExpiry, State.own_next s _ outside, State.mover_eq, timer]

/-- R128: the retry count is forgiven. -/
theorem execCleanRunTimerExpiry_running (runs : s.mov.movers[m].cleanRun.isSome = true) :
    execCleanRunTimerExpiry m s = .next (s.putMover m { s.mov.movers[m] with retry := 0, cleanRun := none }) := by
  obtain ⟨due, timer⟩ := Option.isSome_iff_exists.mp runs
  simp only [execCleanRunTimerExpiry, State.own_next s _ outside, State.mover_eq, timer]

end MoverTimers

/-- R127: the record of a mover whose restart timer has expired, before the retry count is judged. -/
def Mover.retried (r : Mover) : Mover := { r with retry := r.retry + 1, restart := none, duty := 0 }

/-- R127: with the retries used up the mover fails, and MOVER is raised. -/
theorem State.restartMover_fails (s : State) (m : MoverIx)
    (spent : s.mov.movers[m].settings.retries < s.mov.movers[m].retry + 1) :
    s.restartMover m = (s.putMover m { s.mov.movers[m].retried with state := .failed }).raise asMover (m.val + 256) :=
  if_pos spent

/-- R127: with a retry left the mover runs again. -/
theorem State.restartMover_runs (s : State) (m : MoverIx)
    (left : s.mov.movers[m].retry + 1 ≤ s.mov.movers[m].settings.retries) :
    s.restartMover m = s.putMover m
      { s.mov.movers[m].retried with state := .running, stall := none, cleanRun := some (s.now + 60000000) } :=
  if_neg (Nat.not_lt.mpr left)

/-! ### The requests of one mover -/

section MoverRequests

variable {s : State} (outside : s.part.state ≠ .init)
include outside

theorem execMoverRestart_range (index : Byte) (h : 2 < index.toNat) :
    execMoverRestart index s = .next (s.replied (.moverRestart index) 0xBA#8 [19#8]) := by
  simp only [execMoverRestart, State.take_next _ _ _ outside, indexOf_none 3 index h, State.strike_status]
  rfl

/-- R137: what MOVER_RESTART does at a mover in range. Only a FAILED mover takes it. -/
theorem execMoverRestart_eq (m : MoverIx) :
    let restart : Instr := .moverRestart (BitVec.ofNat 8 m.val)
    let r := s.mov.movers[m]
    execMoverRestart (BitVec.ofNat 8 m.val) s = .next (
      if r.state = .failed then
        (s.replied restart 0xBA#8 [0#8]).putMover m
          { r with state := .off, retry := 0, duty := 0, stall := none, restart := none, cleanRun := none }
      else s.replied restart 0xBA#8 [20#8]) := by
  simp only [execMoverRestart, State.take_next _ _ _ outside, indexOf_ofNat 3 m (by decide), State.putMover_status,
    State.strike_status, State.mover_eq, State.strike_mov]
  rfl

variable (rampRate : Byte) (stallSpeed stallTime : Half) (minStallDuty : Byte) (restartDelay : Half) (retries : Byte)

theorem execSetMover_range (index : Byte) (h : 2 < index.toNat) :
    execSetMover index rampRate stallSpeed stallTime minStallDuty restartDelay retries s =
      .next (s.replied (.setMover index rampRate stallSpeed stallTime minStallDuty restartDelay retries)
        0xB8#8 [19#8]) := by
  simp only [execSetMover, State.take_next _ _ _ outside, indexOf_none 3 index h, State.strike_status]
  rfl

/-- R135: the clamped settings are stored, and nothing is formed from them. -/
theorem execSetMover_eq (m : MoverIx) :
    let set : Instr :=
      .setMover (BitVec.ofNat 8 m.val) rampRate stallSpeed stallTime minStallDuty restartDelay retries
    let sent := moverSettingsOf rampRate stallSpeed stallTime minStallDuty restartDelay retries
    execSetMover (BitVec.ofNat 8 m.val) rampRate stallSpeed stallTime minStallDuty restartDelay retries s =
      .next ((s.replied set 0xB8#8 [if sent.clamp = sent then 0#8 else 1#8]).putMover m
        { s.mov.movers[m] with settings := sent.clamp }) := by
  simp only [execSetMover, State.take_next _ _ _ outside, indexOf_ofNat 3 m (by decide), State.putMover_status,
    State.strike_status, State.mover_eq, State.strike_mov, clampStatus_code_ne]
  rfl

end MoverRequests

/-! ### The demands and the loop phase, in the words of their rules -/

/-- R129: the purge demand. -/
theorem Picture.purgeDemand_eq (p : Picture) : p.purgeDemand = if p.purge = none then 0 else 100 := by
  cases purging : p.purge <;> simp [Picture.purgeDemand, purging]

theorem AdmState.pressurised_iff (a : AdmState) : a.pressurised = true ↔ a = .limit ∨ a = .scrub := by
  cases a <;> simp [AdmState.pressurised]

section PictureCases

variable {inRun : Bool} {run : Prop} [Decidable run] (isRun : inRun = true ↔ run) (p : Picture)
include isRun

/-- R130: the model's table by the route of the purge is the manual's list of cases. -/
theorem pressDemand_eq_pressCases (loop breach : Nat) :
    pressDemand inRun p loop breach = pressCases run p loop breach := by
  have idle_iff : (!inRun) = true ↔ ¬ run := by rw [← isRun, Bool.not_eq_true', Bool.not_eq_true]
  simp only [pressDemand, pressCases, idle_iff, AdmState.pressurised_iff]
  by_cases idle : ¬ run ∨ p.accepted = .inactive
  · rw [if_pos idle, if_pos idle]
  rw [if_neg idle, if_neg idle]
  cases purging : p.purge with
  | some route => cases route <;> simp
  | none => by_cases air : p.accepted = .limit ∨ p.accepted = .scrub <;> simp [air]

/-- R131: the phase that a picture gives. -/
theorem phaseOf_eq :
    phaseOf inRun p =
      if (run ∧ (p.accepted = .limit ∨ p.accepted = .scrub) ∧ p.purge = none) ∧ p.breach = true then .holding
      else if run ∧ (p.accepted = .limit ∨ p.accepted = .scrub) ∧ p.purge = none then .running
      else .inactive := by
  simp only [phaseOf, isRun, AdmState.pressurised_iff, Option.isNone_iff_eq_none]
  by_cases air : run ∧ (p.accepted = .limit ∨ p.accepted = .scrub) ∧ p.purge = none
  · simp only [air, and_self, true_and, if_true]
  · simp only [air, false_and, if_false]

/-- R131: a judgement of the phase, by the old phase and the new one. -/
theorem Loop.enter_eq_phased (l : Loop) (now : Time) (press : Nat) :
    l.enter now press (phaseOf inRun p) = l.phased now run press p := by
  rw [Loop.phased, ← phaseOf_eq isRun]
  generalize phaseOf inRun p = phase
  cases old : l.phase <;> cases phase <;> simp [Loop.enter, LoopPhase.timer, inMs, old]

end PictureCases

/-! ### The demands formed -/

theorem State.formPress_eq (s : State) :
    s.formPress =
      s.setDemand 2 (pressCases (s.part.state = .run) s.mov.picture s.mov.loop.duty s.mov.pressure.breachDuty) := by
  rw [State.formPress, pressDemand_eq_pressCases s.inRun_iff]

/-- A demand formed changes MOV's one record and nothing else. -/
theorem State.setDemand_eq (s : State) (m : MoverIx) (n : Nat) :
    s.setDemand m n =
      { s with mov := { s.mov with movers := s.mov.movers.set m { s.mov.movers[m] with demand := n } } } := rfl

/-- The three movers, each with a demand of its own. -/
def Mov.demanding (r : Mov) (front rear press : Nat) : Vector Mover 3 :=
  #v[{ r.movers[0] with demand := front }, { r.movers[1] with demand := rear }, { r.movers[2] with demand := press }]

/-- R129, R130: no demand is formed from another mover's record, so the three stand side by side. -/
theorem State.formDemands_eq (s : State) :
    s.formDemands =
      { s with
        mov := { s.mov with
          movers := s.mov.demanding (max s.mov.front s.mov.picture.purgeDemand)
            (max s.mov.rear s.mov.picture.purgeDemand)
            (pressCases (s.part.state = .run) s.mov.picture s.mov.loop.duty s.mov.pressure.breachDuty) } } := by
  simp only [State.formDemands, State.formFront, State.formRear, State.formPress_eq, State.setDemand_eq]
  refine congrArg (fun v => ({ s with mov := { s.mov with movers := v } } : State)) ?_
  apply Vector.ext
  intro i hi
  have three : i = 0 ∨ i = 1 ∨ i = 2 := by omega
  obtain rfl | rfl | rfl := three <;> simp [Mov.demanding]

theorem State.judgePhase_eq (s : State) :
    s.judgePhase = s.putLoop
      (s.mov.loop.phased s.now (s.part.state = .run) s.adm.settings.pressFraction s.mov.picture) := by
  rw [State.judgePhase, Loop.enter_eq_phased s.inRun_iff]
  rfl

/-! ### The events and the request that form demands -/

section DemandCommands

variable {s : State} (outside : s.part.state ≠ .init)
include outside

/-- R129: a front group demand is taken and the FRONT blower's demand formed from it. -/
theorem execGroupDemandChange_front (n : Nat) :
    execGroupDemandChange .front n s =
      .next (({ s.strike (.groupDemandChange .front n) with mov := { s.mov with front := n } } : State).setDemand 0
        (max n s.mov.picture.purgeDemand)) :=
  s.take_next (.groupDemandChange .front n) _ outside

/-- R129: a rear group demand is taken and the REAR blower's demand formed from it. -/
theorem execGroupDemandChange_rear (n : Nat) :
    execGroupDemandChange .rear n s =
      .next (({ s.strike (.groupDemandChange .rear n) with mov := { s.mov with rear := n } } : State).setDemand 1
        (max n s.mov.picture.purgeDemand)) :=
  s.take_next (.groupDemandChange .rear n) _ outside

/-- R129, R130, R131: the picture is taken, the phase judged by it, and then every demand formed. -/
theorem execAdmissionReport_eq (p : Picture) :
    let loop := s.mov.loop.phased s.now (s.part.state = .run) s.adm.settings.pressFraction p
    execAdmissionReport p s =
      .next { s with
        handed := s.handed.erase (.admissionReport p)
        mov := { s.mov with
          picture := p, loop := loop
          movers := s.mov.demanding (max s.mov.front p.purgeDemand) (max s.mov.rear p.purgeDemand)
            (pressCases (s.part.state = .run) p loop.duty s.mov.pressure.breachDuty) } } := by
  simp only [execAdmissionReport, State.take_next _ _ _ outside, State.judgePhase_eq, State.formDemands_eq]
  rfl

/-- R136: the clamped settings are stored and the PRESS demand formed from them. -/
theorem execSetPressure_eq (target : Half) (gain breachDuty : Byte) (filterLimit : Half) :
    let set : Instr := .setPressure target gain breachDuty filterLimit
    let sent := pressureSettingsOf target gain breachDuty filterLimit
    let u := s.replied set 0xB9#8 [if sent.clamp = sent then 0#8 else 1#8]
    execSetPressure target gain breachDuty filterLimit s =
      .next (({ u with mov := { s.mov with pressure := sent.clamp } } : State).setDemand 2
        (pressCases (s.part.state = .run) s.mov.picture s.mov.loop.duty sent.clamp.breachDuty)) := by
  simp only [execSetPressure, State.take_next _ _ _ outside, State.formPress_eq, ← clampStatus_code_ne]
  rfl

end DemandCommands

end Sys2Proof.Machine

namespace Sys2Proof

open Sys2Proof.Machine

/-- Settles O54: each expiry at a running timer, the requests by their index and MOVER_RESTART by the mover's state. -/
theorem moverTimersAndRequests : Obligations.MoverTimersAndRequests := by
  intro m index rampRate minStallDuty retries stallSpeed stallTime restartDelay s outside r becomes again restart set
    settings sent
  have clamped : sent.clamp = settings := sent.clamp_eq
  rw [← clamped]
  refine ⟨execStallTimerExpiry_running outside m, fun runs => ⟨fun spent => ?fails, fun left => ?runsAgain⟩,
    execCleanRunTimerExpiry_running outside m, execMoverRestart_range outside index, fun failed => ?restarted,
    fun other => ?refused, execSetMover_range outside _ _ _ _ _ _ index, execSetMover_eq outside _ _ _ _ _ _ m⟩
  case fails =>
    exact (execRestartTimerExpiry_running outside m runs).trans (congrArg _ (s.restartMover_fails m spent))
  case runsAgain =>
    exact (execRestartTimerExpiry_running outside m runs).trans (congrArg _ (s.restartMover_runs m left))
  case restarted => exact (execMoverRestart_eq outside m).trans (congrArg _ (if_pos failed))
  case refused => exact (execMoverRestart_eq outside m).trans (congrArg _ (if_neg other))

/-- Settles O55: a demand by the group that changed, the report through the phase that it judges, the request through the
settings that it stores. -/
theorem moverDemands : Obligations.MoverDemands := by
  intro n p gain breachDuty target filterLimit s outside purge demanded run l loop set settings sent
  have purge_eq (q : Picture) : q.purgeDemand = purge q := q.purgeDemand_eq
  have clamped : sent.clamp = settings := pressureSettingsOf_clamp target gain breachDuty filterLimit
  rw [← clamped]
  refine ⟨?front, ?rear, ?report, execSetPressure_eq outside target gain breachDuty filterLimit⟩
  case front =>
    rw [← purge_eq]
    exact execGroupDemandChange_front outside n
  case rear =>
    rw [← purge_eq]
    exact execGroupDemandChange_rear outside n
  case report =>
    rw [← purge_eq]
    exact ⟨_, execAdmissionReport_eq outside p, rfl, rfl, rfl, rfl, rfl⟩

end Sys2Proof

/-! Terminals and Binding (08): a pin change and a debounce expiry. What a pin change does is said once by what the
terminal carries: nothing or a function that heeds no level, a TACH, or a digital input, whose debounce then takes the
level at once or by its timer. -/

namespace Sys2Proof.Machine

/-! ### The class of a function -/

theorem Func.cls_eq_one_iff_code (f : Func) : f.cls = 1 ↔ 16 ≤ f.code ∧ f.code ≤ 31 := by
  rw [Func.cls]
  split_ifs <;> simp <;> omega

theorem Func.cls_eq_two_iff_code (f : Func) : f.cls = 2 ↔ 32 ≤ f.code ∧ f.code ≤ 34 := by
  rw [Func.cls]
  split_ifs <;> simp <;> omega

/-- R159: the table gives the digital inputs, and only these, the codes 16 to 31. -/
theorem Func.isDigitalInput_iff_code (f : Func) : f.isDigitalInput = true ↔ 16 ≤ f.code ∧ f.code ≤ 31 := by
  cases f <;> simp [Func.isDigitalInput, Func.code] <;> omega

theorem Func.cls_eq_one_iff (f : Func) : f.cls = 1 ↔ f.isDigitalInput = true :=
  f.cls_eq_one_iff_code.trans f.isDigitalInput_iff_code.symm

theorem Func.cls_tach (m : MoverIx) : (Func.tach m).cls = 2 := by
  rw [Func.cls_eq_two_iff_code, Func.code]
  omega

/-- A digital input has level events and no edges, so each of its events is its level event. -/
theorem Func.event_of_digitalInput {f : Func} (digital : f.isDigitalInput = true) (asserted : Bool) :
    f.event asserted = f.levelEvent asserted := by
  cases f with
  | tach m => simp [Func.isDigitalInput] at digital
  | _ => rfl

/-! ### An entry replaced and a level handed -/

theorem State.putTerminal_terminal_self (s : State) (t : TerminalIx) (e : Terminal) :
    (s.putTerminal t e).trm.entries[t] = e := by
  simp

theorem State.putTerminal_putTerminal (s : State) (t : TerminalIx) (e e' : Terminal) :
    (s.putTerminal t e).putTerminal t e' = s.putTerminal t e' := by
  simp [State.putTerminal]

theorem State.putTerminal_handAll (s : State) (t : TerminalIx) (e : Terminal) (cs : List Instr) :
    (s.putTerminal t e).handAll cs = (s.handAll cs).putTerminal t e := rfl

/-- The owner is handed the level event of a digital input behind the events that wait. -/
theorem State.handLevel_of_digitalInput (s : State) {f : Func} (digital : f.isDigitalInput = true) (asserted : Bool) :
    s.handLevel f asserted = s.handAll (f.levelEvent asserted).toList := by
  rw [State.handLevel, Func.event_of_digitalInput digital]
  cases f.levelEvent asserted with
  | none => simp [State.handAll]
  | some c => rfl

/-! ### The debounced state -/

/-- R164: with a debounce other than 0 the timer starts at a level away from the debounced state and stops at a return to it. -/
theorem State.debounce_delayed (s : State) (t : TerminalIx) (f : Func) {e : Terminal} (delayed : e.debounce ≠ .ms0) :
    (s.putTerminal t e).debounce t f =
      s.putTerminal t { e with timer := if e.active = e.debounced then none else some (inMs s.now e.debounce.ms) } := by
  simp only [State.debounce, State.terminal_eq, State.putTerminal_terminal_self, if_neg delayed,
    State.putTerminal_putTerminal, State.putTerminal_now]

section Debounce

variable (s : State) (t : TerminalIx) {f : Func} (digital : f.isDigitalInput = true)
include digital

/-- R164: the debounced state takes the level at the pin, and the owner is handed a change of it. -/
theorem State.takeLevel_eq :
    let e := s.trm.entries[t]
    s.takeLevel t f =
      (s.handAll (if e.active = e.debounced then none else f.levelEvent e.active).toList).putTerminal t
        { e with debounced := e.active, timer := none } := by
  simp only [State.takeLevel, State.terminal_eq, State.handLevel_of_digitalInput _ digital]
  split_ifs with unchanged
  · simp [State.handAll]
  · rfl

/-- R164: a pin change with debounce 0 is taken at once. -/
theorem State.debounce_undelayed {e : Terminal} (undelayed : e.debounce = .ms0) :
    (s.putTerminal t e).debounce t f =
      (s.handAll (if e.active = e.debounced then none else f.levelEvent e.active).toList).putTerminal t
        { e with debounced := e.active, timer := none } := by
  simp only [State.debounce, State.terminal_eq, State.putTerminal_terminal_self, if_pos undelayed,
    State.takeLevel_eq _ _ digital, State.putTerminal_handAll, State.putTerminal_putTerminal]

end Debounce

/-! ### A pin change by what the terminal carries -/

section PinChange

variable {s : State} {t : TerminalIx} (high : Bool)

theorem State.pinChanged_of_none (carries : s.trm.entries[t].func = none) :
    s.pinChanged t high = s.putTerminal t { s.trm.entries[t] with level := high } := by
  simp only [State.pinChanged, State.terminal_eq, carries]

/-- R164: analog inputs and outputs heed no level at the pin. -/
theorem State.pinChanged_of_heedless {f : Func} (carries : s.trm.entries[t].func = some f)
    (notDigital : f.isDigitalInput = false) (notTach : ∀ m, f ≠ .tach m) :
    s.pinChanged t high = s.putTerminal t { s.trm.entries[t] with level := high } := by
  cases f with
  | tach m => exact absurd rfl (notTach m)
  | _ => simp only [State.pinChanged, State.terminal_eq, carries, notDigital, Bool.false_eq_true, if_false]

/-- R164: an active edge at a TACH is handed on at once. -/
theorem State.pinChanged_of_tach {m : MoverIx} (carries : s.trm.entries[t].func = some (.tach m)) :
    s.pinChanged t high =
      (s.handAll (if high != s.trm.entries[t].invert then some (.tachEdge m) else none).toList).putTerminal t
        { s.trm.entries[t] with level := high } := by
  simp only [State.pinChanged, State.terminal_eq, carries, Terminal.active]
  split_ifs with edge
  · rfl
  · simp [State.handAll]

theorem State.pinChanged_of_digitalInput {f : Func} (carries : s.trm.entries[t].func = some f)
    (digital : f.isDigitalInput = true) :
    s.pinChanged t high = (s.putTerminal t { s.trm.entries[t] with level := high }).debounce t f := by
  cases f with
  | tach m => simp [Func.isDigitalInput] at digital
  | _ => simp only [State.pinChanged, State.terminal_eq, carries, digital, if_true]

end PinChange

/-! ### The two events -/

section PinEvents

variable {s : State} {t : TerminalIx} {high : Bool}

theorem execPinChange_same (same : s.trm.entries[t].level = high) : execPinChange t high s = .next s := by
  rw [execPinChange, State.terminal_eq, if_pos same]

theorem execPinChange_changed (changed : s.trm.entries[t].level ≠ high) :
    execPinChange t high s = .next (s.pinChanged t high) := by
  rw [execPinChange, State.terminal_eq, if_neg changed]

/-- R164: the expiry of a running debounce timer takes the level at the pin. -/
theorem execDebounceTimerExpiry_running {f : Func} (outside : s.part.state ≠ .init)
    (runs : s.trm.entries[t].timer.isSome = true) (carries : s.trm.entries[t].func = some f) :
    execDebounceTimerExpiry t s = .next (s.takeLevel t f) := by
  obtain ⟨due, timer⟩ := Option.isSome_iff_exists.mp runs
  simp only [execDebounceTimerExpiry, State.own_next s _ outside, State.terminal_eq, timer, carries]

end PinEvents

end Sys2Proof.Machine

namespace Sys2Proof

open Sys2Proof.Machine

/-- Settles O31, by what the terminal carries, and at a digital input by its debounce setting. -/
theorem pinsAndDebounce : Obligations.PinsAndDebounce := by
  intro t high s old puts hands new active time
  refine ⟨execPinChange_same, fun changed => ?_, fun outside runs f carries digital => ?expiry⟩
  case expiry =>
    exact (execDebounceTimerExpiry_running outside runs carries).trans
      (congrArg _ (s.takeLevel_eq t (f.cls_eq_one_iff.mp digital)))
  have becomes {u : State} (pin : s.pinChanged t high = u) : exec (.pinChange t high) s = .next u :=
    (execPinChange_changed changed).trans (congrArg _ pin)
  refine ⟨fun free => becomes (State.pinChanged_of_none high free), fun f carries =>
    ⟨fun cls => ?heedless, fun _ m tach => ?tach, fun digital => ?digital⟩⟩
  case heedless =>
    have notDigital : f.isDigitalInput = false := Bool.eq_false_iff.mpr fun digital => by
      have cls_one := f.cls_eq_one_iff.mpr digital
      omega
    have notTach (m : MoverIx) : f ≠ .tach m := fun tach => by
      have cls_two : f.cls = 2 := tach ▸ Func.cls_tach m
      omega
    exact becomes (State.pinChanged_of_heedless high carries notDigital notTach)
  case tach => exact becomes (State.pinChanged_of_tach high (tach ▸ carries))
  case digital =>
    have input := f.cls_eq_one_iff.mp digital
    have taken := State.pinChanged_of_digitalInput high carries input
    have time_eq : inMs s.now old.debounce.ms = s.now + time := by
      simp only [inMs, time]
      cases old.debounce <;> rfl
    refine ⟨fun undelayed => becomes (taken.trans (s.debounce_undelayed t input undelayed)), fun delayed => ?_⟩
    rw [← time_eq]
    exact becomes (taken.trans (s.debounce_delayed t f delayed))

end Sys2Proof

/-! Attention and Fault Lines (09): a raise, COLLECT, CLEAR, ASSERT and SET_LEVELS. Each leaves records judged as
`Atn.judge` judges them, which is what `State.sourcesBecome` says in the words of R170; the choice of COLLECT is a fold
over the table, cut at the source that it chooses. -/

namespace Sys2Proof.Machine

/-! ### The records replaced and the line judged -/

/-- R170: the judged line reads the records alone, so the statement's line is the model's. -/
theorem State.sourcesBecome_eq_judge (s : State) (v : Vector Source 16) :
    s.sourcesBecome v = { s with atn := ({ s.atn with sources := v } : Atn).judge } := by
  have line : ((List.finRange 16).any fun i => v[i].pending && decide (1 ≤ v[i].level)) =
      ({ s.atn with sources := v } : Atn).judge.attn := by
    rw [Bool.eq_iff_iff, Atn.judge_attn]
    simp only [List.any_eq_true, List.mem_finRange, true_and, Bool.and_eq_true, decide_eq_true_eq]
  rw [State.sourcesBecome, line]
  rfl

/-- The line that stood before does not count. -/
theorem Atn.judge_congr {a b : Atn} (sources : a.sources = b.sources) (fault : a.fault = b.fault) :
    a.judge = b.judge := by
  simp only [Atn.judge, sources, fault]

/-- A request of ATN answered with OK once the records have been replaced and judged. -/
theorem State.strike_judge_status (s : State) (c : Instr) (v : Vector Source 16) (r : Req) :
    ({ s.strike c with atn := ({ s.atn with sources := v } : Atn).judge } : State).status r .ok =
      (s.replied c (r.code + 0x80#8) [0#8]).sourcesBecome v := by
  rw [State.sourcesBecome_eq_judge]
  exact congrArg (fun t : State => { t with atn := ({ s.atn with sources := v } : Atn).judge })
    (s.strike_status c r .ok)

/-! ### The choice of COLLECT -/

section Choice

variable (a : Atn)

/-- R171: the better of the best source so far and the next in table order. -/
def Atn.better (best : Option SourceIx) (i : SourceIx) : Option SourceIx :=
  if a.sources[i].pending then
    match best with
    | none => some i
    | some j => if a.sources[j].level < a.sources[i].level then some i else some j
  else best

theorem Atn.chosen_eq_foldl : a.chosen = (List.finRange 16).foldl a.better none := rfl

variable {a} {best : Option SourceIx} {i : SourceIx} {l : List SourceIx}

theorem Atn.better_of_idle (idle : ¬ a.sources[i].pending = true) : a.better best i = best := if_neg idle

theorem Atn.better_of_higher (pending : a.sources[i].pending = true)
    (lower : ∀ j ∈ best, a.sources[j].level < a.sources[i].level) : a.better best i = some i := by
  cases best with
  | none => exact if_pos pending
  | some j => exact (if_pos pending).trans (if_pos (lower j rfl))

theorem Atn.better_of_not_higher {j : SourceIx}
    (le : a.sources[i].pending = true → a.sources[i].level ≤ a.sources[j].level) : a.better (some j) i = some j := by
  by_cases pending : a.sources[i].pending = true
  · exact (if_pos pending).trans (if_neg (Nat.not_lt.mpr (le pending)))
  · exact Atn.better_of_idle pending

/-- The better is the next source, which is then pending, or the best so far. -/
theorem Atn.mem_better {j : SourceIx} (h : j ∈ a.better best i) : j = i ∧ a.sources[i].pending = true ∨ j ∈ best := by
  by_cases pending : a.sources[i].pending = true
  · by_cases lower : ∀ j ∈ best, a.sources[j].level < a.sources[i].level
    · rw [Atn.better_of_higher pending lower] at h
      exact .inl ⟨(Option.some.inj h).symm, pending⟩
    · obtain ⟨k, rfl, le⟩ : ∃ k, best = some k ∧ a.sources[i].level ≤ a.sources[k].level := by
        simpa using lower
      exact .inr (Atn.better_of_not_higher (fun _ => le) ▸ h)
  · rw [Atn.better_of_idle pending] at h
    exact .inr h

/-- Only a pending source is ever chosen. -/
theorem Atn.mem_foldl_better {j : SourceIx} (h : j ∈ l.foldl a.better best) :
    j ∈ l ∧ a.sources[j].pending = true ∨ j ∈ best := by
  induction l generalizing best with
  | nil => exact .inr h
  | cons k l ih =>
    obtain ⟨later, pending⟩ | first := ih h
    · exact .inl ⟨.tail k later, pending⟩
    obtain ⟨rfl, pending⟩ | before := Atn.mem_better first
    · exact .inl ⟨.head l, pending⟩
    · exact .inr before

/-- A source gives way to no later one of its own level or a lower one. -/
theorem Atn.foldl_better_stays (le : ∀ j ∈ l, a.sources[j].pending = true → a.sources[j].level ≤ a.sources[i].level) :
    l.foldl a.better (some i) = some i := by
  induction l with
  | nil => rfl
  | cons k l ih =>
    rw [List.foldl_cons, Atn.better_of_not_higher (le k (.head l))]
    exact ih fun j later => le j (.tail k later)

theorem Atn.chosen_eq_none (idle : ∀ j : SourceIx, a.sources[j].pending = false) : a.chosen = none := by
  rw [Atn.chosen_eq_foldl, Option.eq_none_iff_forall_not_mem]
  intro j chosen
  obtain ⟨-, pending⟩ | ⟨⟨⟩⟩ := Atn.mem_foldl_better chosen
  exact Bool.false_ne_true ((idle j).symm.trans pending)

/-- R171: the pending source of the highest level, the earliest of those. The table is cut at that source: what is chosen
before it has a lower level, and nothing after it has a higher one. -/
theorem Atn.chosen_eq_some (pending : a.sources[i].pending = true)
    (best : ∀ j : SourceIx, a.sources[j].pending = true →
      a.sources[j].level < a.sources[i].level ∨ a.sources[j].level = a.sources[i].level ∧ i.val ≤ j.val) :
    a.chosen = some i := by
  obtain ⟨before, after, cut⟩ := List.append_of_mem (List.mem_finRange i)
  have sorted : (before ++ i :: after).Pairwise (· < ·) := cut ▸ List.pairwise_lt_finRange 16
  obtain ⟨-, -, ordered⟩ := List.pairwise_append.mp sorted
  have lower : ∀ j ∈ before.foldl a.better none, a.sources[j].level < a.sources[i].level := by
    intro j chosen
    obtain ⟨mem, waits⟩ | ⟨⟨⟩⟩ := Atn.mem_foldl_better chosen
    have earlier : j.val < i.val := ordered j mem i (.head after)
    obtain lower | ⟨-, later⟩ := best j waits
    · exact lower
    · exact absurd earlier (Nat.not_lt.mpr later)
  rw [Atn.chosen_eq_foldl, cut, List.foldl_append, List.foldl_cons, Atn.better_of_higher pending lower]
  refine Atn.foldl_better_stays fun j _ waits => ?_
  obtain lower | ⟨level, -⟩ := best j waits
  · exact lower.le
  · exact level.le

end Choice

/-! ### The raises of ASSERT -/

/-- R173: one raise with detail 0 for each of the sources named. -/
def Atn.raiseEach (a : Atn) (l : List SourceIx) : Atn := l.foldl (fun b i => b.raise i 0) a

theorem Atn.assertNamed_eq_raiseEach (a : Atn) (mask : Half) :
    a.assertNamed mask = a.raiseEach ((List.finRange 16).filter (named mask)) := rfl

theorem Atn.raiseEach_fault (a : Atn) (l : List SourceIx) : (a.raiseEach l).fault = a.fault := by
  induction l generalizing a with
  | nil => rfl
  | cons i l ih => exact ih (a.raise i 0)

/-- Of sources all different, each is raised once. -/
theorem Atn.raiseEach_getElem (a : Atn) {l : List SourceIx} (distinct : l.Nodup) (j : SourceIx) :
    (a.raiseEach l).sources[j] = if j ∈ l then a.sources[j].raise 0 else a.sources[j] := by
  induction l generalizing a with
  | nil => rfl
  | cons i l ih =>
    obtain ⟨once, distinct'⟩ := List.nodup_cons.mp distinct
    refine (ih (a.raise i 0) distinct').trans ?_
    by_cases same : j = i
    · subst same
      rw [if_neg once, if_pos (.head l), Atn.raise_getElem_self]
      rfl
    · simp only [Atn.raise_getElem_ne a i j 0 same, List.mem_cons, same, false_or]

/-- Each raise judges the line, so after the last of them it stands judged. -/
theorem Atn.raiseEach_judge (a : Atn) {l : List SourceIx} (nonempty : l ≠ []) : (a.raiseEach l).judge = a.raiseEach l := by
  obtain ⟨before, last, rfl⟩ := (List.eq_nil_or_concat l).resolve_left nonempty
  simp only [Atn.raiseEach, List.concat_eq_append, List.foldl_append]
  rfl

/-- A mask that names no source is 0. -/
theorem filter_named_ne_nil {mask : Half} (nonzero : mask ≠ 0#16) : (List.finRange 16).filter (named mask) ≠ [] := by
  intro nobody
  refine nonzero (BitVec.eq_of_getLsbD_eq fun k hk => ?_)
  have unnamed : ¬ named mask ⟨k, hk⟩ = true := List.filter_eq_nil_iff.mp nobody ⟨k, hk⟩ (List.mem_finRange _)
  rw [BitVec.getLsbD_zero]
  exact Bool.eq_false_iff.mpr unnamed

/-- R173: the named sources raised once each, and the line judged. -/
theorem Atn.assertNamed_eq_judge (a : Atn) {mask : Half} (nonzero : mask ≠ 0#16) :
    a.assertNamed mask =
      ({ a with sources :=
        Vector.ofFn fun j => if named mask j then a.sources[j].raise 0 else a.sources[j] } : Atn).judge := by
  rw [Atn.assertNamed_eq_raiseEach, ← Atn.raiseEach_judge a (filter_named_ne_nil nonzero)]
  refine Atn.judge_congr (Vector.ext fun k hk => ?_) (a.raiseEach_fault _)
  have distinct : ((List.finRange 16).filter (named mask)).Nodup := (List.nodup_finRange 16).filter _
  refine (a.raiseEach_getElem distinct ⟨k, hk⟩).trans ?_
  simp only [List.mem_filter, List.mem_finRange, true_and, Vector.getElem_ofFn]

/-- R173: a mask of 0 raises nothing. -/
theorem Atn.assertNamed_zero (a : Atn) : a.assertNamed 0#16 = a := by
  have nobody : (List.finRange 16).filter (named 0#16) = [] :=
    List.filter_eq_nil_iff.mpr fun j _ => by simp [named]
  rw [Atn.assertNamed_eq_raiseEach, nobody]
  rfl

/-! ### The fields of a reply -/

theorem tableOf_eq_ofFn {α : Type} (n : Nat) (f : Fin n → α) : tableOf n f = Vector.ofFn f :=
  Vector.ext fun i hi => by simp

/-- R185: a detail in its two bytes, the low one first. -/
theorem halfBytes_eq (n : Nat) : halfBytes n = [BitVec.ofNat 8 n, BitVec.ofNat 8 (n / 256)] := by
  have low : Half.lo (BitVec.ofNat 16 n) = BitVec.ofNat 8 n := by
    apply BitVec.eq_of_toNat_eq
    simp only [Half.lo, BitVec.toNat_setWidth, BitVec.toNat_ofNat]
    omega
  have high : Half.hi (BitVec.ofNat 16 n) = BitVec.ofNat 8 (n / 256) := by
    apply BitVec.eq_of_toNat_eq
    simp only [Half.hi, BitVec.toNat_setWidth, BitVec.toNat_ushiftRight, BitVec.toNat_ofNat, Nat.shiftRight_eq_div_pow]
    omega
  rw [halfBytes, low, high]

/-! ### The requests -/

section AttentionRequests

variable {s : State} (outside : s.part.state ≠ .init)
include outside

/-- R171: COLLECT with nothing pending. -/
theorem execCollect_none (idle : s.atn.chosen = none) :
    execCollect s = .next (s.replied .collect 0xC9#8 [0#8, 255#8, 0#8, 0#8, 0#8, 0#8]) := by
  simp only [execCollect, State.take_next _ _ _ outside, State.strike_atn, idle, halfBytes_eq]
  rfl

/-- R171: COLLECT answers the chosen source as it stood and clears it. -/
theorem execCollect_some {i : SourceIx} (chosen : s.atn.chosen = some i) :
    let r := s.atn.sources[i]
    execCollect s =
      .next ((s.replied .collect 0xC9#8
        [0#8, BitVec.ofNat 8 i.val, BitVec.ofNat 8 r.level, BitVec.ofNat 8 r.count, BitVec.ofNat 8 r.detail,
          BitVec.ofNat 8 (r.detail / 256)]).sourcesBecome (s.atn.sources.set i r.clear)) := by
  simp only [execCollect, State.take_next _ _ _ outside, State.strike_atn, chosen, halfBytes_eq,
    State.sourcesBecome_eq_judge]
  rfl

theorem execClearSources_eq (mask : Half) :
    execClearSources mask s =
      .next ((s.replied (.clearSources mask) 0xCA#8 [0#8]).sourcesBecome
        (Vector.ofFn fun j => if named mask j then s.atn.sources[j].clear else s.atn.sources[j])) := by
  simp only [execClearSources, State.take_next _ _ _ outside, Atn.clearNamed, tableOf_eq_ofFn]
  exact congrArg _ (s.strike_judge_status _ _ .clear)

theorem execAssertSources_eq {mask : Half} (nonzero : mask ≠ 0#16) :
    execAssertSources mask s =
      .next ((s.replied (.assertSources mask) 0xCB#8 [0#8]).sourcesBecome
        (Vector.ofFn fun j => if named mask j then s.atn.sources[j].raise 0 else s.atn.sources[j])) := by
  simp only [execAssertSources, State.take_next _ _ _ outside, Atn.assertNamed_eq_judge _ nonzero]
  exact congrArg _ (s.strike_judge_status _ _ .assertMask)

theorem execAssertSources_zero :
    execAssertSources 0#16 s = .next (s.replied (.assertSources 0#16) 0xCB#8 [0#8]) := by
  simp only [execAssertSources, State.take_next _ _ _ outside, Atn.assertNamed_zero]
  exact congrArg _ (s.strike_status _ .assertMask .ok)

variable {levels : Vector Byte 16}

/-- R174: one level above 3 refuses them all. -/
theorem execSetLevels_range (high : ∃ j : SourceIx, 3 < levels[j].toNat) :
    execSetLevels levels s = .next (s.replied (.setLevels levels) 0xC8#8 [19#8]) := by
  obtain ⟨j, high⟩ := high
  have refused : levels.toList.any (fun b => decide (3 < b.toNat)) = true :=
    List.any_eq_true.mpr ⟨levels[j], by simp, decide_eq_true high⟩
  simp only [execSetLevels, State.take_next _ _ _ outside, refused, if_true, State.strike_status]
  rfl

theorem execSetLevels_eq (inRange : ¬ ∃ j : SourceIx, 3 < levels[j].toNat) :
    execSetLevels levels s =
      .next ((s.replied (.setLevels levels) 0xC8#8 [0#8]).sourcesBecome
        (Vector.ofFn fun j => { s.atn.sources[j] with level := levels[j].toNat })) := by
  have accepted : ¬ levels.toList.any (fun b => decide (3 < b.toNat)) = true := by
    rw [List.any_eq_true]
    rintro ⟨b, mem, high⟩
    obtain ⟨k, hk, rfl⟩ := List.getElem_of_mem mem
    exact inRange ⟨⟨k, by simpa using hk⟩, of_decide_eq_true high⟩
  simp only [execSetLevels, State.take_next _ _ _ outside, if_neg accepted, Atn.setLevels, tableOf_eq_ofFn]
  exact congrArg _ (s.strike_judge_status _ _ .setLevels)

end AttentionRequests

end Sys2Proof.Machine

namespace Sys2Proof

open Sys2Proof.Machine

/-- Settles O60: the raise at its record, COLLECT by the choice, CLEAR, ASSERT and SET_LEVELS by the table they leave. -/
theorem attention : Obligations.Attention := by
  intro i detail mask levels s outside src cleared raised chosen nothing high
  refine ⟨(s.sourcesBecome_eq_judge _).symm, fun ⟨pending, best⟩ => ?collect, fun idle => ?idle,
    execClearSources_eq outside mask, execAssertSources_eq outside, execAssertSources_zero outside,
    execSetLevels_eq outside, execSetLevels_range outside⟩
  case collect => exact execCollect_some outside (Atn.chosen_eq_some pending best)
  case idle => exact execCollect_none outside (Atn.chosen_eq_none idle)

end Sys2Proof

/-! Operating States (10): READ_IDENT and READ_CONFIG. The model forms a page of READ_CONFIG from the setting request that
would store the settings as they stand; `State.PageAgrees` says that this is the request and the body of R183's table, or
that neither has such a page, and is proved selector by selector. -/

namespace Sys2Proof.Machine

/-! ### Replies and their fields -/

/-- A request answered with a STATUS and data, and nothing else done. -/
theorem State.strike_answer (s : State) (c : Instr) (r : Req) (status : StatusCode) (data : List Byte) :
    (s.strike c).answer r status data = s.replied c (r.code + 0x80#8) (status.code :: data) := by
  simp only [State.answer, State.sendReply, replyKind_code]
  rfl

@[simp] theorem oneByte_eq_byteOf (n : Nat) : oneByte n = byteOf n := rfl

@[simp] theorem flagByte_eq_byteOfBool (b : Bool) : flagByte b = byteOfBool b := rfl

/-- R185: a two-byte field, in the bytes of the request that would carry it. -/
@[simp] theorem twoBytes_eq_lo_hi (n : Int) : twoBytes n = [(halfOfInt n).lo, (halfOfInt n).hi] := by
  have low : (halfOfInt n).extractLsb' 0 8 = (halfOfInt n).lo := BitVec.eq_of_getLsbD_eq fun i hi => by
    simp [Half.lo, hi]
  have high : (halfOfInt n).extractLsb' 8 8 = (halfOfInt n).hi := BitVec.eq_of_getLsbD_eq fun i hi => by
    simp [Half.hi, hi]
  rw [← low, ← high]
  rfl

@[simp] theorem halfOfInt_natCast (n : Nat) : halfOfInt n = halfOf n := BitVec.ofInt_natCast 16 n

/-- R182: the code of a part state in which a read is answered. -/
theorem PartState.byteOf_code {p : PartState} (outside : p ≠ .init) :
    byteOf p.code = if p = .config then 1#8 else 2#8 := by
  cases p with
  | init => exact absurd rfl outside
  | config => rfl
  | run => rfl

/-! ### The settings of a page

The body of the setting request that the model forms for a page shows the settings as they stand. -/

section SettingsPages

variable (s : State)

theorem State.settingsPage_channel (ch : ChannelIx) :
    s.settingsPage 0 ch = some (pageBytes (channelRequest ch s.sns.channels[ch].settings)) := by
  simp [State.settingsPage, pageBytes, channelRequest, Instr.request?]

theorem State.settingsPage_assessor (a : AssessorIx) :
    s.settingsPage 1 a = some (pageBytes (assessorRequest a s.asr[a].settings)) := by
  simp [State.settingsPage, pageBytes, assessorRequest, Instr.request?]

theorem State.settingsPage_admission : s.settingsPage 2 0 = some (pageBytes (admRequest s.adm.settings)) := by
  simp [State.settingsPage, pageBytes, admRequest, Instr.request?]

theorem State.settingsPage_tuning : s.settingsPage 3 0 = some (pageBytes (tuningRequest s.zon.tuning)) := by
  simp [State.settingsPage, pageBytes, tuningRequest, Instr.request?]

theorem State.settingsPage_zone (z : ZoneIx) :
    s.settingsPage 3 (z + 1) = some (pageBytes (zoneRequest z s.zon.zones[z])) := by
  have upTo4 : z.val + 1 ≤ 4 := z.isLt
  simp [State.settingsPage, pageBytes, zoneRequest, Instr.request?, upTo4]

theorem State.settingsPage_damper (d : DamperIx) :
    s.settingsPage 4 d = some (pageBytes (damperRequest d s.ddr.dampers[d].settings)) := by
  simp [State.settingsPage, pageBytes, damperRequest, Instr.request?]

theorem State.settingsPage_mover (m : MoverIx) :
    s.settingsPage 5 m = some (pageBytes (moverRequest m s.mov.movers[m].settings)) := by
  have notPressure : m.val ≠ 3 := m.isLt.ne
  simp [State.settingsPage, pageBytes, moverRequest, Instr.request?, notPressure]

theorem State.settingsPage_pressure : s.settingsPage 5 3 = some (pageBytes (pressureRequest s.mov.pressure)) := by
  simp [State.settingsPage, pageBytes, pressureRequest, Instr.request?]

theorem State.settingsPage_heat : s.settingsPage 6 0 = some (pageBytes (heatRequest s.heu.settings)) := by
  simp [State.settingsPage, pageBytes, heatRequest, Instr.request?]

theorem State.settingsPage_levels : s.settingsPage 7 0 = some (pageBytes (levelsRequest s.atn)) := rfl

end SettingsPages

/-! ### The pages of the model and of the table -/

/-- R183: the setting request in whose layout the table shows a page; none where it has no such page. -/
def pageLayout (selector page : Nat) : Option Req := ((configPages.lookup selector).getD [])[page]?

/-- R183: neither the table nor the model has the page, or both show it in the body of one setting request. -/
inductive State.PageAgrees (s : State) (selector page : Nat) : Prop
  | absent (layout : pageLayout selector page = none) (config : s.configPage selector page = none)
  | shown {i : Instr} {r : Req} (layout : pageLayout selector page = some r)
      (config : s.configPage selector page = some i) (request : i.request? = some (r, pageBytes i))
      (fits : Laws.FitsItsBody.Statement i) (settings : s.settingsPage selector page = some (pageBytes i))

/-- A selector whose pages are the records of one table. -/
theorem State.PageAgrees.of_records {s : State} {selector n : Nat} {r : Req} {request : Fin n → Instr}
    (row : configPages.lookup selector = some (List.replicate n r))
    (config : ∀ page, s.configPage selector page = if h : page < n then some (request ⟨page, h⟩) else none)
    (isRequest : ∀ i, (request i).request? = some (r, pageBytes (request i)))
    (fits : ∀ i, Laws.FitsItsBody.Statement (request i))
    (settings : ∀ i : Fin n, s.settingsPage selector i = some (pageBytes (request i))) (page : Nat) :
    s.PageAgrees selector page := by
  have layout : pageLayout selector page = if page < n then some r else none := by
    rw [pageLayout, row, Option.getD_some, List.getElem?_replicate]
  by_cases h : page < n
  · exact .shown (layout.trans (if_pos h)) ((config page).trans (dif_pos h)) (isRequest _) (fits _) (settings ⟨page, h⟩)
  · exact .absent (layout.trans (if_neg h)) ((config page).trans (dif_neg h))

section PageAgreement

open Laws

variable (s : State)

theorem State.pageAgrees_channels : ∀ page, s.PageAgrees 0 page :=
  .of_records rfl (fun _ => rfl) (fun _ => rfl) (fun _ => FitsItsBody.setChannel _ _ _ _ _ _ _ _ _)
    s.settingsPage_channel

theorem State.pageAgrees_assessors : ∀ page, s.PageAgrees 1 page :=
  .of_records rfl (fun _ => rfl) (fun _ => rfl) (fun _ => FitsItsBody.setAssess _ _ _ _ _ _ _ _ _ _ _)
    s.settingsPage_assessor

theorem State.pageAgrees_admission : ∀ page, s.PageAgrees 2 page
  | 0 => .shown rfl rfl rfl (FitsItsBody.setAdmission _ _ _ _ _ _ _) s.settingsPage_admission
  | _ + 1 => .absent rfl rfl

/-- The tuning, the four zones and the defrost flag. -/
theorem State.pageAgrees_zones : ∀ page, s.PageAgrees 3 page
  | 0 => .shown rfl rfl rfl (FitsItsBody.setZoneTuning _ _ _ _ _ _ _ _) s.settingsPage_tuning
  | 1 => .shown rfl rfl rfl (FitsItsBody.setZone _ _ _) (s.settingsPage_zone 0)
  | 2 => .shown rfl rfl rfl (FitsItsBody.setZone _ _ _) (s.settingsPage_zone 1)
  | 3 => .shown rfl rfl rfl (FitsItsBody.setZone _ _ _) (s.settingsPage_zone 2)
  | 4 => .shown rfl rfl rfl (FitsItsBody.setZone _ _ _) (s.settingsPage_zone 3)
  | 5 => .shown rfl rfl rfl (FitsItsBody.setDefrost _) rfl
  | _ + 6 => .absent rfl rfl

theorem State.pageAgrees_dampers : ∀ page, s.PageAgrees 4 page :=
  .of_records rfl (fun _ => rfl) (fun _ => rfl) (fun _ => FitsItsBody.setDamper _ _ _ _ _) s.settingsPage_damper

/-- The three movers and the pressure settings. -/
theorem State.pageAgrees_movers : ∀ page, s.PageAgrees 5 page
  | 0 => .shown rfl rfl rfl (FitsItsBody.setMover _ _ _ _ _ _ _) (s.settingsPage_mover 0)
  | 1 => .shown rfl rfl rfl (FitsItsBody.setMover _ _ _ _ _ _ _) (s.settingsPage_mover 1)
  | 2 => .shown rfl rfl rfl (FitsItsBody.setMover _ _ _ _ _ _ _) (s.settingsPage_mover 2)
  | 3 => .shown rfl rfl rfl (FitsItsBody.setPressure _ _ _ _) s.settingsPage_pressure
  | _ + 4 => .absent rfl rfl

theorem State.pageAgrees_heat : ∀ page, s.PageAgrees 6 page
  | 0 => .shown rfl rfl rfl (FitsItsBody.setHeat _ _ _ _ _ _ _ _) s.settingsPage_heat
  | _ + 1 => .absent rfl rfl

theorem State.pageAgrees_levels : ∀ page, s.PageAgrees 7 page
  | 0 => .shown rfl rfl rfl (FitsItsBody.setLevels _) s.settingsPage_levels
  | _ + 1 => .absent rfl rfl

theorem State.pageAgrees : ∀ selector page, s.PageAgrees selector page
  | 0 => s.pageAgrees_channels
  | 1 => s.pageAgrees_assessors
  | 2 => s.pageAgrees_admission
  | 3 => s.pageAgrees_zones
  | 4 => s.pageAgrees_dampers
  | 5 => s.pageAgrees_movers
  | 6 => s.pageAgrees_heat
  | 7 => s.pageAgrees_levels
  | _ + 8 => fun _ => .absent rfl rfl

end PageAgreement

/-! ### The requests -/

theorem State.strike_configPage (s : State) (c : Instr) : (s.strike c).configPage = s.configPage := rfl

section IdentityRequests

variable {s : State} (outside : s.part.state ≠ .init)
include outside

/-- R182: the record as it stands. -/
theorem execReadIdent_eq :
    execReadIdent s = .next (s.replied .readIdent 0x84#8
      (0#8 :: partCode ++ [2#8, 1#8, byteOf s.part.cause.code, byteOf s.part.state.code, byteOfBool s.part.retain])) := by
  simp only [execReadIdent, State.take_next _ _ _ outside, State.strike_answer]
  rfl

variable (selector page : Byte)

theorem execReadConfig_range (absent : s.configPage selector.toNat page.toNat = none) :
    execReadConfig selector page s = .next (s.replied (.readConfig selector page) 0x85#8 [19#8]) := by
  simp only [execReadConfig, State.take_next _ _ _ outside, State.strike_configPage, absent, State.strike_status]
  rfl

/-- R183: a page is answered with the body of its setting request. -/
theorem execReadConfig_shown {i : Instr} (shown : s.configPage selector.toNat page.toNat = some i) :
    execReadConfig selector page s =
      .next (s.replied (.readConfig selector page) 0x85#8 (0#8 :: selector :: page :: pageBytes i)) := by
  simp only [execReadConfig, State.take_next _ _ _ outside, State.strike_configPage, shown, State.strike_answer]
  rfl

end IdentityRequests

end Sys2Proof.Machine

namespace Sys2Proof

open Sys2Proof.Machine

/-- Settles O20: READ_IDENT field by field, READ_CONFIG by whether the table and the model have the page. -/
theorem identityAndConfiguration : Obligations.IdentityAndConfiguration := by
  intro selector page s outside cause state retain cmd layout
  have cause_eq : byteOf s.part.cause.code = cause := by
    cases known : s.part.cause <;> simp only [cause, known] <;> rfl
  have state_eq : byteOf s.part.state.code = state := PartState.byteOf_code outside
  have ident := execReadIdent_eq outside
  rw [cause_eq, state_eq] at ident
  refine ⟨ident, ?_⟩
  cases s.pageAgrees selector.toNat page.toNat with
  | absent noLayout noPage =>
    have noLayout : layout = none := noLayout
    rw [noLayout]
    exact ⟨nofun, fun _ => execReadConfig_range outside selector page noPage⟩
  | @shown i r hasLayout hasPage request fits settings =>
    have hasLayout : layout = some r := hasLayout
    rw [hasLayout]
    refine ⟨?_, nofun⟩
    rintro _ ⟨⟩
    exact ⟨pageBytes i, settings, fits r _ request, ⟨i, hasPage, request⟩,
      execReadConfig_shown outside selector page hasPage⟩

end Sys2Proof

/-! Link Protocol and Requests (11): one byte at the receive record and the gap timer. What a byte does is said once for each
phase (R186); a complete frame changes busy, the held frame and the reply at most, so the receive record that the second
CHECK byte has left in HUNT stays there. -/

namespace Sys2Proof.Machine

/-! ### What a complete frame leaves of the receive record -/

/-- R187, R188: a frame taken sets busy and may open a reply; the link's record otherwise stands. -/
theorem State.takeFrame_link (s : State) (f : Frame) :
    ∃ reply, (s.takeFrame f).link = { s.link with busy := true, reply := reply } := by
  unfold State.takeFrame
  split
  case h_1 => exact ⟨_, rfl⟩
  case h_2 kind body _ =>
    split
    case isTrue => cases dispatch kind body <;> exact ⟨_, rfl⟩
    case isFalse => exact ⟨_, rfl⟩

/-- R180, R187: whether it is discarded, held or taken, a complete frame leaves the receive record as it stands. -/
theorem State.frameComplete_link (s : State) (f : Frame) :
    ∃ busy held reply, (s.frameComplete f).link = { s.link with busy := busy, held := held, reply := reply } := by
  unfold State.frameComplete
  split
  case isTrue => exact ⟨_, _, _, rfl⟩
  case isFalse =>
    split
    case isTrue => exact ⟨_, _, _, rfl⟩
    case isFalse =>
      obtain ⟨reply, taken⟩ := s.takeFrame_link f
      exact ⟨_, _, reply, taken⟩

/-! ### A byte by the phase of the receive record -/

section ReceivedByte

variable {s : State}

theorem State.rxByte_hunt_ignored {b : Byte} {framing : Bool} (hunting : s.link.phase = .hunt)
    (noSync : ¬ (b = syncByte ∧ framing = false)) : s.rxByte b framing = s := by
  simp only [State.rxByte, hunting, State.rxHunt, if_neg noSync]

theorem State.rxByte_hunt_sync (hunting : s.link.phase = .hunt) :
    s.rxByte syncByte false = { s with link := { s.link.hunt with phase := .length, gap := gapDue s.now } } := by
  simp only [State.rxByte, hunting, State.rxHunt, and_self, if_true]

/-- R186: a framing error while a frame is in assembly discards it. -/
theorem State.rxByte_framing (b : Byte) (assembling : s.link.phase ≠ .hunt) : s.rxByte b true = s.discard 5 := by
  unfold State.rxByte
  cases phase : s.link.phase with
  | hunt => exact absurd phase assembling
  | length => rfl
  | data => rfl
  | check => rfl

theorem State.rxByte_length (b : Byte) (phase : s.link.phase = .length) : s.rxByte b false = s.rxLength b := by
  simp only [State.rxByte, phase, Bool.false_eq_true, if_false]

theorem State.rxByte_data (b : Byte) (phase : s.link.phase = .data) : s.rxByte b false = s.rxData b := by
  simp only [State.rxByte, phase, Bool.false_eq_true, if_false]

theorem State.rxByte_check (b : Byte) (phase : s.link.phase = .check) : s.rxByte b false = s.rxCheck b := by
  simp only [State.rxByte, phase, Bool.false_eq_true, if_false]

theorem State.rxLength_inRange {b : Byte} (low : 1 ≤ b.toNat) (high : b.toNat ≤ 57) :
    s.rxLength b = { s with link := { s.link with phase := .data, len := b, gap := gapDue s.now } } :=
  if_pos ⟨low, high⟩

theorem State.rxLength_outOfRange {b : Byte} (outOfRange : b.toNat = 0 ∨ 57 < b.toNat) :
    s.rxLength b = s.discard 2 :=
  if_neg (by omega)

/-- R186: DATA ends with the byte that makes as many as the length said. -/
theorem State.rxData_eq (b : Byte) :
    s.rxData b =
      { s with
        link := { s.link with
          data := s.link.data ++ [b], gap := gapDue s.now
          phase := if s.link.len.toNat ≤ s.link.data.length + 1 then .check else .data } } := by
  simp only [State.rxData, List.length_append, List.length_singleton]

theorem State.rxCheck_first (b : Byte) (noneYet : s.link.check = []) :
    s.rxCheck b = { s with link := { s.link with check := [b], gap := gapDue s.now } } := by
  simp only [State.rxCheck, noneYet]

/-- R186, R187: with the second CHECK byte the record is in HUNT, with nothing gathered, whatever becomes of the frame. -/
theorem State.rxCheck_second (b : Byte) (one : s.link.check ≠ []) :
    ∃ busy held reply, (s.rxCheck b).link = { s.link.hunt with busy := busy, held := held, reply := reply } := by
  obtain ⟨lo, rest, gathered⟩ := List.exists_cons_of_ne_nil one
  simp only [State.rxCheck, gathered]
  exact State.frameComplete_link _ _

end ReceivedByte

/-! ### The two events -/

section LinkEvents

variable {s : State} (outside : s.part.state ≠ .init)
include outside

theorem execLinkByteReceived_eq (b : Byte) (framing : Bool) :
    execLinkByteReceived b framing s = .next (s.rxByte b framing) :=
  State.own_next s _ outside

/-- R186: the expiry of a running gap timer discards the frame in assembly. -/
theorem execGapTimerExpiry_running (runs : s.link.gap.isSome = true) :
    execGapTimerExpiry s = .next (s.discard 1) := by
  obtain ⟨due, timer⟩ := Option.isSome_iff_exists.mp runs
  simp only [execGapTimerExpiry, State.own_next s _ outside, timer]

end LinkEvents

end Sys2Proof.Machine

namespace Sys2Proof

open Sys2Proof.Machine

/-- Settles O26, by the phase of the receive record. -/
theorem bytesAtTheReceiveRecord : Obligations.BytesAtTheReceiveRecord := by
  intro b framing s outside gap discarded
  have becomes {c : Byte} {e : Bool} {u : State} (received : s.rxByte c e = u) :
      exec (.linkByteReceived c e) s = .next u :=
    (execLinkByteReceived_eq outside c e).trans (congrArg _ received)
  refine ⟨fun hunting noSync => becomes (State.rxByte_hunt_ignored hunting noSync),
    fun hunting => becomes (State.rxByte_hunt_sync hunting),
    fun assembling => becomes (State.rxByte_framing b assembling),
    fun phase low high => becomes ((State.rxByte_length b phase).trans (State.rxLength_inRange low high)),
    fun phase outOfRange => becomes ((State.rxByte_length b phase).trans (State.rxLength_outOfRange outOfRange)),
    fun phase => becomes ((State.rxByte_data b phase).trans (State.rxData_eq b)),
    fun phase noneYet => becomes ((State.rxByte_check b phase).trans (State.rxCheck_first b noneYet)),
    fun phase one => ?second, execGapTimerExpiry_running outside⟩
  case second =>
    obtain ⟨busy, held, reply, left⟩ := State.rxCheck_second b one
    refine ⟨_, becomes (State.rxByte_check b phase), ?_⟩
    rw [left]
    exact ⟨rfl, rfl, rfl, rfl⟩

end Sys2Proof

section Proofs

/-! The proofs are elaborated one after another: in parallel they would take more memory than the check allows. -/

set_option Elab.async false

/-! What each operation leaves as it stood. `Item` names the parts of the state, `State.Touches l s t` says that `t` differs
from `s` at most in the items of `l`; one lemma for each shared operation, then one table for the commands. -/

namespace Sys2Proof.Machine

/-! ### The items of a state -/

/-- A part of the state that an operation changes or leaves: the attention records apart from the FAULT line, the part state
apart from the rest of the part record, the receive record (R186) apart from the reply record (R187). The last two are laws
rather than fields: an operation that leaves `attention` keeps the attention records sound, one that leaves `percents` hands
no percent above 100. -/
inductive Item where
  | pending | handed | now | free | blockOrder | sns | asr | adm | zon | ddr | mov | heu | trm
  | sources | fault | partState | partRest | receive | reply
  | attention | percents
  deriving DecidableEq

/-- R168, R170: the records are in their ranges, each pending exactly with a count. -/
def Atn.InRange (a : Atn) : Prop :=
  ∀ i : SourceIx, (a.sources[i].pending = true ↔ 1 ≤ a.sources[i].count) ∧ a.sources[i].count ≤ 15 ∧ a.sources[i].level ≤ 3

/-- R168, R170: the records are in their ranges and the ATTN line is judged by them. -/
def Atn.Sound (a : Atn) : Prop :=
  a.InRange ∧ (a.attn = true ↔ ∃ i : SourceIx, a.sources[i].pending = true ∧ 1 ≤ a.sources[i].level)

/-- No event that waits carries a percent above 100. -/
def State.PercentsHanded (s : State) : Prop := ∀ c ∈ s.handed, percentEvent c = true

/-- Two states agree in an item; for a law, the second keeps it where the first has it. -/
@[simp] def State.Same (s t : State) : Item → Prop
  | .pending => t.pending = s.pending
  | .handed => t.handed = s.handed
  | .now => t.now = s.now
  | .free => t.free = s.free
  | .blockOrder => t.blockOrder = s.blockOrder
  | .sns => t.sns = s.sns
  | .asr => t.asr = s.asr
  | .adm => t.adm = s.adm
  | .zon => t.zon = s.zon
  | .ddr => t.ddr = s.ddr
  | .mov => t.mov = s.mov
  | .heu => t.heu = s.heu
  | .trm => t.trm = s.trm
  | .sources => t.atn.sources = s.atn.sources ∧ t.atn.attn = s.atn.attn
  | .fault => t.atn.fault = s.atn.fault
  | .partState => t.part.state = s.part.state
  | .partRest => t.part.retain = s.part.retain ∧ t.part.cause = s.part.cause ∧ t.part.resetAsserted = s.part.resetAsserted
  | .receive =>
    t.link.phase = s.link.phase ∧ t.link.len = s.link.len ∧ t.link.data = s.link.data ∧ t.link.check = s.link.check ∧
      t.link.gap = s.link.gap
  | .reply =>
    t.link.busy = s.link.busy ∧ t.link.held = s.link.held ∧ t.link.reply = s.link.reply ∧
      t.link.resetDue = s.link.resetDue ∧ t.link.resetting = s.link.resetting
  | .attention => s.atn.Sound → t.atn.Sound
  | .percents => s.PercentsHanded → t.PercentsHanded

/-- `t` differs from `s` at most in the items of `l`. -/
def State.Touches (l : List Item) (s t : State) : Prop := ∀ i, i ∉ l → s.Same t i

theorem State.same_trans {s t u : State} {i : Item} (st : s.Same t i) (tu : t.Same u i) : s.Same u i := by
  cases i <;> simp_all

/-- Every item of `l` is one of `l'`. -/
def covers (l' l : List Item) : Bool := l.all fun i => decide (i ∈ l')

theorem mem_of_covers {l' l : List Item} (h : covers l' l = true) {i : Item} (mem : i ∈ l) : i ∈ l' :=
  of_decide_eq_true (List.all_eq_true.mp h i mem)

theorem covers_self (l : List Item) : covers l l = true := List.all_eq_true.mpr fun _ mem => decide_eq_true mem

namespace State.Touches

variable {l l' : List Item} {s t u : State}

theorem refl (l : List Item) (s : State) : Touches l s s := by
  intro i _
  cases i <;> simp

theorem trans (st : Touches l s t) (tu : Touches l t u) : Touches l s u :=
  fun i hi => State.same_trans (st i hi) (tu i hi)

theorem mono (st : Touches l s t) (sub : covers l' l = true) : Touches l' s t :=
  fun i hi => st i fun mem => hi (mem_of_covers sub mem)

/-- A first operation, then one that touches more or other items. -/
theorem andThen {m : List Item} (st : Touches l s t) (tu : Touches m t u) (hl : covers l' l = true)
    (hm : covers l' m = true) : Touches l' s u := (st.mono hl).trans (tu.mono hm)

theorem ite {p : Prop} [Decidable p] (yes : p → Touches l s t) (no : ¬ p → Touches l s u) :
    Touches l s (if p then t else u) := by
  split
  · exact yes ‹_›
  · exact no ‹_›

/-- A fold of operations that each touch the same items touches them. -/
theorem foldl {α : Type} {f : State → α → State} (each : ∀ s a, Touches l s (f s a)) (as : List α) (s : State) :
    Touches l s (as.foldl f s) := by
  induction as generalizing s with
  | nil => exact refl l s
  | cons a as ih => exact (each s a).trans (ih (f s a))

end State.Touches

open State (Touches)

/-! ### The attention records -/

theorem Atn.raise_inRange {a : Atn} (h : a.InRange) (i : SourceIx) (n : Nat) : (a.raise i n).InRange := by
  intro j
  by_cases same : j = i
  · subst same
    obtain ⟨-, count, level⟩ := h j
    rw [Atn.raise_getElem_self]
    exact ⟨by simp, Nat.min_le_left .., level⟩
  · rw [Atn.raise_getElem_ne a i j n same]
    exact h j

/-- R169, R170: a raise judges the line, however it stood. -/
theorem Atn.raise_sound {a : Atn} (h : a.InRange) (i : SourceIx) (n : Nat) : (a.raise i n).Sound :=
  ⟨Atn.raise_inRange h i n, Atn.judge_attn _⟩

theorem Atn.sound_reset : atnReset.Sound := by
  unfold Atn.Sound Atn.InRange
  decide +kernel

/-! ### Events that carry no percent -/

theorem percentEvent_reportEvent {ch : ChannelIx} {st : Status} {v : Int} {c : Instr} (h : reportEvent ch st v = some c) :
    percentEvent c = true := by
  unfold reportEvent at h
  split at h <;> cases h <;> rfl

theorem percentEvent_reportOf (r : Ddr) (u : DriveUnit) : ∀ c ∈ r.reportOf u, percentEvent c = true := by
  cases u with
  | damper d => unfold Ddr.reportOf; split <;> simp [percentEvent]
  | lane l => simp [Ddr.reportOf, percentEvent]

theorem percentEvent_levelEvent {f : Func} {on : Bool} {c : Instr} (h : f.event on = some c) : percentEvent c = true := by
  cases f <;> cases h <;> rfl

/-! ### The updates of one record -/

section Updates

variable (s : State)

theorem State.touches_handAll {cs : List Instr} (fits : ∀ c ∈ cs, percentEvent c = true) :
    Touches [.handed] s (s.handAll cs) := by
  intro i _
  cases i with
  | percents => exact fun h c mem => (List.mem_append.mp mem).elim (h c) (fits c)
  | _ => simp_all

theorem State.touches_hand {c : Instr} (fits : percentEvent c = true) : Touches [.handed] s (s.hand c) :=
  s.touches_handAll fun _ mem => List.mem_singleton.mp mem ▸ fits

theorem State.touches_strike (c : Instr) : Touches [.handed] s (s.strike c) := by
  intro i _
  cases i with
  | percents => exact fun h c mem => h c (List.mem_of_mem_erase mem)
  | _ => simp_all

theorem State.touches_dropHanded (p : Instr → Bool) : Touches [.handed] s { s with handed := s.handed.filter p } := by
  intro i _
  cases i with
  | percents => exact fun h c mem => h c (List.mem_of_mem_filter mem)
  | _ => simp_all

theorem State.touches_spendFree (n : Nat) : Touches [.free] s (s.spendFree n) := by
  intro i _; cases i <;> simp_all [State.PercentsHanded]

theorem State.touches_raise (i : SourceIx) (n : Nat) : Touches [.sources] s (s.raise i n) := by
  intro item _
  cases item with
  | attention => exact fun h => Atn.raise_sound h.1 i n
  | percents => exact id
  | _ => simp_all

theorem State.touches_raiseAll (l : List (SourceIx × Nat)) : Touches [.sources] s (s.raiseAll l) :=
  State.Touches.foldl (f := fun t p => t.raise p.1 p.2) (fun t p => t.touches_raise p.1 p.2) l s

theorem State.touches_judgeFault : Touches [.fault] s s.judgeFault := by
  intro i _
  cases i with
  | attention => exact id
  | _ => simp_all [State.PercentsHanded]

theorem State.touches_answer (r : Req) (st : StatusCode) (data : List Byte) : Touches [.reply] s (s.answer r st data) := by
  intro i _; cases i <;> simp_all [State.PercentsHanded]

theorem State.touches_status (r : Req) (st : StatusCode) : Touches [.reply] s (s.status r st) := s.touches_answer r st []

theorem State.touches_sendReply (k : Byte) (b : List Byte) : Touches [.reply] s (s.sendReply k b) := by
  intro i _; cases i <;> simp_all [State.PercentsHanded]

theorem State.touches_putChannel (ch : ChannelIx) (c : Channel) : Touches [.sns] s (s.putChannel ch c) := by
  intro i _; cases i <;> simp_all [State.PercentsHanded]

theorem State.touches_putSlot (i : SlotIx) (o : Option Override) : Touches [.sns] s (s.putSlot i o) := by
  intro i _; cases i <;> simp_all [State.PercentsHanded]

theorem State.touches_putAssessor (a : AssessorIx) (r : Assessor) : Touches [.asr] s (s.putAssessor a r) := by
  intro i _; cases i <;> simp_all [State.PercentsHanded]

theorem State.touches_putZone (z : ZoneIx) (r : Zone) : Touches [.zon] s (s.putZone z r) := by
  intro i _; cases i <;> simp_all [State.PercentsHanded]

theorem State.touches_putMover (m : MoverIx) (r : Mover) : Touches [.mov] s (s.putMover m r) := by
  intro i _; cases i <;> simp_all [State.PercentsHanded]

theorem State.touches_putLoop (l : Loop) : Touches [.mov] s (s.putLoop l) := by
  intro i _; cases i <;> simp_all [State.PercentsHanded]

theorem State.touches_putHeu (h : Heu) : Touches [.heu] s (s.putHeu h) := by
  intro i _; cases i <;> simp_all [State.PercentsHanded]

theorem State.touches_putTerminal (t : TerminalIx) (e : Terminal) : Touches [.trm] s (s.putTerminal t e) := by
  intro i _; cases i <;> simp_all [State.PercentsHanded]

theorem State.touches_mapFunc (f : Func) (t : Option TerminalIx) : Touches [.trm] s (s.mapFunc f t) := by
  intro i _; cases i <;> simp_all [State.PercentsHanded]

theorem State.touches_setPart (p : PartState) : Touches [.partState] s (s.setPart p) := by
  intro i _; cases i <;> simp_all [State.PercentsHanded]

theorem State.touches_withAdm (a : Adm) : Touches [.adm] s { s with adm := a } := by
  intro i _; cases i <;> simp_all [State.PercentsHanded]

theorem State.touches_withZon (z : Zon) : Touches [.zon] s { s with zon := z } := by
  intro i _; cases i <;> simp_all [State.PercentsHanded]

theorem State.touches_withMov (m : Mov) : Touches [.mov] s { s with mov := m } := by
  intro i _; cases i <;> simp_all [State.PercentsHanded]

theorem State.touches_withPart (p : Part) : Touches [.partState, .partRest] s { s with part := p } := by
  intro i _; cases i <;> simp_all [State.PercentsHanded]

/-- New records, in range where the old ones are, with the line judged. -/
theorem State.touches_judged (v : Vector Source 16) (keeps : s.atn.InRange → ({ s.atn with sources := v } : Atn).InRange) :
    Touches [.sources] s { s with atn := ({ s.atn with sources := v } : Atn).judge } := by
  intro i hi
  cases i with
  | sources => exact absurd List.mem_cons_self hi
  | attention => exact fun h => ⟨keeps h.1, Atn.judge_attn _⟩
  | percents => exact id
  | _ => simp [Atn.judge]

theorem State.touches_report (ch : ChannelIx) : Touches [.handed] s (s.report ch) := by
  unfold State.report
  split
  · exact .refl _ _
  · exact s.touches_hand (percentEvent_reportEvent ‹_›)

theorem State.touches_setOutputs (o : ZonOutputs) : Touches [.zon, .handed, .percents] s (s.setOutputs o) := by
  intro i _; cases i <;> simp_all [State.setOutputs]

end Updates

/-! ### DDR and ADM -/

/-- What an event at DDR touches. -/
def driveItems : List Item := [.ddr, .free, .sources, .handed]

/-- What an event at ADM touches. -/
def admItems : List Item := .adm :: .fault :: driveItems

/-- What an event at ZON touches. -/
def zonItems : List Item := .zon :: .percents :: driveItems

section Blocks

variable (s : State)

theorem State.touches_drive (f : Work → Work) : Touches driveItems s (s.drive f) := by
  have records : Touches driveItems s { s with
      ddr := (f ⟨s.ddr, s.now, s.free, [], []⟩).ddr
      free := (f ⟨s.ddr, s.now, s.free, [], []⟩).free } := by
    intro i hi; cases i <;> simp_all [driveItems, State.PercentsHanded]
  have handed : ∀ c ∈ (f ⟨s.ddr, s.now, s.free, [], []⟩).changed.dedup.flatMap
      (f ⟨s.ddr, s.now, s.free, [], []⟩).ddr.reportOf, percentEvent c = true := by
    intro c mem
    obtain ⟨u, -, reported⟩ := List.mem_flatMap.mp mem
    exact percentEvent_reportOf _ u c reported
  exact records.trans ((State.touches_raiseAll _ _).andThen (State.touches_handAll _ handed) rfl rfl)

theorem State.touches_order (d : DamperIx) (n : Nat) (k : OrderClass) (src : OrderSource) :
    Touches driveItems s (s.order d n k src) := s.touches_drive _

theorem State.touches_homeEffect (d : DamperIx) (on : Bool) : Touches driveItems s (s.homeEffect d on) := s.touches_drive _

theorem State.touches_laneFltEffect (l : LaneIx) (on : Bool) : Touches driveItems s (s.laneFltEffect l on) :=
  s.touches_drive _

theorem State.touches_issueOrders (k : OrderClass) : Touches (.adm :: driveItems) s (s.issueOrders k) :=
  (s.touches_withAdm _).andThen (State.touches_drive _ _) rfl rfl

theorem State.touches_judgeSettled : Touches [.adm, .sources] s s.judgeSettled := by
  unfold State.judgeSettled
  split
  · exact .refl _ _
  · exact .ite (fun _ => (s.touches_withAdm _).andThen (State.touches_raise _ _ _) rfl rfl) fun _ => .refl _ _

theorem State.touches_handPicture (p : Picture) (b : Bool) : Touches [.handed] s (s.handPicture p b) :=
  .ite (fun _ => .refl _ _) fun _ => s.touches_hand rfl

theorem State.touches_admStages (c : AdmCause) (before : Adm) : Touches admItems s (s.admStages c before) := by
  have judged (a : Adm) (l : List (SourceIx × Nat)) : Touches admItems s ({ s with adm := a }.raiseAll l).judgeFault :=
    (((s.touches_withAdm a).mono rfl).trans ((State.touches_raiseAll _ l).mono rfl)).trans
      ((State.touches_judgeFault _).mono rfl)
  have ordered (a : Adm) (l : List (SourceIx × Nat)) (k : OrderClass) :
      Touches admItems s (({ s with adm := a }.raiseAll l).judgeFault.issueOrders k) :=
    (judged a l).trans ((State.touches_issueOrders _ k).mono rfl)
  refine State.Touches.trans (State.Touches.ite (fun _ => ?_) fun _ => ?_) ((State.touches_handPicture _ _ _).mono rfl)
  · exact (ordered _ _ _).trans ((State.touches_judgeSettled _).mono rfl)
  · exact ordered _ _ _

theorem State.touches_admEvent {f : State → State} (h : ∀ s, Touches admItems s (f s)) : Touches admItems s (s.admEvent f) :=
  .ite (fun _ => h s) fun _ => .refl _ _

/-- ADM records its input, then runs its stages. -/
theorem State.touches_admStages_of (a before : Adm) (c : AdmCause) :
    Touches admItems s ({ s with adm := a }.admStages c before) :=
  (s.touches_withAdm a).andThen (State.touches_admStages _ c before) rfl rfl

theorem State.touches_doorEffect (d : DoorIx) (o : Bool) : Touches admItems s (s.doorEffect d o) :=
  s.touches_admEvent fun s => s.touches_admStages_of _ _ _

theorem State.touches_sealEffect (on : Bool) : Touches admItems s (s.sealEffect on) := by
  refine .ite (fun _ => s.touches_admStages_of _ _ _) fun _ => .ite (fun _ => ?_) fun _ => .refl _ _
  exact .ite (fun _ => (s.touches_order _ _ _ _).mono rfl) fun _ => .refl _ _

/-! ### HEU, MOV and SNS -/

theorem State.touches_flameEffect (on : Bool) : Touches [.heu, .sources] s (s.flameEffect on) :=
  .ite (fun _ => (s.touches_putHeu _).andThen (State.touches_raise _ _ _) rfl rfl) fun _ => (s.touches_putHeu _).mono rfl

theorem State.touches_heuJudge : Touches [.heu] s s.heuJudge := s.touches_putHeu _

theorem State.touches_tachEffect (m : MoverIx) : Touches [.mov, .free] s (s.tachEffect m) :=
  .ite (fun _ => (s.touches_putMover _ _).andThen (State.touches_spendFree _ _) rfl rfl) fun _ => .refl _ _

theorem State.touches_judgePhase : Touches [.mov] s s.judgePhase := s.touches_withMov _

theorem State.touches_setDemand (m : MoverIx) (n : Nat) : Touches [.mov] s (s.setDemand m n) := s.touches_putMover _ _

theorem State.touches_formDemands : Touches [.mov] s s.formDemands :=
  ((State.touches_setDemand _ _ _).trans (State.touches_setDemand _ _ _)).trans (State.touches_setDemand _ _ _)

theorem State.touches_putReport (ch : ChannelIx) (c : Channel) :
    Touches [.sns, .handed] s ((s.putChannel ch c).report ch) :=
  (s.touches_putChannel ch c).andThen (State.touches_report _ ch) rfl rfl

theorem State.touches_bindChannel (ch : ChannelIx) : Touches [.sns, .handed] s (s.bindChannel ch) := s.touches_putReport _ _

theorem State.touches_unbindChannel (ch : ChannelIx) : Touches [.sns, .handed] s (s.unbindChannel ch) := by
  unfold State.unbindChannel
  split
  · exact s.touches_putReport _ _
  · exact (s.touches_putSlot _ _).andThen (State.touches_putReport _ _ _) rfl rfl

theorem State.touches_releaseSlot (i : SlotIx) : Touches [.sns, .handed] s (s.releaseSlot i) := by
  unfold State.releaseSlot
  split
  · exact .refl _ _
  · exact (s.touches_putSlot _ _).andThen (State.touches_putReport _ _ _) rfl rfl

theorem State.touches_force (i : SlotIx) (ch : ChannelIx) (v : Int) : Touches [.sns, .handed] s (s.force i ch v) := by
  have forced (t : State) : Touches [.sns, .handed] t
      (((t.putSlot i (some ⟨ch, v⟩)).putChannel ch ((t.channel ch).force i v)).report ch) :=
    (t.touches_putSlot _ _).andThen (State.touches_putReport _ _ _) rfl rfl
  unfold State.force
  split
  · exact forced s
  · exact (State.Touches.ite (fun _ => .refl _ s) fun _ => s.touches_releaseSlot i).trans (forced _)

theorem State.touches_settleChannel (ch : ChannelIx) (set : ChannelSettings) :
    Touches [.sns, .handed] s (s.settleChannel ch set) :=
  .ite (fun _ => s.touches_putReport _ _) fun _ => (s.touches_putChannel _ _).mono rfl

/-! ### ZON -/

theorem State.touches_recompute : Touches zonItems s s.recompute := (s.touches_setOutputs _).mono rfl

theorem State.touches_recomputeGroups : Touches zonItems s s.recomputeGroups := (s.touches_setOutputs _).mono rfl

theorem State.touches_orderBlend (z : ZoneIx) : Touches zonItems s (s.orderBlend z) :=
  .ite (fun _ => .refl _ _) fun _ => (s.touches_putZone _ _).andThen (State.touches_order _ _ _ _ _) rfl rfl

theorem State.touches_stepZone (z : ZoneIx) : Touches zonItems s (s.stepZone z) := by
  refine State.Touches.trans ?_ (State.touches_orderBlend _ z)
  exact (s.touches_putZone _ _).andThen
    (State.Touches.ite (fun _ => State.touches_raise _ _ _) fun _ => .refl [.sources] _) rfl rfl

theorem State.touches_startZone (z : ZoneIx) : Touches zonItems s (s.startZone z) :=
  (s.touches_putZone _ _).andThen (State.touches_stepZone _ z) rfl rfl

theorem State.touches_orderDefrost : Touches zonItems s s.orderDefrost :=
  (s.touches_withZon _).andThen (State.touches_order _ _ _ _ _) rfl rfl

theorem State.touches_stopZone (z : ZoneIx) : Touches zonItems s (s.stopZone z) :=
  (s.touches_putZone _ _).andThen (State.touches_order _ _ _ _ _) rfl rfl

theorem State.touches_setZone (z : ZoneIx) (on : Bool) (n : Nat) : Touches zonItems s (s.setZone z on n) := by
  have put : Touches zonItems s (s.putZone z { s.zone z with enabled := on, setpoint := n }) := (s.touches_putZone _ _).mono rfl
  refine .ite (fun _ => (put.trans ?_).trans (State.touches_recompute _)) fun _ => put
  exact .ite (fun _ => (State.touches_putZone _ _ _).andThen (State.touches_startZone _ _) rfl rfl) fun _ => State.touches_stopZone _ _

theorem State.touches_setDefrost (flag : Bool) : Touches zonItems s (s.setDefrost flag) := by
  have put : Touches zonItems s { s with zon := { s.zon with defrost := flag } } := (s.touches_withZon _).mono rfl
  refine .ite (fun _ => (put.trans ?_).trans (State.touches_recomputeGroups _)) fun _ => put
  exact .ite (fun _ => .refl _ _) fun _ => State.touches_orderDefrost _

/-! ### TRM -/

/-- What a level of an input function touches at the owners. -/
def inputItems : List Item := .heu :: .mov :: admItems

theorem State.touches_levelEffect (f : Func) (on : Bool) : Touches inputItems s (s.levelEffect f on) := by
  cases f with
  | home d => exact (s.touches_homeEffect d on).mono rfl
  | door d => exact (s.touches_doorEffect d on).mono rfl
  | laneFlt l => exact (s.touches_laneFltEffect l on).mono rfl
  | sealReq => exact (s.touches_sealEffect on).mono rfl
  | auxFlame => exact (s.touches_flameEffect on).mono rfl
  | tach m => exact (s.touches_tachEffect m).mono rfl
  | _ => exact .refl _ _

theorem State.touches_flush (f : Func) : Touches inputItems s (s.flush f) :=
  ((s.touches_dropHanded _).mono rfl).trans (.foldl (fun t b => t.touches_levelEffect f b) _ _)

/-- What a binding or unbinding touches. -/
def bindItems : List Item := .trm :: .sns :: inputItems

theorem State.touches_tachStart (m : MoverIx) : Touches [.mov] s (s.tachStart m) := s.touches_putMover _ _

theorem State.touches_ownerBind (f : Func) : Touches bindItems s (s.ownerBind f) := by
  cases f with
  | sc ch => exact (s.touches_bindChannel ch).mono rfl
  | home d | sel d => exact .ite (fun _ => (s.touches_drive _).mono rfl) fun _ => .refl _ _
  | step l | dir l => exact .ite (fun _ => (s.touches_drive _).mono rfl) fun _ => .refl _ _
  | tach m => exact (s.touches_tachStart m).mono rfl
  | _ => exact .refl _ _

theorem State.touches_ownerUnbind (f : Func) : Touches bindItems s (s.ownerUnbind f) := by
  cases f with
  | sc ch => exact (s.touches_unbindChannel ch).mono rfl
  | home d | sel d => exact .ite (fun _ => (s.touches_drive _).mono rfl) fun _ => .refl _ _
  | step l | dir l => exact .ite (fun _ => (s.touches_drive _).mono rfl) fun _ => .refl _ _
  | tach m => exact (s.touches_tachStart m).mono rfl
  | _ => exact .refl _ _

theorem State.touches_bindNew (t : TerminalIx) (f : Func) (c : BindSettings) : Touches bindItems s (s.bindNew t f c) := by
  have bound (e : Terminal) : Touches bindItems s ((((s.flush f).putTerminal t e).mapFunc f (some t)).ownerBind f) :=
    ((((s.touches_flush f).andThen (State.touches_putTerminal _ t e) (l' := bindItems) rfl rfl).andThen
      (State.touches_mapFunc _ f _) rfl rfl)).trans (State.touches_ownerBind _ f)
  exact .ite (fun _ => (bound _).trans ((State.touches_levelEffect _ f true).mono rfl)) fun _ => bound _

theorem State.touches_rebind (t : TerminalIx) (f : Func) (c : BindSettings) : Touches bindItems s (s.rebind t f c) := by
  have put (e : Terminal) : Touches bindItems s ((s.flush f).putTerminal t e) :=
    (s.touches_flush f).andThen (State.touches_putTerminal _ t e) rfl rfl
  have moved (e : Terminal) (p : Prop) [Decidable p] (on : Bool) : Touches bindItems s
      (if p then (s.flush f).putTerminal t e else ((s.flush f).putTerminal t e).levelEffect f on) :=
    .ite (fun _ => put e) fun _ => (put e).trans ((State.touches_levelEffect _ f on).mono rfl)
  cases f with
  | tach m => exact .ite (fun _ => put _) fun _ => (put _).trans ((State.touches_tachStart _ m).mono rfl)
  | home _ | door _ | laneFlt _ | sealReq | auxFlame => exact moved _ _ _
  | _ => exact put _

theorem State.touches_unbindTerminal (t : TerminalIx) (f : Func) : Touches bindItems s (s.unbindTerminal t f) := by
  have negated (p : Prop) [Decidable p] : Touches bindItems s
      (if p then (s.flush f).levelEffect f false else s.flush f) :=
    .ite (fun _ => (s.touches_flush f).andThen (State.touches_levelEffect _ f false) rfl rfl) fun _ => (s.touches_flush f).mono rfl
  exact (((negated _).trans (State.touches_ownerUnbind _ f)).trans ((State.touches_mapFunc _ f none).mono rfl)).trans
    ((State.touches_putTerminal _ t _).mono rfl)

theorem State.touches_handLevel (f : Func) (on : Bool) : Touches [.handed] s (s.handLevel f on) := by
  unfold State.handLevel
  split
  · exact .refl _ _
  · exact s.touches_hand (percentEvent_levelEvent ‹_›)

theorem State.touches_takeLevel (t : TerminalIx) (f : Func) : Touches [.trm, .handed] s (s.takeLevel t f) := by
  have put (e : Terminal) : Touches [.trm, .handed] s (s.putTerminal t e) := (s.touches_putTerminal t e).mono rfl
  exact .ite (fun _ => put _) fun _ => (put _).trans ((State.touches_handLevel _ f _).mono rfl)

theorem State.touches_debounce (t : TerminalIx) (f : Func) : Touches [.trm, .handed] s (s.debounce t f) :=
  .ite (fun _ => s.touches_takeLevel t f) fun _ => (s.touches_putTerminal _ _).mono rfl

theorem State.touches_pinChanged (t : TerminalIx) (high : Bool) : Touches [.trm, .handed] s (s.pinChanged t high) := by
  have put (e : Terminal) : Touches [.trm, .handed] s (s.putTerminal t e) := (s.touches_putTerminal t e).mono rfl
  unfold State.pinChanged
  dsimp only
  split
  · exact put _
  · exact .ite (fun _ => (put _).trans ((State.touches_hand _ rfl).mono rfl)) fun _ => put _
  · exact .ite (fun _ => (put _).trans (State.touches_debounce _ t _)) fun _ => put _

end Blocks

end Sys2Proof.Machine

/-! The frame of every command: `Instr.items` is the table of what a command may touch, `exec_touches` says that the meaning of
each touches nothing else. -/

namespace Sys2Proof.Machine

open State (Touches)

/-! ### The part-wide events, block by block -/

/-- What an entry to RUN or a leaving of RUN touches. -/
def runItems : List Item := .mov :: .heu :: .adm :: .fault :: zonItems

/-- What a link reset touches. -/
def resetItems : List Item := .sns :: .asr :: .partState :: .partRest :: .reply :: runItems

/-- What a hardware reset leaves as it stood. -/
def keptItems : List Item := [.pending, .now, .free, .blockOrder]

/-- What a hardware reset touches. -/
def hardItems : List Item :=
  [.handed, .sns, .asr, .adm, .zon, .ddr, .mov, .heu, .trm, .sources, .fault, .partState, .partRest, .receive, .reply]

section PartWide

variable (s : State)

theorem State.touches_admEnterRun : Touches admItems s s.admEnterRun := s.touches_admStages_of _ _ _

theorem State.touches_zonEnterRun : Touches zonItems s s.zonEnterRun := by
  refine State.Touches.trans (State.Touches.trans (.foldl (fun t z => ?_) _ s) (State.touches_orderDefrost _))
    (State.touches_recompute _)
  exact .ite (fun _ => t.touches_startZone z) fun _ => .refl _ _

theorem State.touches_movEnterRun : Touches [.mov] s s.movEnterRun :=
  ((s.touches_withMov _).trans (State.touches_judgePhase _)).trans (State.touches_formDemands _)

theorem State.touches_heuEnterRun : Touches [.heu] s s.heuEnterRun := s.touches_putHeu _

theorem State.touches_enterBlock (b : Block) : Touches runItems s (s.enterBlock b) := by
  cases b with
  | adm => exact s.touches_admEnterRun.mono rfl
  | zon => exact s.touches_zonEnterRun.mono rfl
  | ddr => exact (s.touches_drive _).mono rfl
  | mov => exact s.touches_movEnterRun.mono rfl
  | heu => exact s.touches_heuEnterRun.mono rfl
  | sns | asr | atn => exact .refl _ _

theorem State.touches_admLeaveRun : Touches [.adm, .fault, .handed] s s.admLeaveRun :=
  ((s.touches_withAdm _).andThen (State.touches_judgeFault _) (l' := [.adm, .fault, .handed]) rfl rfl).andThen
    (State.touches_handPicture _ _ _) rfl rfl

theorem State.touches_zonLeaveRun : Touches [.zon, .handed, .percents] s s.zonLeaveRun :=
  (s.touches_withZon _).andThen (State.touches_setOutputs _ _) rfl rfl

theorem State.touches_movLeaveRun : Touches [.mov] s s.movLeaveRun := s.touches_withMov _

theorem State.touches_heuLeaveRun : Touches [.heu] s s.heuLeaveRun := s.touches_putHeu _

theorem State.touches_leaveBlock (b : Block) : Touches runItems s (s.leaveBlock b) := by
  cases b with
  | adm => exact s.touches_admLeaveRun.mono rfl
  | zon => exact s.touches_zonLeaveRun.mono rfl
  | ddr => exact (s.touches_drive _).mono rfl
  | mov => exact s.touches_movLeaveRun.mono rfl
  | heu => exact s.touches_heuLeaveRun.mono rfl
  | sns | asr | atn => exact .refl _ _

theorem State.touches_enterRun : Touches (.partState :: runItems) s s.enterRun :=
  (s.touches_setPart _).andThen (.foldl (fun t b => t.touches_enterBlock b) _ _) rfl rfl

theorem State.touches_leaveRun : Touches (.partState :: runItems) s s.leaveRun :=
  (s.touches_setPart _).andThen (.foldl (fun t b => t.touches_leaveBlock b) _ _) rfl rfl

theorem State.touches_snsLinkReset : Touches [.sns, .handed] s s.snsLinkReset := by
  refine State.Touches.trans (State.Touches.ite (fun _ => .refl _ s) fun _ => ?_)
    (.foldl (fun t i => t.touches_releaseSlot i) _ _)
  exact .foldl (fun t ch => t.touches_settleChannel ch _) _ _

theorem State.touches_asrLinkReset : Touches [.asr] s s.asrLinkReset :=
  .ite (fun _ => .refl _ _) fun _ => .foldl (fun t a => t.touches_putAssessor a _) _ _

theorem State.touches_admLinkReset : Touches [.adm, .fault, .handed] s s.admLinkReset :=
  .ite (fun _ => s.touches_admLeaveRun) fun _ => s.touches_admLeaveRun.andThen (State.touches_withAdm _ _) rfl rfl

theorem State.touches_zonLinkReset : Touches [.zon, .handed, .percents] s s.zonLinkReset :=
  .ite (fun _ => s.touches_zonLeaveRun) fun _ => s.touches_zonLeaveRun.andThen (State.touches_withZon _ _) rfl rfl

theorem State.touches_movLinkReset : Touches [.mov] s s.movLinkReset :=
  .ite (fun _ => s.touches_movLeaveRun) fun _ => s.touches_movLeaveRun.trans (State.touches_withMov _ _)

theorem State.touches_heuLinkReset : Touches [.heu] s s.heuLinkReset :=
  (State.Touches.ite (fun _ => .refl _ s) fun _ => s.touches_putHeu _).trans (State.touches_heuLeaveRun _)

/-- R177: the records are cleared, and RESTART is raised at once, which judges the line. -/
theorem Atn.linkCleared_inRange {a : Atn} (h : a.InRange) (retain : Bool) : (a.linkCleared retain).InRange := by
  intro i
  obtain ⟨-, -, level⟩ := h i
  have default : levelDefault i ≤ 3 := (by decide : ∀ i : SourceIx, levelDefault i ≤ 3) i
  simp only [Atn.linkCleared, Source.clear, Fin.getElem_fin, tableOf_getElem]
  refine ⟨by simp, by simp, ?_⟩
  split
  · exact level
  · exact default

theorem State.touches_atnLinkReset : Touches [.sources] s s.atnLinkReset := by
  intro i hi
  cases i with
  | sources => exact absurd List.mem_cons_self hi
  | attention => exact fun h => Atn.raise_sound (Atn.linkCleared_inRange h.1 _) _ _
  | percents => exact id
  | _ => simp [State.atnLinkReset, Atn.linkCleared]

theorem State.touches_resetBlock (b : Block) : Touches resetItems s (s.resetBlock b) := by
  cases b with
  | sns => exact s.touches_snsLinkReset.mono rfl
  | asr => exact s.touches_asrLinkReset.mono rfl
  | adm => exact s.touches_admLinkReset.mono rfl
  | zon => exact s.touches_zonLinkReset.mono rfl
  | ddr => exact (s.touches_drive fun w => w.linkReset s.part.retain).mono rfl
  | mov => exact s.touches_movLinkReset.mono rfl
  | heu => exact s.touches_heuLinkReset.mono rfl
  | atn => exact s.touches_atnLinkReset.mono rfl

theorem State.touches_linkAfterLinkReset : Touches [.reply, .handed] s s.linkAfterLinkReset := by
  have link : Touches [.reply, .handed] s
      { s with link := { s.link with busy := false, resetDue := false, resetting := false } } := by
    intro i _; cases i <;> simp_all [State.PercentsHanded]
  exact .ite (fun _ => link.trans ((State.touches_hand _ rfl).mono rfl)) fun _ => link

theorem State.touches_linkReset : Touches resetItems s s.linkReset :=
  (((s.touches_withPart _).mono rfl).trans (.foldl (fun t b => t.touches_resetBlock b) _ _)).trans
    ((State.touches_linkAfterLinkReset _).mono rfl)

theorem State.touches_hardwareReset (kind : ResetKind) : Touches hardItems s (s.hardwareReset kind) := by
  intro i hi
  cases i with
  | attention => exact fun _ => Atn.sound_reset
  | percents => exact fun _ c mem => absurd mem List.not_mem_nil
  | _ => simp_all [hardItems, State.hardwareReset]

/-! ### The link -/

/-- A request carries no percent of an event. -/
theorem percentEvent_parse {r : Req} {body : List Byte} {c : Instr} (h : r.parse body = some c) : percentEvent c = true := by
  have all : (r.parse body).all percentEvent = true := by
    unfold Req.parse levelsOfBody
    repeat' split
    all_goals rfl
  rwa [h] at all

theorem percentEvent_dispatch {kind : Byte} {body : List Byte} {c : Instr} (h : dispatch kind body = .request c) :
    percentEvent c = true := by
  unfold dispatch at h
  split at h
  · cases h
  · split at h
    · split at h
      · cases h; exact percentEvent_parse ‹_›
      · cases h
    · cases h


theorem State.touches_takeFrame (f : Frame) : Touches [.reply, .handed, .sources] s (s.takeFrame f) := by
  have link : Touches [.reply, .handed, .sources] s { s with link := { s.link with busy := true } } := by
    intro i _; cases i <;> simp_all [State.PercentsHanded]
  refine link.trans ?_
  unfold State.takeFrame
  dsimp only
  split
  · exact .refl _ _
  · split
    · split
      · exact (State.touches_sendReply _ _ _).mono rfl
      · exact (State.touches_sendReply _ _ _).mono rfl
      · exact (State.touches_hand _ (percentEvent_dispatch ‹_›)).mono rfl
    · exact (State.touches_sendReply _ _ _).andThen (State.touches_raise _ _ _) rfl rfl

theorem State.touches_frameComplete (f : Frame) : Touches [.reply, .handed, .sources] s (s.frameComplete f) := by
  have held : Touches [.reply, .handed, .sources] s { s with link := { s.link with held := some f } } := by
    intro i _; cases i <;> simp_all [State.PercentsHanded]
  refine .ite (fun _ => (s.touches_raise _ _).mono rfl) fun _ => .ite (fun _ => held) fun _ => s.touches_takeFrame f

theorem State.touches_hunt : Touches [.receive] s { s with link := s.link.hunt } := by
  intro i _; cases i <;> simp_all [State.PercentsHanded, Link.hunt]

theorem State.touches_discard (n : Nat) : Touches [.receive, .sources] s (s.discard n) :=
  s.touches_hunt.andThen (State.touches_raise _ _ _) rfl rfl

theorem State.touches_rxByte (b : Byte) (framing : Bool) :
    Touches [.receive, .reply, .handed, .sources] s (s.rxByte b framing) := by
  have discarded (n : Nat) : Touches [.receive, .reply, .handed, .sources] s (s.discard n) := (s.touches_discard n).mono rfl
  unfold State.rxByte
  split
  · refine .ite (fun _ => ?_) fun _ => .refl _ _
    intro i _; cases i <;> simp_all [State.PercentsHanded]
  · refine .ite (fun _ => discarded 5) fun _ => .ite (fun _ => ?_) fun _ => discarded 2
    intro i _; cases i <;> simp_all [State.PercentsHanded]
  · refine .ite (fun _ => discarded 5) fun _ => ?_
    intro i _; cases i <;> simp_all [State.PercentsHanded, State.rxData]
  · refine .ite (fun _ => discarded 5) fun _ => ?_
    unfold State.rxCheck
    split
    · intro i _; cases i <;> simp_all [State.PercentsHanded]
    · exact (s.touches_hunt.mono rfl).trans ((State.touches_frameComplete _ _).mono rfl)

theorem State.touches_endReply : Touches [.reply, .handed] s s.endReply := by
  have freed (due resetting : Bool) : Touches [.reply, .handed] s
      { s with link := { s.link with busy := false, reply := none, resetDue := due, resetting := resetting } } := by
    intro i _; cases i <;> simp_all [State.PercentsHanded]
  exact .ite (fun _ => (freed false true).trans ((State.touches_hand _ rfl).mono rfl)) fun _ => freed _ _

end PartWide

/-! ### The commands -/

/-- What a request that is answered touches beside its effect. -/
def askedItems : List Item := [.handed, .reply]


/-- A command that is taken, by what its effect touches. -/
theorem State.touches_take {l : List Item} {s t : State} {c : Instr} {effect : State → State}
    (h : s.take c effect = .next t) (handed : covers l [.handed] = true) (each : ∀ s, Touches l s (effect s)) :
    Touches l s t := by
  obtain ⟨-, rfl⟩ | ⟨-, rfl⟩ := State.take_cases s t c effect h
  · exact (s.touches_strike c).mono handed
  · exact ((s.touches_strike c).mono handed).trans (each _)

/-- An event of a block's own, by what its effect touches. -/
theorem State.touches_own {l : List Item} {s t : State} {effect : State → State} (h : s.own effect = .next t)
    (each : ∀ s, Touches l s (effect s)) : Touches l s t := by
  obtain ⟨-, rfl⟩ | ⟨-, rfl⟩ := State.own_cases s t effect h
  · exact .refl l t
  · exact each s

/-- An effect, then the status of its request. -/
theorem State.Touches.status {l l' : List Item} {s t : State} (st : Touches l s t) (r : Req) (code : StatusCode)
    (sub : covers l' l = true) (reply : covers l' [.reply] = true) : Touches l' s (t.status r code) :=
  st.andThen (t.touches_status r code) sub reply

/-- A refused request touches the reply. -/
theorem State.touches_refused {l : List Item} (s : State) (r : Req) (code : StatusCode) (reply : covers l [.reply] = true) :
    Touches l s (s.status r code) := (s.touches_status r code).mono reply

/-- A read answers and touches nothing else. -/
theorem State.touches_read {s t : State} {c : Instr} {r : Req} {data : State → List Byte}
    (h : s.take c (fun s => s.answer r .ok (data s)) = .next t) : Touches askedItems s t :=
  State.touches_take h rfl fun s => (s.touches_answer r .ok _).mono rfl

section Requests

variable (s t : State)

theorem execSetState_touches (code : Byte) (h : execSetState code s = .next t) :
    Touches (.reply :: .partState :: runItems) s t := by
  refine State.touches_take h rfl fun s => ?_
  split
  · exact s.touches_refused _ _ rfl
  · refine .ite (fun _ => s.touches_refused _ _ rfl) fun _ => .ite (fun _ => ?_) fun _ => ?_
    · exact .ite (fun _ => s.touches_refused _ _ rfl) fun _ => s.touches_enterRun.status _ _ rfl rfl
    · exact s.touches_leaveRun.status _ _ rfl rfl

theorem execBind_touches (b0 b1 b2 b3 b4 : Byte) (h : execBind b0 b1 b2 b3 b4 s = .next t) :
    Touches (.reply :: bindItems) s t := by
  refine State.touches_take h rfl fun s => ?_
  split
  · split
    · exact s.touches_refused _ _ rfl
    · split
      · exact s.touches_refused _ _ rfl
      · split
        · exact .ite (fun _ => (s.touches_rebind _ _ _).status _ _ rfl rfl) fun _ => s.touches_refused _ _ rfl
        · exact .ite (fun _ => s.touches_refused _ _ rfl) fun _ => (s.touches_bindNew _ _ _).status _ _ rfl rfl
  · exact s.touches_refused _ _ rfl

theorem execUnbind_touches (b : Byte) (h : execUnbind b s = .next t) : Touches (.reply :: bindItems) s t := by
  refine State.touches_take h rfl fun s => .ite (fun _ => s.touches_refused _ _ rfl) fun _ => ?_
  split
  · exact s.touches_refused _ _ rfl
  · split
    · exact s.touches_refused _ _ rfl
    · exact (s.touches_unbindTerminal _ _).status _ _ rfl rfl

theorem execReadBinding_touches (b : Byte) (h : execReadBinding b s = .next t) : Touches (.free :: askedItems) s t := by
  refine State.touches_take h rfl fun s => ?_
  split
  · exact s.touches_refused _ _ rfl
  · exact (s.touches_answer _ _ _).andThen (State.touches_spendFree _ _) rfl rfl

theorem execReadConfig_touches (a b : Byte) (h : execReadConfig a b s = .next t) : Touches askedItems s t := by
  refine State.touches_take h rfl fun s => ?_
  split
  · exact s.touches_refused _ _ rfl
  · exact (s.touches_answer _ _ _).mono rfl

theorem execRetain_touches (b : Byte) (h : execRetain b s = .next t) :
    Touches (.partState :: .partRest :: askedItems) s t := by
  refine State.touches_take h rfl fun s => ?_
  split
  · exact s.touches_refused _ _ rfl
  · exact (s.touches_withPart _).status _ _ rfl rfl

theorem execLinkReset_touches (h : execLinkReset s = .next t) : Touches askedItems s t := by
  refine State.touches_take h rfl fun s => ?_
  intro i _; cases i <;> simp_all [State.PercentsHanded, askedItems]

theorem execSetChannel_touches (b0 : Byte) (h1 h2 h3 h4 h5 h6 h7 : Half) (b8 : Byte)
    (h : execSetChannel b0 h1 h2 h3 h4 h5 h6 h7 b8 s = .next t) : Touches (.sns :: askedItems) s t := by
  refine State.touches_take h rfl fun s => .ite (fun _ => s.touches_refused _ _ rfl) fun _ => ?_
  split
  · exact s.touches_refused _ _ rfl
  · exact .ite (fun _ => s.touches_refused _ _ rfl) fun _ => (s.touches_settleChannel _ _).status _ _ rfl rfl

theorem execSetOverride_touches (b0 b1 : Byte) (h2 : Half) (h : execSetOverride b0 b1 h2 s = .next t) :
    Touches (.sns :: askedItems) s t := by
  refine State.touches_take h rfl fun s => ?_
  split
  · refine .ite (fun _ => s.touches_refused _ _ rfl) fun _ => .ite (fun _ => s.touches_refused _ _ rfl) fun _ => ?_
    exact (s.touches_force _ _ _).status _ _ rfl rfl
  · exact s.touches_refused _ _ rfl

theorem execClearOverride_touches (b : Byte) (h : execClearOverride b s = .next t) : Touches (.sns :: askedItems) s t := by
  refine State.touches_take h rfl fun s => ?_
  split
  · exact s.touches_refused _ _ rfl
  · exact (s.touches_releaseSlot _).status _ _ rfl rfl

theorem execSetAssess_touches (b0 b1 b2 b3 : Byte) (h4 h5 h6 h7 h8 : Half) (b9 b10 : Byte)
    (h : execSetAssess b0 b1 b2 b3 h4 h5 h6 h7 h8 b9 b10 s = .next t) : Touches (.asr :: askedItems) s t := by
  refine State.touches_take h rfl fun s => ?_
  split
  · exact s.touches_refused _ _ rfl
  · exact .ite (fun _ => (s.touches_putAssessor _ _).status _ _ rfl rfl) fun _ => s.touches_refused _ _ rfl

theorem execAssessorChannelReport_touches (a : AssessorIx) (st : Status) (v : Int)
    (h : execAssessorChannelReport a st v s = .next t) : Touches [.asr, .handed] s t := by
  refine State.touches_take h rfl fun s => .ite (fun _ => (s.touches_putAssessor _ _).mono rfl) fun _ => ?_
  exact (s.touches_putAssessor _ _).andThen (State.touches_hand _ rfl) rfl rfl

theorem execSetDirective_touches (b : Byte) (h : execSetDirective b s = .next t) : Touches (.reply :: admItems) s t := by
  refine State.touches_take h rfl fun s => .ite (fun _ => ?_) fun _ => s.touches_refused _ _ rfl
  split
  · exact s.touches_refused _ _ rfl
  · exact .ite (fun _ => s.touches_refused _ _ rfl) fun _ => (s.touches_admStages_of _ _ _).status _ _ rfl rfl

theorem execSetAdmission_touches (b0 b1 : Byte) (h2 h3 h4 h5 : Half) (b6 : Byte)
    (h : execSetAdmission b0 b1 h2 h3 h4 h5 b6 s = .next t) : Touches (.reply :: admItems) s t := by
  refine State.touches_take h rfl fun s => State.Touches.status (l := admItems) ?_ _ _ rfl rfl
  exact .ite (fun _ => s.touches_admStages_of _ _ _) fun _ => (s.touches_withAdm _).mono rfl

theorem execAdmHoldTimerExpiry_touches (h : execAdmHoldTimerExpiry s = .next t) : Touches admItems s t := by
  refine State.touches_own h fun s => s.touches_admEvent fun s => ?_
  split
  · exact .refl _ _
  · exact s.touches_admStages_of _ _ _

theorem execPurgeTimerExpiry_touches (h : execPurgeTimerExpiry s = .next t) : Touches admItems s t := by
  refine State.touches_own h fun s => s.touches_admEvent fun s => ?_
  split
  · exact (((s.touches_withAdm _).andThen (State.touches_raise _ _ _) (l' := admItems) rfl rfl)).trans
      (State.touches_admStages _ _ _)
  · exact .refl _ _
  · exact .refl _ _

theorem execSetZone_touches (b0 b1 : Byte) (h2 : Half) (h : execSetZone b0 b1 h2 s = .next t) :
    Touches (.reply :: zonItems) s t := by
  refine State.touches_take h rfl fun s => ?_
  split
  · exact s.touches_refused _ _ rfl
  · exact .ite (fun _ => s.touches_refused _ _ rfl) fun _ => (s.touches_setZone _ _ _).status _ _ rfl rfl

theorem execSetZoneTuning_touches (h0 h1 : Half) (b2 : Byte) (h3 h4 h5 : Half) (b6 : Byte) (h7 : Half)
    (h : execSetZoneTuning h0 h1 b2 h3 h4 h5 b6 h7 s = .next t) : Touches (.reply :: zonItems) s t := by
  refine State.touches_take h rfl fun s => .ite (fun _ => s.touches_refused _ _ rfl) fun _ => ?_
  refine State.Touches.status (l := zonItems) (.ite (fun _ => ?_) fun _ => (s.touches_withZon _).mono rfl) _ _ rfl rfl
  exact (s.touches_withZon _).andThen (State.touches_recomputeGroups _) rfl rfl

theorem execSetCrew_touches (b0 b1 : Byte) (h : execSetCrew b0 b1 s = .next t) : Touches (.reply :: zonItems) s t := by
  refine State.touches_take h rfl fun s => ?_
  split
  · exact s.touches_refused _ _ rfl
  · exact (s.touches_putZone _ _).status _ _ rfl rfl

theorem execZoneUpdate_touches (z : ZoneIx) (h : execZoneUpdate z s = .next t) : Touches zonItems s t := by
  refine State.touches_own h fun s => ?_
  split
  · exact .refl _ _
  · exact (s.touches_stepZone z).trans (State.touches_recompute _)

theorem execSetDamper_touches (b0 : Byte) (h1 h2 h3 : Half) (b4 : Byte) (h : execSetDamper b0 h1 h2 h3 b4 s = .next t) :
    Touches (.reply :: driveItems) s t := by
  refine State.touches_take h rfl fun s => .ite (fun _ => s.touches_refused _ _ rfl) fun _ => ?_
  split
  · exact s.touches_refused _ _ rfl
  · refine .ite (fun _ => s.touches_refused _ _ rfl) fun _ => .ite (fun _ => s.touches_refused _ _ rfl) fun _ => ?_
    exact (s.touches_drive _).status _ _ rfl rfl

theorem execMove_touches (b0 b1 b2 : Byte) (h : execMove b0 b1 b2 s = .next t) : Touches (.reply :: driveItems) s t := by
  refine State.touches_take h rfl fun s => .ite (fun _ => s.touches_refused _ _ rfl) fun _ => ?_
  split
  · exact s.touches_refused _ _ rfl
  · refine .ite (fun _ => s.touches_refused _ _ rfl) fun _ => ?_
    dsimp only
    split <;> exact (s.touches_order _ _ _ _).status _ _ rfl rfl

theorem execRehome_touches (b : Byte) (h : execRehome b s = .next t) : Touches (.reply :: driveItems) s t := by
  refine State.touches_take h rfl fun s => ?_
  split
  · exact s.touches_refused _ _ rfl
  · exact .ite (fun _ => s.touches_refused _ _ rfl) fun _ => (s.touches_drive _).status _ _ rfl rfl

theorem execLaneEnable_touches (b : Byte) (h : execLaneEnable b s = .next t) : Touches (.reply :: driveItems) s t := by
  refine State.touches_take h rfl fun s => ?_
  split
  · exact s.touches_refused _ _ rfl
  · exact .ite (fun _ => s.touches_refused _ _ rfl) fun _ => (s.touches_drive _).status _ _ rfl rfl

theorem State.touches_restartMover (m : MoverIx) : Touches [.mov, .sources] s (s.restartMover m) :=
  .ite (fun _ => (s.touches_putMover _ _).andThen (State.touches_raise _ _ _) rfl rfl) fun _ => (s.touches_putMover _ _).mono rfl

theorem execGroupDemandChange_touches (g : Group) (n : Nat) (h : execGroupDemandChange g n s = .next t) :
    Touches [.mov, .handed] s t := by
  refine State.touches_take h rfl fun s => ?_
  cases g <;> exact ((s.touches_withMov _).trans (State.touches_setDemand _ _ _)).mono rfl

theorem execLoopUpdate_touches (h : execLoopUpdate s = .next t) : Touches [.mov] s t := by
  refine State.touches_own h fun s => ?_
  dsimp only
  split
  · exact .refl _ _
  · exact (s.touches_putLoop _).trans (State.touches_setDemand _ _ _)

theorem execSetMover_touches (b0 b1 : Byte) (h2 h3 : Half) (b4 : Byte) (h5 : Half) (b6 : Byte)
    (h : execSetMover b0 b1 h2 h3 b4 h5 b6 s = .next t) : Touches (.mov :: askedItems) s t := by
  refine State.touches_take h rfl fun s => ?_
  split
  · exact s.touches_refused _ _ rfl
  · exact (s.touches_putMover _ _).status _ _ rfl rfl

theorem execMoverRestart_touches (b : Byte) (h : execMoverRestart b s = .next t) : Touches (.mov :: askedItems) s t := by
  refine State.touches_take h rfl fun s => ?_
  split
  · exact s.touches_refused _ _ rfl
  · exact .ite (fun _ => (s.touches_putMover _ _).status _ _ rfl rfl) fun _ => s.touches_refused _ _ rfl

theorem State.touches_changeInhibit (b : Bool) : Touches [.heu] s (s.changeInhibit b) :=
  .ite (fun _ => .refl _ _) fun _ => .ite (fun _ => s.touches_putHeu _) fun _ => s.touches_putHeu _

theorem execHardwareReset_touches (kind : ResetKind) (h : execHardwareReset kind s = .next t) :
    Touches (hardItems) s t := by
  cases h; exact s.touches_hardwareReset kind

theorem execInitEnd_touches(h : execInitEnd s = .next t) :
    Touches [.partState, .partRest, .sources] s t := by
  cases h
  exact .ite (fun _ => (s.touches_withPart _).andThen (State.touches_raise _ _ _) rfl rfl) fun _ => .refl _ _

theorem execResetNegation_touches(h : execResetNegation s = .next t) :
    Touches [.partRest] s t := by
  cases h; intro i _; cases i <;> simp_all [State.PercentsHanded]

theorem execLinkByteReceived_touches (b : Byte) (e : Bool) (h : execLinkByteReceived b e s = .next t) :
    Touches [.receive, .reply, .handed, .sources] s t :=
  State.touches_own h fun s => s.touches_rxByte b e

theorem execGapTimerExpiry_touches(h : execGapTimerExpiry s = .next t) :
    Touches [.receive, .sources] s t := by
  refine State.touches_own h fun s => ?_
  split
  · exact .refl _ _
  · exact s.touches_discard 1

theorem execReplyEnd_touches(h : execReplyEnd s = .next t) :
    Touches [.reply, .handed] s t :=
  State.touches_own h fun s => .ite (fun _ => s.touches_endReply) fun _ => .refl _ _

theorem execHeldFrameTaken_touches(h : execHeldFrameTaken s = .next t) :
    Touches [.reply, .handed, .sources] s t := by
  refine State.touches_take h rfl fun s => ?_
  split
  · exact .refl _ _
  · refine .ite (fun _ => .refl _ _) fun _ => State.Touches.trans (t := { s with link := { s.link with held := none } }) ?_
      (State.touches_takeFrame _ _)
    intro i _; cases i <;> simp_all [State.PercentsHanded]

theorem execLinkResetEffect_touches(h : execLinkResetEffect s = .next t) :
    Touches (resetItems) s t :=
  State.touches_take h rfl fun s => .ite (fun _ => s.touches_linkReset) fun _ => .refl _ _

theorem execReadIdent_touches(h : execReadIdent s = .next t) :
    Touches (askedItems) s t :=
  State.touches_read h

theorem execReadChannels_touches(h : execReadChannels s = .next t) :
    Touches (askedItems) s t :=
  State.touches_read h

theorem execReadAssess_touches(h : execReadAssess s = .next t) :
    Touches (askedItems) s t :=
  State.touches_read h

theorem execReadAdmission_touches(h : execReadAdmission s = .next t) :
    Touches (askedItems) s t :=
  State.touches_read h

theorem execReadZones_touches(h : execReadZones s = .next t) :
    Touches (askedItems) s t :=
  State.touches_read h

theorem execReadDampers_touches(h : execReadDampers s = .next t) :
    Touches (askedItems) s t :=
  State.touches_read h

theorem execReadQueue_touches(h : execReadQueue s = .next t) :
    Touches (askedItems) s t :=
  State.touches_read h

theorem execReadMovers_touches(h : execReadMovers s = .next t) :
    Touches (askedItems) s t :=
  State.touches_read h

theorem execReadHeat_touches(h : execReadHeat s = .next t) :
    Touches (askedItems) s t :=
  State.touches_read h

theorem execPinChange_touches (p : TerminalIx) (high : Bool) (h : execPinChange p high s = .next t) :
    Touches [.trm, .handed] s t := by
  cases h; exact .ite (fun _ => .refl _ _) fun _ => s.touches_pinChanged p high

theorem execDebounceTimerExpiry_touches (p : TerminalIx) (h : execDebounceTimerExpiry p s = .next t) :
    Touches [.trm, .handed] s t := by
  refine State.touches_own h fun s => ?_
  split
  · exact s.touches_takeLevel _ _
  · exact .refl _ _

theorem execSampleArrival_touches (ch : ChannelIx) (raw : BitVec 12) (h : execSampleArrival ch raw s = .next t) :
    Touches [.sns, .handed] s t :=
  State.touches_own h fun s => .ite (fun _ => .refl _ _) fun _ => s.touches_putReport _ _

theorem execWarmUpExpiry_touches (ch : ChannelIx) (h : execWarmUpExpiry ch s = .next t) :
    Touches [.sns] s t := by
  refine State.touches_own h fun s => ?_
  split
  · exact s.touches_putChannel _ _
  · exact .refl _ _
  · exact .refl _ _

theorem execChannelHoldExpiry_touches (ch : ChannelIx) (h : execChannelHoldExpiry ch s = .next t) :
    Touches [.sns, .sources, .handed] s t := by
  refine State.touches_own h fun s => ?_
  dsimp only
  split
  · exact .refl _ _
  · exact ((s.touches_putChannel _ _).andThen (State.touches_raise _ _ _) (l' := [.sns, .sources, .handed]) rfl rfl).andThen
      (State.touches_report _ _) rfl rfl

theorem execAdmLevelReport_touches (a : AssessorIx) (l : Level) (h : execAdmLevelReport a l s = .next t) :
    Touches (admItems) s t :=
  State.touches_take h rfl fun s => s.touches_admEvent fun s => s.touches_admStages _ _

theorem execOatReport_touches (st : Status) (v : Int) (h : execOatReport st v s = .next t) :
    Touches (admItems) s t :=
  State.touches_take h rfl fun s => s.touches_admEvent fun s => s.touches_admStages_of _ _ _

theorem execSealReqChange_touches (b : Bool) (h : execSealReqChange b s = .next t) :
    Touches (admItems) s t :=
  State.touches_take h rfl fun s => s.touches_sealEffect b

theorem execDoorChange_touches (d : DoorIx) (b : Bool) (h : execDoorChange d b s = .next t) :
    Touches (admItems) s t :=
  State.touches_take h rfl fun s => s.touches_doorEffect d b

theorem execZonOutputChange_touches (c : ZonChange) (h : execZonOutputChange c s = .next t) :
    Touches (admItems) s t :=
  State.touches_take h rfl fun s => s.touches_admEvent fun s => s.touches_admStages_of _ _ _

theorem execDamperStateReport_touches (r : DriveReport) (h : execDamperStateReport r s = .next t) :
    Touches (admItems) s t :=
  State.touches_take h rfl fun s => s.touches_admEvent fun s => s.touches_admStages _ _

theorem execSetDefrost_touches (b : Byte) (h : execSetDefrost b s = .next t) :
    Touches (.reply :: zonItems) s t :=
  State.touches_take h rfl fun s =>
    .ite (fun _ => s.touches_refused _ _ rfl) fun _ => (s.touches_setDefrost _).status _ _ rfl rfl

theorem execStepCompletion_touches (d : DamperIx) (h : execStepCompletion d s = .next t) :
    Touches (driveItems) s t :=
  State.touches_own h fun s => s.touches_drive _

theorem execSettleTimerExpiry_touches (d : DamperIx) (h : execSettleTimerExpiry d s = .next t) :
    Touches (driveItems) s t :=
  State.touches_own h fun s => s.touches_drive _

theorem execHomeChange_touches (d : DamperIx) (b : Bool) (h : execHomeChange d b s = .next t) :
    Touches (driveItems) s t :=
  State.touches_take h rfl fun s => s.touches_homeEffect d b

theorem execLaneFltChange_touches (l : LaneIx) (b : Bool) (h : execLaneFltChange l b s = .next t) :
    Touches (driveItems) s t :=
  State.touches_take h rfl fun s => s.touches_laneFltEffect l b

theorem execLaneRecoveryExpiry_touches (l : LaneIx) (h : execLaneRecoveryExpiry l s = .next t) :
    Touches (driveItems) s t :=
  State.touches_own h fun s => s.touches_drive _

theorem execLaneFaultHistoryExpiry_touches (l : LaneIx) (h : execLaneFaultHistoryExpiry l s = .next t) :
    Touches (driveItems) s t :=
  State.touches_own h fun s => s.touches_drive _

theorem execMoverUpdate_touches (m : MoverIx) (h : execMoverUpdate m s = .next t) :
    Touches [.mov] s t := by
  refine State.touches_own h fun s => ?_
  split
  · exact .refl _ _
  · exact s.touches_putMover _ _

theorem execEdgeTimerExpiry_touches (m : MoverIx) (h : execEdgeTimerExpiry m s = .next t) :
    Touches [.mov] s t := by
  refine State.touches_own h fun s => ?_
  dsimp only
  split
  · exact .refl _ _
  · exact s.touches_putMover _ _

theorem execStallTimerExpiry_touches (m : MoverIx) (h : execStallTimerExpiry m s = .next t) :
    Touches [.mov] s t := by
  refine State.touches_own h fun s => ?_
  dsimp only
  split
  · exact .refl _ _
  · exact s.touches_putMover _ _

theorem execCleanRunTimerExpiry_touches (m : MoverIx) (h : execCleanRunTimerExpiry m s = .next t) :
    Touches [.mov] s t := by
  refine State.touches_own h fun s => ?_
  split
  · exact .refl _ _
  · exact s.touches_putMover _ _

theorem execTachEdge_touches (m : MoverIx) (h : execTachEdge m s = .next t) :
    Touches [.mov, .free, .handed] s t :=
  State.touches_take h rfl fun s => (s.touches_tachEffect m).mono rfl

theorem execRestartTimerExpiry_touches (m : MoverIx) (h : execRestartTimerExpiry m s = .next t) :
    Touches [.mov, .sources] s t := by
  refine State.touches_own h fun s => ?_
  split
  · exact .refl _ _
  · exact s.touches_restartMover m

theorem execPressureLostExpiry_touches(h : execPressureLostExpiry s = .next t) :
    Touches [.mov, .sources] s t := by
  refine State.touches_own h fun s => ?_
  split
  · exact .refl _ _
  · exact (s.touches_putLoop _).andThen (State.touches_raise _ _ _) rfl rfl

theorem execFilterTimerExpiry_touches(h : execFilterTimerExpiry s = .next t) :
    Touches [.mov, .sources] s t := by
  refine State.touches_own h fun s => ?_
  split
  · exact .refl _ _
  · exact (s.touches_withMov _).andThen (State.touches_raise _ _ _) rfl rfl

theorem execAdmissionReport_touches (p : Picture) (h : execAdmissionReport p s = .next t) :
    Touches [.mov, .handed] s t :=
  State.touches_take h rfl fun s =>
    (((s.touches_withMov _).trans (State.touches_judgePhase _)).trans (State.touches_formDemands _)).mono rfl

theorem execCpdReport_touches (st : Status) (v : Int) (h : execCpdReport st v s = .next t) :
    Touches [.mov, .handed] s t :=
  State.touches_take h rfl fun s => (s.touches_withMov _).mono rfl

theorem execFpdReport_touches (st : Status) (v : Int) (h : execFpdReport st v s = .next t) :
    Touches [.mov, .handed] s t :=
  State.touches_take h rfl fun s => (s.touches_withMov _).mono rfl

theorem execSetPressure_touches (h0 : Half) (b1 : Byte) (b2 : Byte) (h3 : Half) (h : execSetPressure h0 b1 b2 h3 s = .next t) :
    Touches (.mov :: askedItems) s t :=
  State.touches_take h rfl fun s => ((s.touches_withMov _).trans (State.touches_setDemand _ _ _)).status _ _ rfl rfl

theorem execHeatDemandChange_touches (n : Nat) (h : execHeatDemandChange n s = .next t) :
    Touches [.heu, .handed] s t :=
  State.touches_take h rfl fun s => ((s.touches_putHeu _).trans (State.touches_heuJudge _)).mono rfl

theorem execCltReport_touches (st : Status) (v : Int) (h : execCltReport st v s = .next t) :
    Touches [.heu, .handed] s t :=
  State.touches_take h rfl fun s => ((s.touches_putHeu _).trans (State.touches_heuJudge _)).mono rfl

theorem execAuxFlameChange_touches (b : Bool) (h : execAuxFlameChange b s = .next t) :
    Touches [.heu, .handed, .sources] s t :=
  State.touches_take h rfl fun s => (s.touches_flameEffect b).mono rfl

theorem execValveHoldTimerExpiry_touches(h : execValveHoldTimerExpiry s = .next t) :
    Touches [.heu] s t := by
  refine State.touches_own h fun s => ?_
  split
  · exact s.touches_putHeu _
  · exact .refl _ _
  · exact .refl _ _

theorem execCoolantReleaseExpiry_touches(h : execCoolantReleaseExpiry s = .next t) :
    Touches [.heu] s t := by
  refine State.touches_own h fun s => ?_
  split
  · exact .refl _ _
  · exact s.touches_putHeu _

theorem execDemandReleaseExpiry_touches(h : execDemandReleaseExpiry s = .next t) :
    Touches [.heu] s t := by
  refine State.touches_own h fun s => ?_
  split
  · exact .refl _ _
  · exact s.touches_putHeu _

theorem execIgnitionTimerExpiry_touches(h : execIgnitionTimerExpiry s = .next t) :
    Touches [.heu, .sources] s t := by
  refine State.touches_own h fun s => ?_
  split
  · exact .refl _ _
  · exact (s.touches_putHeu _).andThen (State.touches_raise _ _ _) rfl rfl

theorem execCooldownTimerExpiry_touches(h : execCooldownTimerExpiry s = .next t) :
    Touches [.heu, .sources] s t := by
  refine State.touches_own h fun s => ?_
  split
  · exact .refl _ _
  · exact .ite (fun _ => (s.touches_putHeu _).andThen (State.touches_raise _ _ _) rfl rfl) fun _ => (s.touches_putHeu _).mono rfl

theorem execSetHeat_touches (h0 : Half) (h1 : Half) (b2 : Byte) (b3 : Byte) (h4 : Half) (h5 : Half) (h6 : Half) (h7 : Half) (h : execSetHeat h0 h1 b2 b3 h4 h5 h6 h7 s = .next t) :
    Touches (.heu :: askedItems) s t :=
  State.touches_take h rfl fun s =>
    .ite (fun _ => s.touches_refused _ _ rfl) fun _ => ((s.touches_putHeu _).trans (State.touches_heuJudge _)).status _ _ rfl rfl

theorem execAuxInhibit_touches (b : Byte) (h : execAuxInhibit b s = .next t) :
    Touches (.heu :: askedItems) s t :=
  State.touches_take h rfl fun s =>
    .ite (fun _ => s.touches_refused _ _ rfl) fun _ => (s.touches_changeInhibit _).status _ _ rfl rfl

theorem execAuxClearLock_touches(h : execAuxClearLock s = .next t) :
    Touches (.heu :: askedItems) s t :=
  State.touches_take h rfl fun s =>
    .ite (fun _ => (s.touches_putHeu _).status _ _ rfl rfl) fun _ => s.touches_refused _ _ rfl

/-- R171: a source that is cleared is neither pending nor counted. -/
theorem Atn.cleared_inRange {a : Atn} (h : a.InRange) (i : SourceIx) :
    ({ a with sources := a.sources.set i a.sources[i].clear } : Atn).InRange := by
  intro j
  by_cases same : j = i
  · subst same
    simpa [Source.clear] using (h j).2.2
  · simpa [Vector.getElem_set_ne, Fin.val_ne_of_ne (Ne.symm same)] using h j

theorem Atn.clearNamed_inRange {a : Atn} (h : a.InRange) (mask : Half) : (a.clearNamed mask).InRange := by
  intro j
  by_cases called : named mask j = true
  · simpa [Atn.clearNamed, Atn.judge, Source.clear, called] using (h j).2.2
  · simpa [Atn.clearNamed, Atn.judge, called] using h j

theorem Atn.setLevels_inRange {a : Atn} (h : a.InRange) {levels : Vector Byte 16}
    (low : ¬ levels.toList.any (fun b => decide (3 < b.toNat)) = true) : (a.setLevels levels).InRange := by
  intro j
  obtain ⟨counted, count, -⟩ := h j
  have level : levels[j].toNat ≤ 3 := by
    simp only [List.any_eq_true, decide_eq_true_eq, not_exists, not_and, Nat.not_lt] at low
    exact low _ (by simp)
  simpa [Atn.setLevels, Atn.judge] using ⟨counted, count, level⟩

theorem execCollect_touches(h : execCollect s = .next t) :
    Touches (.sources :: askedItems) s t := by
  refine State.touches_take h rfl fun s => ?_
  split
  · exact (s.touches_answer _ _ _).mono rfl
  · exact (s.touches_judged _ fun h => Atn.cleared_inRange h _).andThen (State.touches_answer _ _ _ _) rfl rfl

theorem execClearSources_touches (m : Half) (h : execClearSources m s = .next t) :
    Touches (.sources :: askedItems) s t :=
  State.touches_take h rfl fun s => (s.touches_judged _ fun h => Atn.clearNamed_inRange h m).status _ _ rfl rfl

theorem State.touches_assertNamed (mask : Half) : Touches [.sources] s { s with atn := s.atn.assertNamed mask } := by
  have raised (l : List SourceIx) (u : State) :
      Touches [.sources] u { u with atn := l.foldl (fun b i => b.raise i 0) u.atn } := by
    induction l generalizing u with
    | nil => exact .refl _ _
    | cons i l ih => exact (u.touches_raise i 0).trans (ih (u.raise i 0))
  exact raised _ s

theorem execAssertSources_touches (m : Half) (h : execAssertSources m s = .next t) :
    Touches (.sources :: askedItems) s t :=
  State.touches_take h rfl fun s => (s.touches_assertNamed m).status _ _ rfl rfl

theorem execSetLevels_touches (v : Vector Byte 16) (h : execSetLevels v s = .next t) :
    Touches (.sources :: askedItems) s t :=
  State.touches_take h rfl fun s =>
    .ite (fun _ => s.touches_refused _ _ rfl) fun low => (s.touches_judged _ fun h => Atn.setLevels_inRange h low).status _ _ rfl rfl

end Requests

/-- What a command touches at most: the handed event or request waits no longer, a request is answered, and its effect touches
what the chapter of its owner lets it touch. -/
def Command.items (c : Instr) : List Item :=
  match c with
  | .hardwareReset _ => hardItems
  | .initEnd => [.partState, .partRest, .sources]
  | .resetNegation => [.partRest]
  | .linkByteReceived _ _ => [.receive, .reply, .handed, .sources]
  | .gapTimerExpiry => [.receive, .sources]
  | .replyEnd => [.reply, .handed]
  | .heldFrameTaken => [.reply, .handed, .sources]
  | .setState _ => .reply :: .partState :: runItems
  | .linkResetEffect => resetItems
  | .retain _ => .partState :: .partRest :: askedItems
  | .linkReset | .readIdent | .readConfig _ _ | .readChannels | .readAssess | .readAdmission | .readZones | .readDampers
  | .readQueue | .readMovers | .readHeat => askedItems
  | .readBinding _ => .free :: askedItems
  | .bind _ _ _ _ _ | .unbind _ => .reply :: bindItems
  | .pinChange _ _ | .debounceTimerExpiry _ => [.trm, .handed]
  | .sampleArrival _ _ => [.sns, .handed]
  | .warmUpExpiry _ => [.sns]
  | .channelHoldExpiry _ => [.sns, .sources, .handed]
  | .setChannel _ _ _ _ _ _ _ _ _ | .setOverride _ _ _ | .clearOverride _ => .sns :: askedItems
  | .assessorChannelReport _ _ _ => [.asr, .handed]
  | .setAssess _ _ _ _ _ _ _ _ _ _ _ => .asr :: askedItems
  | .admLevelReport _ _ | .oatReport _ _ | .sealReqChange _ | .doorChange _ _ | .zonOutputChange _ | .damperStateReport _
  | .admHoldTimerExpiry | .purgeTimerExpiry => admItems
  | .setDirective _ | .setAdmission _ _ _ _ _ _ _ => .reply :: admItems
  | .zoneUpdate _ => zonItems
  | .setZone _ _ _ | .setZoneTuning _ _ _ _ _ _ _ _ | .setCrew _ _ | .setDefrost _ => .reply :: zonItems
  | .stepCompletion _ | .settleTimerExpiry _ | .homeChange _ _ | .laneFltChange _ _ | .laneRecoveryExpiry _
  | .laneFaultHistoryExpiry _ => driveItems
  | .setDamper _ _ _ _ _ | .move _ _ _ | .rehome _ | .laneEnable _ => .reply :: driveItems
  | .moverUpdate _ | .edgeTimerExpiry _ | .stallTimerExpiry _ | .cleanRunTimerExpiry _ | .loopUpdate => [.mov]
  | .tachEdge _ => [.mov, .free, .handed]
  | .restartTimerExpiry _ | .pressureLostExpiry | .filterTimerExpiry => [.mov, .sources]
  | .groupDemandChange _ _ | .admissionReport _ | .cpdReport _ _ | .fpdReport _ _ => [.mov, .handed]
  | .setMover _ _ _ _ _ _ _ | .setPressure _ _ _ _ | .moverRestart _ => .mov :: askedItems
  | .heatDemandChange _ | .cltReport _ _ => [.heu, .handed]
  | .auxFlameChange _ => [.heu, .handed, .sources]
  | .valveHoldTimerExpiry | .coolantReleaseExpiry | .demandReleaseExpiry => [.heu]
  | .ignitionTimerExpiry | .cooldownTimerExpiry => [.heu, .sources]
  | .setHeat _ _ _ _ _ _ _ _ | .auxInhibit _ | .auxClearLock => .heu :: askedItems
  | .collect | .clearSources _ | .assertSources _ | .setLevels _ => .sources :: askedItems

/-- What a command does not name in its table stands through it. -/
theorem exec_touches (c : Instr) (s t : State) (h : exec c s = .next t) : Touches (Command.items c) s t := by
  cases c with
  | hardwareReset kind => exact execHardwareReset_touches s t kind h
  | initEnd => exact execInitEnd_touches s t h
  | resetNegation => exact execResetNegation_touches s t h
  | linkByteReceived b e => exact execLinkByteReceived_touches s t b e h
  | gapTimerExpiry => exact execGapTimerExpiry_touches s t h
  | replyEnd => exact execReplyEnd_touches s t h
  | heldFrameTaken => exact execHeldFrameTaken_touches s t h
  | setState code => exact execSetState_touches s t code h
  | linkReset => exact execLinkReset_touches s t h
  | linkResetEffect => exact execLinkResetEffect_touches s t h
  | retain b => exact execRetain_touches s t b h
  | readConfig a b => exact execReadConfig_touches s t a b h
  | readIdent => exact execReadIdent_touches s t h
  | readChannels => exact execReadChannels_touches s t h
  | readAssess => exact execReadAssess_touches s t h
  | readAdmission => exact execReadAdmission_touches s t h
  | readZones => exact execReadZones_touches s t h
  | readDampers => exact execReadDampers_touches s t h
  | readQueue => exact execReadQueue_touches s t h
  | readMovers => exact execReadMovers_touches s t h
  | readHeat => exact execReadHeat_touches s t h
  | readBinding b => exact execReadBinding_touches s t b h
  | bind b0 b1 b2 b3 b4 => exact execBind_touches s t b0 b1 b2 b3 b4 h
  | unbind b => exact execUnbind_touches s t b h
  | pinChange p high => exact execPinChange_touches s t p high h
  | debounceTimerExpiry p => exact execDebounceTimerExpiry_touches s t p h
  | sampleArrival ch raw => exact execSampleArrival_touches s t ch raw h
  | warmUpExpiry ch => exact execWarmUpExpiry_touches s t ch h
  | channelHoldExpiry ch => exact execChannelHoldExpiry_touches s t ch h
  | setChannel b0 h1 h2 h3 h4 h5 h6 h7 b8 => exact execSetChannel_touches s t b0 h1 h2 h3 h4 h5 h6 h7 b8 h
  | setOverride b0 b1 h2 => exact execSetOverride_touches s t b0 b1 h2 h
  | clearOverride b => exact execClearOverride_touches s t b h
  | assessorChannelReport a st v => exact execAssessorChannelReport_touches s t a st v h
  | setAssess b0 b1 b2 b3 h4 h5 h6 h7 h8 b9 b10 => exact execSetAssess_touches s t b0 b1 b2 b3 h4 h5 h6 h7 h8 b9 b10 h
  | admLevelReport a l => exact execAdmLevelReport_touches s t a l h
  | oatReport st v => exact execOatReport_touches s t st v h
  | sealReqChange b => exact execSealReqChange_touches s t b h
  | doorChange d b => exact execDoorChange_touches s t d b h
  | zonOutputChange c => exact execZonOutputChange_touches s t c h
  | damperStateReport r => exact execDamperStateReport_touches s t r h
  | admHoldTimerExpiry => exact execAdmHoldTimerExpiry_touches s t h
  | purgeTimerExpiry => exact execPurgeTimerExpiry_touches s t h
  | setDirective b => exact execSetDirective_touches s t b h
  | setAdmission b0 b1 h2 h3 h4 h5 b6 => exact execSetAdmission_touches s t b0 b1 h2 h3 h4 h5 b6 h
  | zoneUpdate z => exact execZoneUpdate_touches s t z h
  | setZone b0 b1 h2 => exact execSetZone_touches s t b0 b1 h2 h
  | setZoneTuning h0 h1 b2 h3 h4 h5 b6 h7 => exact execSetZoneTuning_touches s t h0 h1 b2 h3 h4 h5 b6 h7 h
  | setCrew b0 b1 => exact execSetCrew_touches s t b0 b1 h
  | setDefrost b => exact execSetDefrost_touches s t b h
  | stepCompletion d => exact execStepCompletion_touches s t d h
  | settleTimerExpiry d => exact execSettleTimerExpiry_touches s t d h
  | homeChange d b => exact execHomeChange_touches s t d b h
  | laneFltChange l b => exact execLaneFltChange_touches s t l b h
  | laneRecoveryExpiry l => exact execLaneRecoveryExpiry_touches s t l h
  | laneFaultHistoryExpiry l => exact execLaneFaultHistoryExpiry_touches s t l h
  | setDamper b0 h1 h2 h3 b4 => exact execSetDamper_touches s t b0 h1 h2 h3 b4 h
  | move b0 b1 b2 => exact execMove_touches s t b0 b1 b2 h
  | rehome b => exact execRehome_touches s t b h
  | laneEnable b => exact execLaneEnable_touches s t b h
  | moverUpdate m => exact execMoverUpdate_touches s t m h
  | edgeTimerExpiry m => exact execEdgeTimerExpiry_touches s t m h
  | stallTimerExpiry m => exact execStallTimerExpiry_touches s t m h
  | cleanRunTimerExpiry m => exact execCleanRunTimerExpiry_touches s t m h
  | loopUpdate => exact execLoopUpdate_touches s t h
  | tachEdge m => exact execTachEdge_touches s t m h
  | restartTimerExpiry m => exact execRestartTimerExpiry_touches s t m h
  | pressureLostExpiry => exact execPressureLostExpiry_touches s t h
  | filterTimerExpiry => exact execFilterTimerExpiry_touches s t h
  | groupDemandChange g n => exact execGroupDemandChange_touches s t g n h
  | admissionReport p => exact execAdmissionReport_touches s t p h
  | cpdReport st v => exact execCpdReport_touches s t st v h
  | fpdReport st v => exact execFpdReport_touches s t st v h
  | setMover b0 b1 h2 h3 b4 h5 b6 => exact execSetMover_touches s t b0 b1 h2 h3 b4 h5 b6 h
  | setPressure h0 b1 b2 h3 => exact execSetPressure_touches s t h0 b1 b2 h3 h
  | moverRestart b => exact execMoverRestart_touches s t b h
  | heatDemandChange n => exact execHeatDemandChange_touches s t n h
  | cltReport st v => exact execCltReport_touches s t st v h
  | auxFlameChange b => exact execAuxFlameChange_touches s t b h
  | valveHoldTimerExpiry => exact execValveHoldTimerExpiry_touches s t h
  | coolantReleaseExpiry => exact execCoolantReleaseExpiry_touches s t h
  | demandReleaseExpiry => exact execDemandReleaseExpiry_touches s t h
  | ignitionTimerExpiry => exact execIgnitionTimerExpiry_touches s t h
  | cooldownTimerExpiry => exact execCooldownTimerExpiry_touches s t h
  | setHeat h0 h1 b2 b3 h4 h5 h6 h7 => exact execSetHeat_touches s t h0 h1 b2 b3 h4 h5 h6 h7 h
  | auxInhibit b => exact execAuxInhibit_touches s t b h
  | auxClearLock => exact execAuxClearLock_touches s t h
  | collect => exact execCollect_touches s t h
  | clearSources m => exact execClearSources_touches s t m h
  | assertSources m => exact execAssertSources_touches s t m h
  | setLevels v => exact execSetLevels_touches s t v h

end Sys2Proof.Machine

/-! From a command to a step: what a step can be, and the laws whose records few commands touch: the block order, the receive
record, the assessors, the attention records. -/

namespace Sys2Proof.Machine

/-! ### A step -/

/-- A command leaves an item that its table does not name. -/
def Command.leaves (c : Instr) (i : Item) : Bool := decide (i ∉ Command.items c)

theorem exec_same {c : Instr} {s t : State} (h : exec c s = .next t) (i : Item) (left : Command.leaves c i = true) :
    s.Same t i := exec_touches c s t h i (of_decide_eq_true left)

/-- A step is a command, the queue's, a handed event or an expiry, or a microsecond of the clock. -/
theorem step_cases {s t : State} (h : step s = .next t) :
    (∃ c rest, s.pending = c :: rest ∧ exec c { s with pending := rest } = .next t) ∨
    (∃ c rest, s.handed = c :: rest ∧ exec c s = .next t) ∨ (∃ c, s.dueEvent = some c ∧ exec c s = .next t) ∨
    t = { s with now := s.now + 1 } := by
  unfold step at h
  split at h
  · exact .inl ⟨_, _, ‹_›, h⟩
  · unfold State.tick at h
    split at h
    · exact .inr (.inl ⟨_, _, ‹_›, h⟩)
    · split at h
      · exact .inr (.inr (.inl ⟨_, ‹_›, h⟩))
      · exact .inr (.inr (.inr (Host.Outcome.next.inj h).symm))

/-- What every command keeps, and neither the queue nor the clock enters, every step keeps. -/
theorem step_keeps {P : State → Prop} (queue : ∀ s q, P s → P { s with pending := q })
    (clock : ∀ s n, P s → P { s with now := n }) (command : ∀ c s t, P s → exec c s = .next t → P t)
    {s t : State} (hs : P s) (h : step s = .next t) : P t := by
  obtain ⟨c, rest, -, h⟩ | ⟨c, rest, -, h⟩ | ⟨c, -, h⟩ | rfl := step_cases h
  · exact command c _ t (queue s rest hs) h
  · exact command c s t hs h
  · exact command c s t hs h
  · exact clock s _ hs

/-- What striking a handed event and the effect keep, a command that is taken keeps. -/
theorem State.take_keeps {P : State → Prop} {s t : State} {c : Instr} {effect : State → State}
    (h : s.take c effect = .next t) (struck : P (s.strike c)) (each : ∀ s, P s → P (effect s)) : P t := by
  obtain ⟨-, rfl⟩ | ⟨-, rfl⟩ := State.take_cases s t c effect h
  · exact struck
  · exact each _ struck

theorem State.own_keeps {P : State → Prop} {s t : State} {effect : State → State}
    (h : s.own effect = .next t) (hs : P s) (each : ∀ s, P s → P (effect s)) : P t := by
  obtain ⟨-, rfl⟩ | ⟨-, rfl⟩ := State.own_cases s t effect h
  · exact hs
  · exact each _ hs

/-- What each operation of a fold keeps, the fold keeps. -/
theorem foldl_keeps {α : Type} (P : State → Prop) {f : State → α → State} (each : ∀ s a, P s → P (f s a)) (l : List α)
    {s : State} (hs : P s) : P (l.foldl f s) := by
  induction l generalizing s with
  | nil => exact hs
  | cons a l ih => exact ih (each s a hs)

theorem exec_blockOrder {c : Instr} {s t : State} (h : exec c s = .next t) : t.blockOrder = s.blockOrder :=
  exec_same h .blockOrder (by cases c <;> rfl)

theorem exec_pending {c : Instr} {s t : State} (h : exec c s = .next t) : t.pending = s.pending :=
  exec_same h .pending (by cases c <;> rfl)

theorem exec_now {c : Instr} {s t : State} (h : exec c s = .next t) : t.now = s.now :=
  exec_same h .now (by cases c <;> rfl)

/-- Every command keeps the attention records sound. -/
theorem exec_sound {c : Instr} {s t : State} (h : exec c s = .next t) : s.atn.Sound → t.atn.Sound :=
  exec_same h .attention (by cases c <;> rfl)

/-- As `step_keeps`, for a law that rests on the order of the blocks being complete. -/
theorem step_keeps_complete {P : State → Prop} (queue : ∀ s q, P s → P { s with pending := q })
    (clock : ∀ s n, P s → P { s with now := n })
    (command : ∀ c s t, s.BlocksComplete → P s → exec c s = .next t → P t)
    {s t : State} (complete : s.BlocksComplete) (hs : P s) (h : step s = .next t) : P t := by
  have both : t.BlocksComplete ∧ P t := by
    refine step_keeps (P := fun s => s.BlocksComplete ∧ P s) (fun s q hs => ⟨hs.1, queue s q hs.2⟩)
      (fun s n hs => ⟨hs.1, clock s n hs.2⟩) (fun c s t hs h => ⟨?_, command c s t hs.1 hs.2 h⟩) ⟨complete, hs⟩ h
    exact (congrArg (·.Perm blockOrderReset) (exec_blockOrder h)).mpr hs.1
  exact both.2

/-! ### The receive record -/

theorem State.receiveLaw_of_same {s t : State} (law : s.ReceiveLaw) (same : s.Same t .receive) : t.ReceiveLaw := by
  obtain ⟨phase, len, data, check, gap⟩ := same
  simpa only [State.ReceiveLaw, phase, len, data, check, gap] using law

/-- A record in HUNT with nothing gathered meets its law. -/
theorem State.receiveLaw_hunt (s : State) : ({ s with link := s.link.hunt } : State).ReceiveLaw := by
  simp [State.ReceiveLaw, Link.hunt]

theorem State.receiveLaw_discard (s : State) (n : Nat) : (s.discard n).ReceiveLaw := s.receiveLaw_hunt

theorem State.receiveLaw_rxHunt {s : State} (law : s.ReceiveLaw) (b : Byte) (framing : Bool) :
    (s.rxHunt b framing).ReceiveLaw := by
  unfold State.rxHunt
  split
  · simp [State.ReceiveLaw, Link.hunt, gapDue]
  · exact law

theorem State.receiveLaw_rxLength {s : State} (law : s.ReceiveLaw) (b : Byte) (phase : s.link.phase = .length) :
    (s.rxLength b).ReceiveLaw := by
  obtain ⟨gathered, -⟩ := law
  obtain ⟨data, check⟩ := gathered (.inr phase)
  unfold State.rxLength
  split
  · next fits => simp [State.ReceiveLaw, gapDue, data, check]; omega
  · exact s.receiveLaw_discard 2

theorem State.receiveLaw_rxData {s : State} (law : s.ReceiveLaw) (b : Byte) (phase : s.link.phase = .data) :
    (s.rxData b).ReceiveLaw := by
  obtain ⟨-, fits, gathering, -⟩ := law
  obtain ⟨short, check⟩ := gathering phase
  have len := fits (.inl phase)
  by_cases full : s.link.len.toNat ≤ s.link.data.length + 1
  · simp [State.ReceiveLaw, State.rxData, gapDue, check, full]; omega
  · simp [State.ReceiveLaw, State.rxData, gapDue, check, full]; omega

theorem State.receiveLaw_rxCheck {s : State} (law : s.ReceiveLaw) (b : Byte) (phase : s.link.phase = .check) :
    (s.rxCheck b).ReceiveLaw := by
  obtain ⟨-, fits, -, gathered, -⟩ := law
  unfold State.rxCheck
  split
  · simp [State.ReceiveLaw, gapDue, phase, fits (.inr phase), (gathered phase).1]
  · exact State.receiveLaw_of_same s.receiveLaw_hunt (State.touches_frameComplete _ _ .receive (by decide))

theorem State.receiveLaw_rxByte {s : State} (law : s.ReceiveLaw) (b : Byte) (framing : Bool) :
    (s.rxByte b framing).ReceiveLaw := by
  unfold State.rxByte
  split
  · exact State.receiveLaw_rxHunt law b framing
  · split
    · exact s.receiveLaw_discard 5
    · exact State.receiveLaw_rxLength law b ‹_›
  · split
    · exact s.receiveLaw_discard 5
    · exact State.receiveLaw_rxData law b ‹_›
  · split
    · exact s.receiveLaw_discard 5
    · exact State.receiveLaw_rxCheck law b ‹_›

theorem execLinkByteReceived_receiveLaw {b : Byte} {framing : Bool} {s t : State} (law : s.ReceiveLaw)
    (h : execLinkByteReceived b framing s = .next t) : t.ReceiveLaw :=
  State.own_keeps h law fun _ law => State.receiveLaw_rxByte law b framing

theorem execGapTimerExpiry_receiveLaw {s t : State} (law : s.ReceiveLaw) (h : execGapTimerExpiry s = .next t) :
    t.ReceiveLaw := by
  refine State.own_keeps h law fun s law => ?_
  split
  · exact law
  · exact s.receiveLaw_discard 1

theorem exec_receiveLaw (c : Instr) (s t : State) (law : s.ReceiveLaw) (h : exec c s = .next t) : t.ReceiveLaw := by
  cases c with
  | hardwareReset kind => cases h; simp [State.ReceiveLaw, State.hardwareReset, State.reset, linkAfterReset]
  | linkByteReceived b framing => exact execLinkByteReceived_receiveLaw law h
  | gapTimerExpiry => exact execGapTimerExpiry_receiveLaw law h
  | _ => exact State.receiveLaw_of_same law (exec_same h .receive rfl)

/-! ### The assessors -/

/-- The law of one assessor record. -/
def Assessor.Law (a : Assessor) : Prop :=
  a.s = a.f - a.b ∧ a.b ≤ a.settings.ceiling ∧ (a.initialised = true → a.active = true ∧ a.level ≠ .unknown) ∧
  (a.active = false → a.level = .clear ∧ a.f = 0 ∧ a.b = 0) ∧ (a.level = .unknown → a.up = 0 ∧ a.down = 0)

theorem State.assessorLaw_iff (s : State) : s.AssessorLaw ↔ ∀ a : AssessorIx, s.asr[a].Law := Iff.rfl

theorem Assessor.candidate_ne_unknown (a : Assessor) (h : Int) : a.candidate h ≠ .unknown := by
  unfold Assessor.candidate
  split
  · simp
  · split <;> simp

/-- The persistence stage leaves all but level and counts, and gives no UNKNOWN (R32, R33). -/
theorem Assessor.persist_law {a : Assessor} (strength : a.s = a.f - a.b) (ceiling : a.b ≤ a.settings.ceiling)
    (active : a.active = true) (known : a.level ≠ .unknown) : a.persist.Law := by
  have up : a.upCandidate ≠ .unknown := a.upCandidate_eq ▸ a.candidate_ne_unknown _
  have down : a.downCandidate ≠ .unknown := a.downCandidate_eq ▸ a.candidate_ne_unknown _
  unfold Assessor.persist
  dsimp only
  split
  · split <;> simp [Assessor.Law, *]
  · split
    · split <;> simp [Assessor.Law, *]
    · simp [Assessor.Law, *]

theorem baselineUpdate_le (beta ceiling b f : Nat) : baselineUpdate beta ceiling b f ≤ ceiling := Nat.min_le_right ..

theorem Assessor.process_law {a : Assessor} (law : a.Law) (initialised : a.initialised = true) (v : Nat) :
    (a.process v).Law := by
  obtain ⟨-, ceiling, learnt, -⟩ := law
  obtain ⟨active, known⟩ := learnt initialised
  refine Assessor.persist_law rfl ?_ ?_ ?_
  · rw [Assessor.intervalStage_eq]
    show (if _ then _ else a.b) ≤ a.settings.ceiling
    split
    · exact baselineUpdate_le ..
    · exact ceiling
  · rw [Assessor.intervalStage_eq]; exact active
  · rw [Assessor.intervalStage_eq]; exact known

theorem Assessor.initialise_law (a : Assessor) (v : Nat) : (a.initialise v).Law :=
  Assessor.persist_law rfl (Nat.min_le_right ..) rfl (by simp [Assessor.strength])

theorem Assessor.takeReport_law {a : Assessor} (law : a.Law) (st : Status) (v : Int) : (a.takeReport st v).Law := by
  cases st with
  | usable =>
    show (a.sample v).Law
    unfold Assessor.sample
    split
    · exact Assessor.process_law law (by simp_all) _
    · exact a.initialise_law _
  | held =>
    show a.pause.Law
    unfold Assessor.pause
    split
    · exact law
    · obtain ⟨strength, ceiling, -, rest, -⟩ := law
      simp_all [Assessor.Law]
  | failed =>
    obtain ⟨strength, ceiling, -⟩ := law
    simp [Assessor.takeReport, Assessor.fail, Assessor.Law, strength, ceiling]
  | absent => simp [Assessor.takeReport, Assessor.goInactive, Assessor.Law]

/-- R38: a baseline above a new ceiling comes down to it. -/
theorem Assessor.settle_law {a : Assessor} (law : a.Law) (set : AssessorSettings) : (a.settle set).Law := by
  obtain ⟨strength, -, learnt, inactive, unknown⟩ := law
  unfold Assessor.settle
  split
  · next above =>
    refine ⟨rfl, Nat.le_refl _, learnt, fun off => ?_, unknown⟩
    have zero := (inactive off).2.2
    omega
  · next below => exact ⟨strength, Nat.not_lt.mp below, learnt, inactive, unknown⟩

theorem State.assessorLaw_put {s : State} (law : s.AssessorLaw) (a : AssessorIx) {r : Assessor} (new : r.Law) :
    (s.putAssessor a r).AssessorLaw := by
  rw [State.assessorLaw_iff] at law ⊢
  intro b
  by_cases same : b = a
  · subst same; simpa using new
  · simpa [Vector.getElem_set_ne, Fin.val_ne_of_ne (Ne.symm same)] using law b

theorem State.assessorLaw_of_same {s t : State} (law : s.AssessorLaw) (same : s.Same t .asr) : t.AssessorLaw := by
  simp only [State.Same] at same
  simpa only [State.AssessorLaw, same] using law

theorem State.assessorLaw_asrLinkReset {s : State} (law : s.AssessorLaw) : s.asrLinkReset.AssessorLaw := by
  unfold State.asrLinkReset
  split
  · exact law
  · exact foldl_keeps State.AssessorLaw (fun s a law => State.assessorLaw_put law a (Assessor.settle_law (law a) _)) _ law

theorem State.assessorLaw_resetBlock {s : State} (law : s.AssessorLaw) (b : Block) : (s.resetBlock b).AssessorLaw := by
  cases b with
  | asr => exact State.assessorLaw_asrLinkReset law
  | sns => exact State.assessorLaw_of_same law (s.touches_snsLinkReset .asr (by decide))
  | adm => exact State.assessorLaw_of_same law (s.touches_admLinkReset .asr (by decide))
  | zon => exact State.assessorLaw_of_same law (s.touches_zonLinkReset .asr (by decide))
  | ddr => exact State.assessorLaw_of_same law (s.touches_drive (fun w => w.linkReset s.part.retain) .asr (by decide))
  | mov => exact State.assessorLaw_of_same law (s.touches_movLinkReset .asr (by decide))
  | heu => exact State.assessorLaw_of_same law (s.touches_heuLinkReset .asr (by decide))
  | atn => exact State.assessorLaw_of_same law (s.touches_atnLinkReset .asr (by decide))

theorem State.assessorLaw_linkReset {s : State} (law : s.AssessorLaw) : s.linkReset.AssessorLaw := by
  have blocks := foldl_keeps State.AssessorLaw (fun _ b law => State.assessorLaw_resetBlock law b) s.blockOrder
    (s := { s with part := { s.part with state := .config, cause := .linkReset } }) law
  exact State.assessorLaw_of_same blocks (State.touches_linkAfterLinkReset _ .asr (by decide))

theorem execLinkResetEffect_assessorLaw {s t : State} (law : s.AssessorLaw) (h : execLinkResetEffect s = .next t) :
    t.AssessorLaw := by
  refine State.take_keeps h law fun s law => ?_
  split
  · exact State.assessorLaw_linkReset law
  · exact law

theorem execAssessorChannelReport_assessorLaw {a : AssessorIx} {st : Status} {v : Int} {s t : State} (law : s.AssessorLaw)
    (h : execAssessorChannelReport a st v s = .next t) : t.AssessorLaw := by
  refine State.take_keeps h law fun s law => ?_
  have put := State.assessorLaw_put law a (Assessor.takeReport_law (law a) st v)
  dsimp only
  split <;> exact put

theorem execSetAssess_assessorLaw {b0 b1 b2 b3 b9 b10 : Byte} {h4 h5 h6 h7 h8 : Half} {s t : State} (law : s.AssessorLaw)
    (h : execSetAssess b0 b1 b2 b3 h4 h5 h6 h7 h8 b9 b10 s = .next t) : t.AssessorLaw := by
  refine State.take_keeps h law fun s law => ?_
  split
  · exact law
  · dsimp only
    split
    · exact State.assessorLaw_put law _ (Assessor.settle_law (law _) _)
    · exact law

theorem exec_assessorLaw (c : Instr) (s t : State) (law : s.AssessorLaw) (h : exec c s = .next t) : t.AssessorLaw := by
  cases c with
  | hardwareReset kind =>
    cases h
    rw [State.assessorLaw_iff]
    intro a
    simp [State.hardwareReset, State.reset, asrReset, assessorReset, Assessor.Law]
  | linkResetEffect => exact execLinkResetEffect_assessorLaw law h
  | assessorChannelReport a st v => exact execAssessorChannelReport_assessorLaw law h
  | setAssess b0 b1 b2 b3 h4 h5 h6 h7 h8 b9 b10 => exact execSetAssess_assessorLaw law h
  | _ => exact State.assessorLaw_of_same law (exec_same h .asr rfl)

end Sys2Proof.Machine

namespace Sys2Proof

open Sys2Proof.Machine

/-- Settles O4: no command's table names the block order. -/
theorem stepKeepsTheBlockOrder : Obligations.StepKeepsTheBlockOrder := by
  intro s t h
  exact step_keeps (P := fun u => u.blockOrder = s.blockOrder) (fun _ _ same => same) (fun _ _ same => same)
    (fun _ _ _ same done => (exec_blockOrder done).trans same) rfl h

/-- Settles O14, by the phase of the receive record; three commands reach it. -/
theorem stepKeepsTheReceiveLaw : Obligations.StepKeepsTheReceiveLaw :=
  fun _ _ law h => step_keeps (fun _ _ law => law) (fun _ _ law => law) exec_receiveLaw law h

/-- Settles O11: a report, new settings and a link reset each keep the law of one record. -/
theorem stepKeepsTheAssessorLaw : Obligations.StepKeepsTheAssessorLaw :=
  fun _ _ law h => step_keeps (fun _ _ law => law) (fun _ _ law => law) exec_assessorLaw law h

end Sys2Proof

/-! Admission and attention. `State.admJudged` is the record that the stages of R44 leave before their orders; from it follow the
admission law in RUN and the FAULT line. What the bindings and the part-wide events keep is said once for any law. -/

namespace Sys2Proof.Machine

open State (Touches)

/-! ### What the bindings keep, for any law -/

/-- A law that no binding breaks: it does not read terminals, handed events or the reply, and each effect of a binding at an
owner keeps it. -/
structure State.BindingKeeps (P : State → Prop) : Prop where
  frame : ∀ {s t : State}, Touches [.trm, .handed, .reply] s t → P s → P t
  level : ∀ (s : State) (f : Func) (on : Bool), P s → P (s.levelEffect f on)
  bind : ∀ (s : State) (f : Func), P s → P (s.ownerBind f)
  unbind : ∀ (s : State) (f : Func), P s → P (s.ownerUnbind f)
  tach : ∀ (s : State) (m : MoverIx), P s → P (s.tachStart m)

namespace State.BindingKeeps

variable {P : State → Prop} (keeps : State.BindingKeeps P) {s t : State}

include keeps

theorem flush (f : Func) (hs : P s) : P (s.flush f) :=
  foldl_keeps P (fun t b => keeps.level t f b) _ (keeps.frame ((s.touches_dropHanded _).mono rfl) hs)

theorem bindNew (p : TerminalIx) (f : Func) (c : BindSettings) (hs : P s) : P (s.bindNew p f c) := by
  have bound (e : Terminal) : P ((((s.flush f).putTerminal p e).mapFunc f (some p)).ownerBind f) :=
    keeps.bind _ f (keeps.frame ((State.touches_mapFunc _ f _).mono rfl)
      (keeps.frame ((State.touches_putTerminal _ p e).mono rfl) (keeps.flush f hs)))
  unfold State.bindNew
  dsimp only
  split
  · exact keeps.level _ f true (bound _)
  · exact bound _

theorem rebind (p : TerminalIx) (f : Func) (c : BindSettings) (hs : P s) : P (s.rebind p f c) := by
  have put (e : Terminal) : P ((s.flush f).putTerminal p e) :=
    keeps.frame ((State.touches_putTerminal _ p e).mono rfl) (keeps.flush f hs)
  have moved (e : Terminal) (q : Prop) [Decidable q] (on : Bool) :
      P (if q then (s.flush f).putTerminal p e else ((s.flush f).putTerminal p e).levelEffect f on) := by
    split
    · exact put e
    · exact keeps.level _ f on (put e)
  cases f with
  | tach m =>
    unfold State.rebind
    dsimp only
    split
    · exact put _
    · exact keeps.tach _ m (put _)
  | home _ | door _ | laneFlt _ | sealReq | auxFlame => exact moved _ _ _
  | _ => exact put _

theorem unbindTerminal (p : TerminalIx) (f : Func) (hs : P s) : P (s.unbindTerminal p f) := by
  have negated : P (if (s.terminal p).debounced then (s.flush f).levelEffect f false else s.flush f) := by
    split
    · exact keeps.level _ f false (keeps.flush f hs)
    · exact keeps.flush f hs
  exact keeps.frame ((State.touches_putTerminal _ p _).mono rfl)
    (keeps.frame ((State.touches_mapFunc _ f none).mono rfl) (keeps.unbind _ f negated))

theorem status (r : Req) (code : StatusCode) (hs : P s) : P (s.status r code) :=
  keeps.frame ((s.touches_status r code).mono rfl) hs

theorem execBind {b0 b1 b2 b3 b4 : Byte} (hs : P s) (h : execBind b0 b1 b2 b3 b4 s = .next t) : P t := by
  refine State.take_keeps h (keeps.frame ((s.touches_strike _).mono rfl) hs) fun s hs => ?_
  split
  · split
    · exact keeps.status _ _ hs
    · split
      · exact keeps.status _ _ hs
      · split
        · split
          · exact keeps.status _ _ (keeps.rebind _ _ _ hs)
          · exact keeps.status _ _ hs
        · split
          · exact keeps.status _ _ hs
          · exact keeps.status _ _ (keeps.bindNew _ _ _ hs)
  · exact keeps.status _ _ hs

theorem execUnbind {b : Byte} (hs : P s) (h : execUnbind b s = .next t) : P t := by
  refine State.take_keeps h (keeps.frame ((s.touches_strike _).mono rfl) hs) fun s hs => ?_
  split
  · exact keeps.status _ _ hs
  · split
    · exact keeps.status _ _ hs
    · split
      · exact keeps.status _ _ hs
      · exact keeps.status _ _ (keeps.unbindTerminal _ _ hs)

end State.BindingKeeps

/-! ### The part-wide events, for any law -/

/-- What the operation of each member of a list keeps, the fold over the list keeps. -/
theorem foldl_keeps_mem {α : Type} (P : State → Prop) {f : State → α → State} (l : List α)
    (each : ∀ s, ∀ a ∈ l, P s → P (f s a)) {s : State} (hs : P s) : P (l.foldl f s) := by
  induction l generalizing s with
  | nil => exact hs
  | cons a l ih =>
    exact ih (fun s b mem => each s b (List.mem_cons_of_mem a mem)) (each s a List.mem_cons_self hs)

/-- One member's part of a fold reaches what the whole fold is to reach, and the other parts keep it. -/
theorem foldl_reaches {α : Type} {P Q : State → Prop} {f : State → α → State} (own : α)
    (reach : ∀ s, P s → Q (f s own)) (before : ∀ s b, b ≠ own → P s → P (f s b))
    (after : ∀ s b, b ≠ own → Q s → Q (f s b)) (l : List α) (mem : own ∈ l) (once : l.Nodup) {s : State} (hs : P s) :
    Q (l.foldl f s) := by
  induction l generalizing s with
  | nil => exact absurd mem List.not_mem_nil
  | cons b l ih =>
    obtain ⟨notin, once⟩ := List.nodup_cons.mp once
    obtain rfl | later := List.mem_cons.mp mem
    · refine foldl_keeps_mem Q l (fun s c mem => after s c fun same => notin (same ▸ mem)) (reach s hs)
    · exact ih later once (before s b (fun same => notin (same ▸ later)) hs)

theorem State.BlocksComplete.mem {s : State} (complete : s.BlocksComplete) (b : Block) : b ∈ s.blockOrder :=
  complete.mem_iff.mpr (by cases b <;> decide)

theorem State.BlocksComplete.nodup {s : State} (complete : s.BlocksComplete) : s.blockOrder.Nodup :=
  complete.nodup_iff.mpr (by decide)

/-- What a block's entry to RUN touches, and each of the others leaves. -/
def Block.runItems : Block → List Item
  | .adm => admItems
  | .zon => zonItems
  | .ddr => driveItems
  | .mov => [.mov]
  | .heu => [.heu]
  | .sns | .asr | .atn => []

theorem State.touches_enterBlock_own (s : State) (b : Block) : Touches b.runItems s (s.enterBlock b) := by
  cases b with
  | adm => exact s.touches_admEnterRun
  | zon => exact s.touches_zonEnterRun
  | ddr => exact s.touches_drive _
  | mov => exact s.touches_movEnterRun
  | heu => exact s.touches_heuEnterRun
  | sns | asr | atn => exact .refl _ _

theorem State.touches_leaveBlock_own (s : State) (b : Block) : Touches b.runItems s (s.leaveBlock b) := by
  cases b with
  | adm => exact s.touches_admLeaveRun.mono rfl
  | zon => exact s.touches_zonLeaveRun.mono rfl
  | ddr => exact s.touches_drive _
  | mov => exact s.touches_movLeaveRun
  | heu => exact s.touches_heuLeaveRun
  | sns | asr | atn => exact .refl _ _

/-- What a block's link reset touches. -/
def Block.resetItems : Block → List Item
  | .sns => [.sns, .handed]
  | .asr => [.asr]
  | .atn => [.sources]
  | .adm => admItems
  | .zon => zonItems
  | .ddr => driveItems
  | .mov => [.mov]
  | .heu => [.heu]

theorem State.touches_resetBlock_own (s : State) (b : Block) : Touches b.resetItems s (s.resetBlock b) := by
  cases b with
  | sns => exact s.touches_snsLinkReset
  | asr => exact s.touches_asrLinkReset
  | adm => exact s.touches_admLinkReset.mono rfl
  | zon => exact s.touches_zonLinkReset.mono rfl
  | ddr => exact s.touches_drive fun w => w.linkReset s.part.retain
  | mov => exact s.touches_movLinkReset
  | heu => exact s.touches_heuLinkReset
  | atn => exact s.touches_atnLinkReset

/-! ### One ADM event -/

/-- The record that the stages of R44 leave, but for the ordered targets and a pending check. -/
def State.admJudged (s : State) (c : AdmCause) (before : Adm) : Adm :=
  (s.admDecide c before).1.judgeConditions c (s.driveView c.drive)

/-- A condition of ADM is active (R175). -/
def Adm.faulty (a : Adm) : Bool := a.cabCo || a.breathing || a.sealImpaired

/-- R175: FAULT is asserted exactly while a condition is active. -/
def State.FaultLaw (s : State) : Prop := s.atn.fault = s.adm.faulty

theorem State.issueOrders_adm (s : State) (k : OrderClass) :
    (s.issueOrders k).adm = { s.adm with ordered := tableMap some s.adm.targets } :=
  State.touches_drive _ _ .adm (by decide)

theorem State.issueOrders_fault (s : State) (k : OrderClass) : (s.issueOrders k).atn.fault = s.atn.fault :=
  s.touches_issueOrders k .fault (by decide)

theorem State.judgeSettled_adm (s : State) : ∃ chk, s.judgeSettled.adm = { s.adm with check := chk } := by
  unfold State.judgeSettled
  split
  · exact ⟨s.adm.check, rfl⟩
  · split
    · exact ⟨none, rfl⟩
    · exact ⟨s.adm.check, rfl⟩

theorem State.judgeSettled_fault (s : State) : s.judgeSettled.atn.fault = s.atn.fault :=
  s.touches_judgeSettled .fault (by decide)

/-- A record that has been judged, through the raises, the orders, the settled check and the report to MOV. -/
theorem State.afterJudgement_adm (s : State) (a : Adm) (l : List (SourceIx × Nat)) (k : OrderClass) (settles : Bool)
    (p : Picture) (b : Bool) :
    let s2 := (({ s with adm := a }.raiseAll l).judgeFault).issueOrders k
    let t := (if settles then s2.judgeSettled else s2).handPicture p b
    (∃ chk, t.adm = { a with ordered := tableMap some a.targets, check := chk }) ∧ t.atn.fault = a.faulty := by
  intro s2 t
  have recorded : (({ s with adm := a }.raiseAll l).judgeFault).adm = a :=
    State.touches_raiseAll _ l .adm (by decide)
  have fault : (({ s with adm := a }.raiseAll l).judgeFault).atn.fault = a.faulty :=
    congrArg Adm.faulty recorded
  have ordered : s2.adm = { a with ordered := tableMap some a.targets } := by
    rw [State.issueOrders_adm, recorded]
  have handed := (State.touches_handPicture (if settles then s2.judgeSettled else s2) p b)
  have adm : t.adm = (if settles then s2.judgeSettled else s2).adm := handed .adm (by decide)
  have line : t.atn.fault = (if settles then s2.judgeSettled else s2).atn.fault := handed .fault (by decide)
  rw [adm, line]
  cases settles with
  | true =>
    obtain ⟨chk, settled⟩ := s2.judgeSettled_adm
    exact ⟨⟨chk, settled.trans (by rw [ordered])⟩, s2.judgeSettled_fault.trans ((State.issueOrders_fault _ k).trans fault)⟩
  | false => exact ⟨⟨a.check, ordered⟩, (State.issueOrders_fault _ k).trans fault⟩

/-- R44: what the stages leave of the record and of the FAULT line. -/
theorem State.admStages_adm (s : State) (c : AdmCause) (before : Adm) :
    (∃ chk, (s.admStages c before).adm =
      { s.admJudged c before with ordered := tableMap some (s.admJudged c before).targets, check := chk }) ∧
    (s.admStages c before).atn.fault = (s.admJudged c before).faulty := by
  have after (a : Adm) := s.afterJudgement_adm a
  unfold State.admStages
  dsimp only
  rw [← State.admJudged]
  split
  · exact after { s.admJudged c before with check := some _ } _ _ _ _ _
  · exact after (s.admJudged c before) _ _ _ _ _

theorem State.faultLaw_admStages (s : State) (c : AdmCause) (before : Adm) : (s.admStages c before).FaultLaw := by
  obtain ⟨⟨chk, adm⟩, fault⟩ := s.admStages_adm c before
  exact fault.trans (congrArg Adm.faulty adm).symm

/-! ### The attention law -/

theorem State.attentionLaw_iff (s : State) : s.AttentionLaw ↔ s.atn.Sound ∧ s.FaultLaw := by
  have line : s.FaultLaw ↔
      (s.atn.fault = true ↔ s.adm.cabCo = true ∨ s.adm.breathing = true ∨ s.adm.sealImpaired = true) := by
    rw [State.FaultLaw, Bool.eq_iff_iff]
    simp [Adm.faulty, or_assoc]
  rw [line]
  exact and_assoc.symm

theorem State.faultLaw_of_touches {l : List Item} {s t : State} (law : s.FaultLaw) (touched : Touches l s t)
    (adm : Item.adm ∉ l) (fault : Item.fault ∉ l) : t.FaultLaw := by
  have same_adm : t.adm = s.adm := touched .adm adm
  have same_fault : t.atn.fault = s.atn.fault := touched .fault fault
  rw [State.FaultLaw, same_adm, same_fault]
  exact law

theorem State.faultLaw_admEvent {s : State} {f : State → State} (law : s.FaultLaw) (h : (f s).FaultLaw) :
    (s.admEvent f).FaultLaw := by
  unfold State.admEvent
  split
  · exact h
  · exact law

theorem State.faultLaw_doorEffect {s : State} (law : s.FaultLaw) (d : DoorIx) (on : Bool) : (s.doorEffect d on).FaultLaw :=
  State.faultLaw_admEvent law (State.faultLaw_admStages _ _ _)

theorem State.faultLaw_sealEffect {s : State} (law : s.FaultLaw) (on : Bool) : (s.sealEffect on).FaultLaw := by
  unfold State.sealEffect
  split
  · exact State.faultLaw_admStages _ _ _
  · split
    · unfold State.sealConfigOrder
      split
      · exact State.faultLaw_of_touches law (s.touches_order _ _ _ _) (by decide) (by decide)
      · exact law
    · exact law

theorem State.faultLaw_levelEffect {s : State} (f : Func) (on : Bool) (law : s.FaultLaw) : (s.levelEffect f on).FaultLaw := by
  cases f with
  | home d => exact State.faultLaw_of_touches law (s.touches_homeEffect d on) (by decide) (by decide)
  | door d => exact State.faultLaw_doorEffect law d on
  | laneFlt l => exact State.faultLaw_of_touches law (s.touches_laneFltEffect l on) (by decide) (by decide)
  | sealReq => exact State.faultLaw_sealEffect law on
  | auxFlame => exact State.faultLaw_of_touches law (s.touches_flameEffect on) (by decide) (by decide)
  | tach m => exact State.faultLaw_of_touches law (s.touches_tachEffect m) (by decide) (by decide)
  | _ => exact law

/-- What the binding or unbinding of a function touches at its owner. -/
def ownerItems : List Item := .sns :: .mov :: driveItems

theorem State.touches_ownerBind_own (s : State) (f : Func) : Touches ownerItems s (s.ownerBind f) := by
  cases f with
  | sc ch => exact (s.touches_bindChannel ch).mono rfl
  | home d | sel d => exact .ite (fun _ => (s.touches_drive _).mono rfl) fun _ => .refl _ _
  | step l | dir l => exact .ite (fun _ => (s.touches_drive _).mono rfl) fun _ => .refl _ _
  | tach m => exact (s.touches_tachStart m).mono rfl
  | _ => exact .refl _ _

theorem State.touches_ownerUnbind_own (s : State) (f : Func) : Touches ownerItems s (s.ownerUnbind f) := by
  cases f with
  | sc ch => exact (s.touches_unbindChannel ch).mono rfl
  | home d | sel d => exact .ite (fun _ => (s.touches_drive _).mono rfl) fun _ => .refl _ _
  | step l | dir l => exact .ite (fun _ => (s.touches_drive _).mono rfl) fun _ => .refl _ _
  | tach m => exact (s.touches_tachStart m).mono rfl
  | _ => exact .refl _ _

theorem State.faultLaw_bindingKeeps : State.BindingKeeps State.FaultLaw where
  frame touched law := State.faultLaw_of_touches law touched (by decide) (by decide)
  level _ f on law := State.faultLaw_levelEffect f on law
  bind s f law := State.faultLaw_of_touches law (s.touches_ownerBind_own f) (by decide) (by decide)
  unbind s f law := State.faultLaw_of_touches law (s.touches_ownerUnbind_own f) (by decide) (by decide)
  tach s m law := State.faultLaw_of_touches law (s.touches_tachStart m) (by decide) (by decide)

theorem State.faultLaw_admLeaveRun (s : State) : s.admLeaveRun.FaultLaw := by
  have judged : ({ s with adm := s.adm.leave } : State).judgeFault.FaultLaw := rfl
  exact State.faultLaw_of_touches judged (State.touches_handPicture _ _ _) (by decide) (by decide)

theorem State.faultLaw_admLinkReset (s : State) : s.admLinkReset.FaultLaw := by
  unfold State.admLinkReset
  dsimp only
  split
  · exact s.faultLaw_admLeaveRun
  · exact s.faultLaw_admLeaveRun

theorem State.faultLaw_enterBlock {s : State} (b : Block) (law : s.FaultLaw) : (s.enterBlock b).FaultLaw := by
  have touched := s.touches_enterBlock_own b
  cases b with
  | adm => exact State.faultLaw_admStages _ _ _
  | _ => exact State.faultLaw_of_touches law touched (by decide) (by decide)

theorem State.faultLaw_leaveBlock {s : State} (b : Block) (law : s.FaultLaw) : (s.leaveBlock b).FaultLaw := by
  have touched := s.touches_leaveBlock_own b
  cases b with
  | adm => exact s.faultLaw_admLeaveRun
  | _ => exact State.faultLaw_of_touches law touched (by decide) (by decide)

theorem State.faultLaw_resetBlock {s : State} (b : Block) (law : s.FaultLaw) : (s.resetBlock b).FaultLaw := by
  have touched := s.touches_resetBlock_own b
  cases b with
  | adm => exact s.faultLaw_admLinkReset
  | _ => exact State.faultLaw_of_touches law touched (by decide) (by decide)

theorem State.faultLaw_status {s : State} (law : s.FaultLaw) (r : Req) (code : StatusCode) : (s.status r code).FaultLaw := law

section FaultLaw

variable {s t : State} (law : s.FaultLaw)

include law

theorem execSetState_faultLaw {b : Byte} (h : execSetState b s = .next t) : t.FaultLaw := by
  refine State.take_keeps h law fun s law => ?_
  have entered : s.enterRun.FaultLaw := foldl_keeps State.FaultLaw (fun _ b law => State.faultLaw_enterBlock b law) _ law
  have left : s.leaveRun.FaultLaw := foldl_keeps State.FaultLaw (fun _ b law => State.faultLaw_leaveBlock b law) _ law
  split
  · exact law
  · split
    · exact law
    · split
      · split
        · exact law
        · exact entered
      · exact left

theorem execLinkResetEffect_faultLaw (h : execLinkResetEffect s = .next t) : t.FaultLaw := by
  refine State.take_keeps h law fun s law => ?_
  split
  · have blocks := foldl_keeps State.FaultLaw (fun _ b law => State.faultLaw_resetBlock b law) s.blockOrder
      (s := { s with part := { s.part with state := .config, cause := .linkReset } }) law
    exact State.faultLaw_of_touches blocks (State.touches_linkAfterLinkReset _) (by decide) (by decide)
  · exact law

theorem execAdmLevelReport_faultLaw {a : AssessorIx} {l : Level} (h : execAdmLevelReport a l s = .next t) : t.FaultLaw :=
  State.take_keeps h law fun _ law => State.faultLaw_admEvent law (State.faultLaw_admStages _ _ _)

theorem execOatReport_faultLaw {st : Status} {v : Int} (h : execOatReport st v s = .next t) : t.FaultLaw :=
  State.take_keeps h law fun _ law => State.faultLaw_admEvent law (State.faultLaw_admStages _ _ _)

theorem execZonOutputChange_faultLaw {c : ZonChange} (h : execZonOutputChange c s = .next t) : t.FaultLaw :=
  State.take_keeps h law fun _ law => State.faultLaw_admEvent law (State.faultLaw_admStages _ _ _)

theorem execDamperStateReport_faultLaw {r : DriveReport} (h : execDamperStateReport r s = .next t) : t.FaultLaw :=
  State.take_keeps h law fun _ law => State.faultLaw_admEvent law (State.faultLaw_admStages _ _ _)

theorem execSealReqChange_faultLaw {on : Bool} (h : execSealReqChange on s = .next t) : t.FaultLaw :=
  State.take_keeps h law fun _ law => State.faultLaw_sealEffect law on

theorem execDoorChange_faultLaw {d : DoorIx} {on : Bool} (h : execDoorChange d on s = .next t) : t.FaultLaw :=
  State.take_keeps h law fun _ law => State.faultLaw_doorEffect law d on

theorem execAdmHoldTimerExpiry_faultLaw (h : execAdmHoldTimerExpiry s = .next t) : t.FaultLaw := by
  refine State.own_keeps h law fun s law => State.faultLaw_admEvent law ?_
  split
  · exact law
  · exact State.faultLaw_admStages _ _ _

theorem execPurgeTimerExpiry_faultLaw (h : execPurgeTimerExpiry s = .next t) : t.FaultLaw := by
  refine State.own_keeps h law fun s law => State.faultLaw_admEvent law ?_
  split
  · exact State.faultLaw_admStages _ _ _
  · exact law
  · exact law

theorem execSetDirective_faultLaw {b : Byte} (h : execSetDirective b s = .next t) : t.FaultLaw := by
  refine State.take_keeps h law fun s law => ?_
  split
  · split
    · exact law
    · split
      · exact law
      · exact State.faultLaw_status (State.faultLaw_admStages _ _ _) _ _
  · exact law

theorem execSetAdmission_faultLaw {b0 b1 b6 : Byte} {h2 h3 h4 h5 : Half}
    (h : execSetAdmission b0 b1 h2 h3 h4 h5 b6 s = .next t) : t.FaultLaw := by
  refine State.take_keeps h law fun s law => ?_
  refine State.faultLaw_status ?_ _ _
  split
  · exact State.faultLaw_admStages _ _ _
  · exact law

end FaultLaw

theorem State.faultLaw_of_same {s t : State} (law : s.FaultLaw) (adm : t.adm = s.adm) (fault : t.atn.fault = s.atn.fault) :
    t.FaultLaw := fault.trans (law.trans (congrArg Adm.faulty adm.symm))

theorem exec_faultLaw (c : Instr) (s t : State) (law : s.FaultLaw) (h : exec c s = .next t) : t.FaultLaw := by
  cases c with
  | hardwareReset kind => cases h; rfl
  | setState b => exact execSetState_faultLaw law h
  | linkResetEffect => exact execLinkResetEffect_faultLaw law h
  | bind b0 b1 b2 b3 b4 => exact State.faultLaw_bindingKeeps.execBind law h
  | unbind b => exact State.faultLaw_bindingKeeps.execUnbind law h
  | admLevelReport a l => exact execAdmLevelReport_faultLaw law h
  | oatReport st v => exact execOatReport_faultLaw law h
  | sealReqChange on => exact execSealReqChange_faultLaw law h
  | doorChange d on => exact execDoorChange_faultLaw law h
  | zonOutputChange c => exact execZonOutputChange_faultLaw law h
  | damperStateReport r => exact execDamperStateReport_faultLaw law h
  | admHoldTimerExpiry => exact execAdmHoldTimerExpiry_faultLaw law h
  | purgeTimerExpiry => exact execPurgeTimerExpiry_faultLaw law h
  | setDirective b => exact execSetDirective_faultLaw law h
  | setAdmission b0 b1 h2 h3 h4 h5 b6 => exact execSetAdmission_faultLaw law h
  | _ => exact State.faultLaw_of_same law (exec_same h .adm rfl) (exec_same h .fault rfl)

end Sys2Proof.Machine

namespace Sys2Proof

open Sys2Proof.Machine

/-- Settles O5: every command keeps the records sound, and each stage that changes a condition judges the FAULT line. -/
theorem stepKeepsTheAttentionLaw : Obligations.StepKeepsTheAttentionLaw := by
  intro s t law h
  refine t.attentionLaw_iff.mpr (step_keeps (P := fun s => s.atn.Sound ∧ s.FaultLaw) (fun _ _ law => law)
    (fun _ _ law => law) (fun c s t law h => ?_) (s.attentionLaw_iff.mp law) h)
  exact ⟨exec_sound h law.1, exec_faultLaw c s t law.2 h⟩

end Sys2Proof

/-! The admission law: what each stage of R44 establishes, stage by stage, then every command. -/

namespace Sys2Proof.Machine

open State (Touches)

/-! ### The stages -/

theorem demandedOf_ne_inactive (line : Bool) (d : Directive) (i : Intake) : demandedOf line d i ≠ .inactive := by
  unfold demandedOf
  split
  · simp
  · split
    · simp
    · split <;> simp

theorem AdmState.above_irrefl (a : AdmState) : a.above a = false := by simp [AdmState.above]

theorem AdmState.above_asymm {a b : AdmState} (h : a.above b = true) : b.above a = false := by
  simp only [AdmState.above, decide_eq_true_eq, decide_eq_false_iff_not] at h ⊢
  omega

/-- What the acceptance stage leaves of the law (R48 to R50). -/
structure Adm.Accepted (a : Adm) : Prop where
  active : a.accepted ≠ .inactive
  demanded : a.demanded = demandedOf a.sealLine a.directive a.intake
  below : a.demanded.above a.accepted = false
  hold : a.hold.isSome = true ↔ a.accepted.above a.demanded = true

theorem startIfStopped_isSome (t : Option Time) (due : Time) : (startIfStopped t due).isSome = true := by
  cases t <;> rfl

theorem Adm.accept_accepted {a : Adm} (active : a.accepted ≠ .inactive)
    (demanded : a.demanded = demandedOf a.sealLine a.directive a.intake) (now : Time) (immediate : Bool) :
    (a.accept now immediate).Accepted := by
  have wanted : a.demanded ≠ .inactive := demanded ▸ demandedOf_ne_inactive _ _ _
  have jump : ({ a with accepted := a.demanded, hold := none } : Adm).Accepted :=
    ⟨wanted, demanded, a.demanded.above_irrefl, by simp [AdmState.above_irrefl]⟩
  unfold Adm.accept
  split
  · exact jump
  · next below =>
    split
    · next above =>
      split
      · exact jump
      · exact ⟨active, demanded, AdmState.above_asymm above, by simp [startIfStopped_isSome, above]⟩
    · next level => exact ⟨active, demanded, by simpa using below, by simpa using level⟩

/-- The breach stage leaves a breach exactly where R55 has one, and everything else. -/
theorem Adm.judgeBreach_breach (a : Adm) (now : Time) :
    ∃ b, (a.judgeBreach now).1 = { a with breach := b } ∧ (b.isSome = true ↔ a.doorOpen = true ∧ a.accepted.guarded = true) := by
  unfold Adm.judgeBreach
  split
  · next none =>
    split
    · next holds => exact ⟨some now, rfl, by simp [holds]⟩
    · next fails => exact ⟨a.breach, rfl, by simp [none, fails]⟩
  · next since running =>
    split
    · next holds => exact ⟨a.breach, rfl, by simp [running, holds]⟩
    · next fails => exact ⟨Option.none, rfl, by simp [fails]⟩

/-- R57: a purge's clock stands frozen exactly while the cab condition is HIGH. -/
def Adm.PurgeLaw (a : Adm) (cab : Level) : Prop := ∀ p ∈ a.purge, p.clock.isFrozen = true ↔ cab = .high

theorem Adm.freshPurgeClock_isFrozen (a : Adm) (now : Time) :
    (a.freshPurgeClock now).isFrozen = true ↔ a.cab = .high := by
  unfold Adm.freshPurgeClock
  split <;> simp [PurgeClock.isFrozen, *]

/-- R57 to R59: the purge stage leaves a purge, where there is one, on its route and frozen as the cab condition has it;
a purge that runs starts again where the condition becomes HIGH. -/
theorem Adm.judgePurge_purge (a : Adm) (now : Time) (started : Bool) {cab : Level} (law : a.PurgeLaw cab)
    (starts : a.cab = .high → started = true ∨ cab = .high) :
    ∃ p, a.judgePurge now started = { a with purge := p } ∧
      ∀ q ∈ p, q.route = a.accepted.route ∧ (q.clock.isFrozen = true ↔ a.cab = .high) := by
  have fresh := a.freshPurgeClock_isFrozen now
  unfold Adm.judgePurge
  split
  · exact ⟨_, rfl, by simp [fresh]⟩
  · next notStarted =>
    split
    · next none => exact ⟨a.purge, rfl, by simp [none]⟩
    · next p running =>
      have frozen_iff := law p (by simp [running])
      split
      · next r clock =>
        have high : cab = .high := frozen_iff.mp (by simp [clock, PurgeClock.isFrozen])
        split
        · next stays => exact ⟨_, rfl, by simp [stays, clock, PurgeClock.isFrozen]⟩
        · next cleared => exact ⟨_, rfl, by simp [fresh]⟩
      · next due clock =>
        have low : cab ≠ .high := fun high => by simp [clock, PurgeClock.isFrozen, high] at frozen_iff
        have calm : a.cab ≠ .high := fun high => by
          rcases starts high with h | h
          · exact notStarted h
          · exact low h
        exact ⟨_, rfl, by simp [clock, PurgeClock.isFrozen, calm]⟩

theorem Adm.accept_cab (a : Adm) (now : Time) (b : Bool) :
    (a.accept now b).cab = a.cab ∧ (a.accept now b).purge = a.purge := by
  unfold Adm.accept
  split
  · simp
  · split
    · split <;> simp
    · simp

/-- R44: the record after the stages up to the purge. -/
theorem State.admDecide_law (s : State) (c : AdmCause) (before : Adm) (active : s.adm.accepted ≠ .inactive)
    (purge : s.adm.PurgeLaw before.cab) :
    let a := (s.admDecide c before).1
    a.Accepted ∧ (a.breach.isSome = true ↔ a.doorOpen = true ∧ a.accepted.guarded = true) ∧
    ∀ p ∈ a.purge, p.route = a.accepted.route ∧ (p.clock.isFrozen = true ↔ a.cab = .high) := by
  intro a
  let formed := s.adm.form (s.levelAt c 0) (s.levelAt c 1) (s.levelAt c 2)
  let accepted := formed.accept s.now c.immediate
  have law : accepted.Accepted := Adm.accept_accepted (a := formed) active rfl s.now c.immediate
  obtain ⟨cab, kept⟩ := formed.accept_cab s.now c.immediate
  obtain ⟨b, breached, breach_iff⟩ := accepted.judgeBreach_breach s.now
  have purged : ((accepted.judgeBreach s.now).1).PurgeLaw before.cab := by
    rw [breached]
    intro p mem
    exact purge p (kept ▸ mem)
  let started := (accepted.judgeBreach s.now).2 ||
    (decide ((accepted.judgeBreach s.now).1.cab = .high) && (c.entry || decide (before.cab ≠ .high)))
  have starts : (accepted.judgeBreach s.now).1.cab = .high → started = true ∨ before.cab = .high := by
    intro high
    by_cases was : before.cab = .high
    · exact .inr was
    · exact .inl (by simp [started, high, was])
  obtain ⟨p, purged_eq, route⟩ := (accepted.judgeBreach s.now).1.judgePurge_purge s.now started purged starts
  have shape : a = { accepted with breach := b, purge := p } := purged_eq.trans (by rw [breached])
  rw [breached] at route
  rw [shape]
  exact ⟨⟨law.active, law.demanded, law.below, law.hold⟩, breach_iff, route⟩

/-- R44: what the stages leave of the record in RUN. -/
theorem State.runLaw_admStages (s : State) (c : AdmCause) (before : Adm) (active : s.adm.accepted ≠ .inactive)
    (purge : s.adm.PurgeLaw before.cab) : (s.admStages c before).adm.RunLaw := by
  obtain ⟨accepted, breach, routed⟩ := s.admDecide_law c before active purge
  obtain ⟨⟨chk, adm⟩, -⟩ := s.admStages_adm c before
  rw [adm]
  exact ⟨accepted.active, accepted.demanded, accepted.below, accepted.hold, breach, routed, by
    simp [State.admJudged, Adm.judgeConditions], by simp [State.admJudged, Adm.judgeConditions], rfl⟩

/-! ### The law of the part -/

theorem State.admStages_partState (s : State) (c : AdmCause) (before : Adm) :
    (s.admStages c before).part.state = s.part.state := s.touches_admStages c before .partState (by decide)

/-- An event in RUN that has recorded its input. -/
theorem State.admissionLaw_admStages {s : State} (run : s.part.state = .run) (c : AdmCause) (before : Adm)
    (active : s.adm.accepted ≠ .inactive) (purge : s.adm.PurgeLaw before.cab) : (s.admStages c before).AdmissionLaw :=
  ⟨fun _ => s.runLaw_admStages c before active purge,
    fun other => absurd ((s.admStages_partState c before).trans run) other⟩

theorem State.admissionLaw_of_same {s t : State} (law : s.AdmissionLaw) (adm : s.Same t .adm)
    (part : s.Same t .partState) : t.AdmissionLaw := by
  simp only [State.Same] at adm part
  simpa only [State.AdmissionLaw, adm, part] using law

theorem State.admissionLaw_of_touches {l : List Item} {s t : State} (law : s.AdmissionLaw) (touched : Touches l s t)
    (adm : Item.adm ∉ l) (part : Item.partState ∉ l) : t.AdmissionLaw :=
  State.admissionLaw_of_same law (touched .adm adm) (touched .partState part)

/-- In RUN the record is active, and a purge is frozen as the cab condition has it. -/
theorem State.AdmissionLaw.running {s : State} (law : s.AdmissionLaw) (run : s.part.state = .run) :
    s.adm.accepted ≠ .inactive ∧ s.adm.PurgeLaw s.adm.cab := by
  obtain ⟨active, -, -, -, -, purge, -⟩ := law.1 run
  exact ⟨active, fun p mem => (purge p mem).2⟩

/-- An event that records an input which neither the accepted state nor the purge is. -/
theorem State.admissionLaw_recorded {s : State} (law : s.AdmissionLaw) (run : s.part.state = .run) (c : AdmCause) (a : Adm)
    (accepted : a.accepted = s.adm.accepted) (purge : a.purge = s.adm.purge) :
    ({ s with adm := a }.admStages c s.adm).AdmissionLaw := by
  obtain ⟨active, frozen⟩ := law.running run
  refine State.admissionLaw_admStages (s := { s with adm := a }) run c s.adm ?_ fun p mem => frozen p ?_
  · rwa [accepted]
  · rwa [← purge]

theorem State.admissionLaw_admEvent {s : State} {f : State → State} (law : s.AdmissionLaw)
    (h : s.part.state = .run → (f s).AdmissionLaw) : (s.admEvent f).AdmissionLaw := by
  unfold State.admEvent
  split
  · next run => exact h (s.inRun_iff.mp run)
  · exact law

theorem State.admissionLaw_doorEffect {s : State} (law : s.AdmissionLaw) (d : DoorIx) (on : Bool) :
    (s.doorEffect d on).AdmissionLaw :=
  State.admissionLaw_admEvent law fun run => State.admissionLaw_recorded law run _ _ rfl rfl

theorem State.admissionLaw_sealEffect {s : State} (law : s.AdmissionLaw) (on : Bool) : (s.sealEffect on).AdmissionLaw := by
  unfold State.sealEffect
  split
  · next run => exact State.admissionLaw_recorded law (s.inRun_iff.mp run) _ _ rfl rfl
  · split
    · unfold State.sealConfigOrder
      split
      · exact State.admissionLaw_of_touches law (s.touches_order _ _ _ _) (by decide) (by decide)
      · exact law
    · exact law

theorem State.admissionLaw_levelEffect {s : State} (f : Func) (on : Bool) (law : s.AdmissionLaw) :
    (s.levelEffect f on).AdmissionLaw := by
  cases f with
  | home d => exact State.admissionLaw_of_touches law (s.touches_homeEffect d on) (by decide) (by decide)
  | door d => exact State.admissionLaw_doorEffect law d on
  | laneFlt l => exact State.admissionLaw_of_touches law (s.touches_laneFltEffect l on) (by decide) (by decide)
  | sealReq => exact State.admissionLaw_sealEffect law on
  | auxFlame => exact State.admissionLaw_of_touches law (s.touches_flameEffect on) (by decide) (by decide)
  | tach m => exact State.admissionLaw_of_touches law (s.touches_tachEffect m) (by decide) (by decide)
  | _ => exact law

theorem State.admissionLaw_bindingKeeps : State.BindingKeeps State.AdmissionLaw where
  frame touched law := State.admissionLaw_of_touches law touched (by decide) (by decide)
  level _ f on law := State.admissionLaw_levelEffect f on law
  bind s f law := State.admissionLaw_of_touches law (s.touches_ownerBind_own f) (by decide) (by decide)
  unbind s f law := State.admissionLaw_of_touches law (s.touches_ownerUnbind_own f) (by decide) (by decide)
  tach s m law := State.admissionLaw_of_touches law (s.touches_tachStart m) (by decide) (by decide)

/-! ### The part-wide events -/

theorem Adm.leave_restLaw (a : Adm) : a.leave.RestLaw := ⟨rfl, rfl, rfl, rfl, rfl, rfl, rfl, rfl, rfl, rfl, rfl⟩

theorem State.admEnterRun_runLaw (s : State) : s.admEnterRun.adm.RunLaw := by
  refine State.runLaw_admStages _ _ _ ?_ ?_
  · show (if _ then _ else _) ≠ _
    split <;> simp
  · intro p mem
    cases mem

theorem State.admLeaveRun_adm (s : State) : s.admLeaveRun.adm = s.adm.leave :=
  State.touches_handPicture ({ s with adm := s.adm.leave } : State).judgeFault _ _ .adm (by decide)

theorem State.admLinkReset_restLaw (s : State) : s.admLinkReset.adm.RestLaw := by
  unfold State.admLinkReset
  dsimp only
  split
  · exact s.admLeaveRun_adm ▸ s.adm.leave_restLaw
  · exact (congrArg Adm.RestLaw (s.admLeaveRun_adm)).mpr s.adm.leave_restLaw

theorem State.enterBlock_adm {s : State} {b : Block} (other : b ≠ .adm) : (s.enterBlock b).adm = s.adm :=
  s.touches_enterBlock_own b .adm (by revert other; cases b <;> decide)

theorem State.leaveBlock_adm {s : State} {b : Block} (other : b ≠ .adm) : (s.leaveBlock b).adm = s.adm :=
  s.touches_leaveBlock_own b .adm (by revert other; cases b <;> decide)

theorem State.resetBlock_adm {s : State} {b : Block} (other : b ≠ .adm) : (s.resetBlock b).adm = s.adm :=
  s.touches_resetBlock_own b .adm (by revert other; cases b <;> decide)

theorem State.enterRun_partState (s : State) : s.enterRun.part.state = .run :=
  State.Touches.foldl (fun t b => t.touches_enterBlock b) s.blockOrder (s.setPart .run) .partState (by decide)

theorem State.leaveRun_partState (s : State) : s.leaveRun.part.state = .config :=
  State.Touches.foldl (fun t b => t.touches_leaveBlock b) s.blockOrder (s.setPart .config) .partState (by decide)

theorem State.resetBlock_partState (s : State) (b : Block) : (s.resetBlock b).part.state = s.part.state :=
  s.touches_resetBlock_own b .partState (by cases b <;> decide)

theorem State.admissionLaw_enterRun {s : State} (complete : s.BlocksComplete) : s.enterRun.AdmissionLaw := by
  refine ⟨fun _ => ?_, fun other => absurd s.enterRun_partState other⟩
  exact foldl_reaches (P := fun _ => True) (Q := fun t => t.adm.RunLaw) .adm (fun t _ => by rw [State.enterBlock]; exact t.admEnterRun_runLaw)
    (fun _ _ _ _ => trivial) (fun t b other law => by rwa [State.enterBlock_adm other])
    s.blockOrder (complete.mem _) complete.nodup trivial

theorem State.admissionLaw_leaveRun {s : State} (complete : s.BlocksComplete) : s.leaveRun.AdmissionLaw := by
  refine ⟨fun run => ?_, fun _ => ?_⟩
  · rw [s.leaveRun_partState] at run; cases run
  · exact foldl_reaches (P := fun _ => True) (Q := fun t => t.adm.RestLaw) .adm
      (fun t _ => by rw [State.leaveBlock, t.admLeaveRun_adm]; exact t.adm.leave_restLaw)
      (fun _ _ _ _ => trivial) (fun t b other law => by rwa [State.leaveBlock_adm other])
      s.blockOrder (complete.mem _) complete.nodup trivial

theorem State.admissionLaw_linkReset {s : State} (complete : s.BlocksComplete) : s.linkReset.AdmissionLaw := by
  have config : (s.blockOrder.foldl State.resetBlock
      { s with part := { s.part with state := .config, cause := .linkReset } }).part.state = .config :=
    foldl_keeps (fun t => t.part.state = .config) (fun t b h => (t.resetBlock_partState b).trans h) s.blockOrder rfl
  refine State.admissionLaw_of_touches (s := s.blockOrder.foldl State.resetBlock _) ⟨fun run => ?_, fun _ => ?_⟩
    (State.touches_linkAfterLinkReset _) (by decide) (by decide)
  · rw [config] at run; cases run
  · exact foldl_reaches (P := fun _ => True) (Q := fun t => t.adm.RestLaw) .adm
      (fun t _ => by rw [State.resetBlock]; exact t.admLinkReset_restLaw)
      (fun _ _ _ _ => trivial) (fun t b other law => by rwa [State.resetBlock_adm other])
      s.blockOrder (complete.mem _) complete.nodup trivial

/-! ### The commands -/

theorem AdmState.stepDown_ne_inactive (a : AdmState) (active : a ≠ .inactive) : a.stepDown ≠ .inactive := by
  cases a <;> first | decide | exact absurd rfl active

theorem State.admissionLaw_status {s : State} (law : s.AdmissionLaw) (r : Req) (code : StatusCode) :
    (s.status r code).AdmissionLaw := law

/-- A command that is taken leaves what holds of the state without it and of its effect. -/
theorem State.take_leaves {P : State → Prop} {s t : State} {c : Instr} {effect : State → State}
    (h : s.take c effect = .next t) (struck : P (s.strike c)) (done : P (effect (s.strike c))) : P t := by
  obtain ⟨-, rfl⟩ | ⟨-, rfl⟩ := State.take_cases s t c effect h
  · exact struck
  · exact done

/-- Outside RUN the law asks nothing of the settings. -/
theorem State.admissionLaw_settings {s : State} (law : s.AdmissionLaw) (outside : s.part.state ≠ .run) (v : AdmSettings) :
    ({ s with adm := { s.adm with settings := v } } : State).AdmissionLaw :=
  ⟨fun run => absurd run outside, fun _ => law.2 outside⟩

section AdmissionLaw

variable {s t : State} (law : s.AdmissionLaw)
include law

theorem execRetain_admissionLaw {b : Byte} (h : execRetain b s = .next t) : t.AdmissionLaw := by
  refine State.take_keeps h law fun s law => ?_
  split <;> exact law

theorem execSetState_admissionLaw (complete : s.BlocksComplete) {b : Byte} (h : execSetState b s = .next t) :
    t.AdmissionLaw := by
  refine State.take_leaves h law ?_
  split
  · exact law
  · split
    · exact law
    · split
      · split
        · exact law
        · exact State.admissionLaw_status (State.admissionLaw_enterRun (s := s.strike _) complete) _ _
      · exact State.admissionLaw_status (State.admissionLaw_leaveRun (s := s.strike _) complete) _ _

theorem execLinkResetEffect_admissionLaw (complete : s.BlocksComplete) (h : execLinkResetEffect s = .next t) :
    t.AdmissionLaw := by
  refine State.take_leaves h law ?_
  split
  · exact State.admissionLaw_linkReset (s := s.strike _) complete
  · exact law

theorem execAdmLevelReport_admissionLaw {a : AssessorIx} {l : Level} (h : execAdmLevelReport a l s = .next t) :
    t.AdmissionLaw :=
  State.take_keeps h law fun _ law => State.admissionLaw_admEvent law fun run =>
    State.admissionLaw_recorded law run _ _ rfl rfl

theorem execOatReport_admissionLaw {st : Status} {v : Int} (h : execOatReport st v s = .next t) : t.AdmissionLaw :=
  State.take_keeps h law fun _ law => State.admissionLaw_admEvent law fun run =>
    State.admissionLaw_recorded law run _ _ rfl rfl

theorem execSealReqChange_admissionLaw {on : Bool} (h : execSealReqChange on s = .next t) : t.AdmissionLaw :=
  State.take_keeps h law fun _ law => State.admissionLaw_sealEffect law on

theorem execDoorChange_admissionLaw {d : DoorIx} {on : Bool} (h : execDoorChange d on s = .next t) : t.AdmissionLaw :=
  State.take_keeps h law fun _ law => State.admissionLaw_doorEffect law d on

theorem execZonOutputChange_admissionLaw {c : ZonChange} (h : execZonOutputChange c s = .next t) : t.AdmissionLaw :=
  State.take_keeps h law fun _ law => State.admissionLaw_admEvent law fun run =>
    State.admissionLaw_recorded law run _ _ (by cases c <;> rfl) (by cases c <;> rfl)

theorem execDamperStateReport_admissionLaw {r : DriveReport} (h : execDamperStateReport r s = .next t) :
    t.AdmissionLaw :=
  State.take_keeps h law fun _ law => State.admissionLaw_admEvent law fun run =>
    State.admissionLaw_recorded law run _ _ rfl rfl

theorem execAdmHoldTimerExpiry_admissionLaw (h : execAdmHoldTimerExpiry s = .next t) : t.AdmissionLaw := by
  refine State.own_keeps h law fun s law => State.admissionLaw_admEvent law fun run => ?_
  obtain ⟨active, frozen⟩ := law.running run
  split
  · exact law
  · exact State.admissionLaw_admStages
      (s := { s with adm := { s.adm with accepted := s.adm.accepted.stepDown, hold := none } }) run _ _
      (s.adm.accepted.stepDown_ne_inactive active) frozen

theorem execPurgeTimerExpiry_admissionLaw (h : execPurgeTimerExpiry s = .next t) : t.AdmissionLaw := by
  refine State.own_keeps h law fun s law => State.admissionLaw_admEvent law fun run => ?_
  obtain ⟨active, -⟩ := law.running run
  split
  · exact State.admissionLaw_admStages (s := ({ s with adm := { s.adm with purge := none } } : State).raise _ _) run _ _
      active (fun _ mem => nomatch mem)
  · exact law
  · exact law

theorem execSetDirective_admissionLaw {b : Byte} (h : execSetDirective b s = .next t) : t.AdmissionLaw := by
  refine State.take_keeps h law fun s law => ?_
  dsimp only
  split
  · next run =>
    split
    · exact State.admissionLaw_status law _ _
    · split
      · exact State.admissionLaw_status law _ _
      · refine State.admissionLaw_status ?_ _ _
        exact State.admissionLaw_recorded law (s.inRun_iff.mp run) _ _ rfl rfl
  · exact law

theorem execSetAdmission_admissionLaw {b0 b1 b6 : Byte} {h2 h3 h4 h5 : Half}
    (h : execSetAdmission b0 b1 h2 h3 h4 h5 b6 s = .next t) : t.AdmissionLaw := by
  refine State.take_keeps h law fun s law => ?_
  dsimp only
  refine State.admissionLaw_status ?_ _ _
  split
  · next run => exact State.admissionLaw_recorded law (s.inRun_iff.mp run) _ _ rfl rfl
  · next outside => exact State.admissionLaw_settings law (fun run => outside (s.inRun_iff.mpr run)) _

theorem execInitEnd_admissionLaw (h : execInitEnd s = .next t) : t.AdmissionLaw := by
  cases h
  split
  · next ready =>
    have init : s.part.state = .init := by simp_all [State.inInit]
    exact ⟨nofun, fun _ => law.2 (by simp [init])⟩
  · exact law

end AdmissionLaw

theorem exec_admissionLaw (c : Instr) (s t : State) (complete : s.BlocksComplete) (law : s.AdmissionLaw)
    (h : exec c s = .next t) : t.AdmissionLaw := by
  have kept (adm : Command.leaves c .adm = true) (part : Command.leaves c .partState = true) : t.AdmissionLaw :=
    State.admissionLaw_of_same law (exec_same h .adm adm) (exec_same h .partState part)
  cases c with
  | hardwareReset kind => cases h; exact ⟨nofun, fun _ => ⟨rfl, rfl, rfl, rfl, rfl, rfl, rfl, rfl, rfl, rfl, rfl⟩⟩
  | initEnd => exact execInitEnd_admissionLaw law h
  | setState b => exact execSetState_admissionLaw law complete h
  | linkResetEffect => exact execLinkResetEffect_admissionLaw law complete h
  | retain b => exact execRetain_admissionLaw law h
  | bind b0 b1 b2 b3 b4 => exact State.admissionLaw_bindingKeeps.execBind law h
  | unbind b => exact State.admissionLaw_bindingKeeps.execUnbind law h
  | admLevelReport a l => exact execAdmLevelReport_admissionLaw law h
  | oatReport st v => exact execOatReport_admissionLaw law h
  | sealReqChange on => exact execSealReqChange_admissionLaw law h
  | doorChange d on => exact execDoorChange_admissionLaw law h
  | zonOutputChange c => exact execZonOutputChange_admissionLaw law h
  | damperStateReport r => exact execDamperStateReport_admissionLaw law h
  | admHoldTimerExpiry => exact execAdmHoldTimerExpiry_admissionLaw law h
  | purgeTimerExpiry => exact execPurgeTimerExpiry_admissionLaw law h
  | setDirective b => exact execSetDirective_admissionLaw law h
  | setAdmission b0 b1 h2 h3 h4 h5 b6 => exact execSetAdmission_admissionLaw law h
  | _ => exact kept rfl rfl

end Sys2Proof.Machine

namespace Sys2Proof

open Sys2Proof.Machine

/-- Settles O6: each event of ADM leaves what its stages establish; the part-wide events reach ADM once, and every other
command leaves the record and the part state. -/
theorem stepKeepsTheAdmissionLaw : Obligations.StepKeepsTheAdmissionLaw := by
  intro s t complete law h
  exact step_keeps_complete (fun _ _ law => law) (fun _ _ law => law) (fun c s t => exec_admissionLaw c s t) complete law h

end Sys2Proof

/-! The heat law: the valve and the heater under each of HEU's judgements, then every command. -/

namespace Sys2Proof.Machine

open State (Touches)

/-- R143, R144: the valve record; `run` says that the part is in RUN. -/
structure Heu.ValveLaw (h : Heu) (run : Bool) : Prop where
  opened : h.valveOpen = true → run = true
  held : h.valveHold ≠ .stopped → h.valveOpen = true

/-- R146 to R152: the heater record; `run` says that the part is in RUN. -/
structure Heater.Law (h : Heater) (run : Bool) : Prop where
  driven : h.auxRun = true → run = true ∧ h.inhibit = false
  ignition : h.ignition.isSome = true ↔ h.state = .prestart
  cooldown : h.cooldown.isSome = true ↔ h.state = .cooldown
  released : h.coolantRelease.isSome = true ∨ h.demandRelease.isSome = true → h.state = .running
  restart : h.restart = true → h.state = .cooldown ∧ h.inhibit = false
  attempts : h.attempts ≤ 2
  offAttempts : h.state = .off → h.attempts ≤ 1
  runningAttempts : h.state = .running → h.attempts = 0

/-- The law of the whole record. -/
structure Heu.Law (h : Heu) (run : Bool) : Prop where
  valve : h.ValveLaw run
  heater : h.heater.Law run

/-! ### The valve -/

theorem Heu.closeValve_valveLaw (h : Heu) (run : Bool) : h.closeValve.ValveLaw run := ⟨nofun, fun ne => absurd rfl ne⟩

theorem Heu.valveLaw_open {h : Heu} (opened : h.valveOpen = true) : h.ValveLaw true := ⟨fun _ => rfl, fun _ => opened⟩

theorem Heu.valveIdle_valveLaw {h : Heu} (opened : h.valveOpen = true) (now : Time) : (h.valveIdle now).ValveLaw true := by
  unfold Heu.valveIdle
  split
  · exact Heu.valveLaw_open opened
  · exact Heu.valveLaw_open opened
  · split
    · exact h.closeValve_valveLaw true
    · exact Heu.valveLaw_open opened

theorem Heu.judgeValve_valveLaw {h : Heu} (law : h.ValveLaw true) (now : Time) : (h.judgeValve now).ValveLaw true := by
  unfold Heu.judgeValve
  split
  · next opened =>
    split
    · exact h.closeValve_valveLaw true
    · split
      · exact Heu.valveIdle_valveLaw opened now
      · exact Heu.valveLaw_open opened
  · split
    · exact ⟨fun _ => rfl, fun _ => rfl⟩
    · exact law

/-- A judgement of the valve leaves the heater. -/
theorem Heu.judgeValve_heater (h : Heu) (now : Time) : (h.judgeValve now).heater = h.heater := by
  unfold Heu.judgeValve Heu.valveIdle
  split
  · split
    · rfl
    · split
      · split
        · rfl
        · rfl
        · split <;> rfl
      · rfl
  · split <;> rfl

/-! ### The heater -/

theorem Heu.auxWanted_run {h : Heu} {run : Bool} (wanted : h.auxWanted run = true) : run = true ∧ h.heater.inhibit = false := by
  simp only [Heu.auxWanted, Bool.and_eq_true, Bool.not_eq_true'] at wanted
  obtain ⟨⟨⟨⟨inRun, free⟩, -⟩, -⟩, -⟩ := wanted
  exact ⟨inRun, free⟩

/-- PRESTART is entered where the aux demand holds, with an attempt left. -/
theorem Heu.prestart_heaterLaw {h : Heu} {run : Bool} (wanted : run = true ∧ h.heater.inhibit = false)
    (left : h.heater.attempts ≤ 1) (cold : h.heater.cooldown = none) (calm : h.heater.restart = false)
    (idle : h.heater.coolantRelease = none ∧ h.heater.demandRelease = none) (now : Time) :
    (h.prestart now).heater.Law run := by
  constructor <;> simp [Heu.prestart, wanted, cold, calm, idle, left]

/-- COOLDOWN is entered with a restart only where inhibit is clear. -/
theorem Heu.coolDown_heaterLaw {h : Heu} {restart : Bool} (attempts : h.heater.attempts ≤ 2)
    (free : restart = true → h.heater.inhibit = false) (now : Time) (run : Bool) :
    (h.coolDown now restart).heater.Law run := by
  constructor <;> simp_all [Heu.coolDown, Heater.auxRun]

theorem Heater.Law.idle {h : Heater} {run : Bool} (law : h.Law run) (state : h.state ≠ .running) :
    h.coolantRelease = none ∧ h.demandRelease = none := by
  have := law.released
  cases c : h.coolantRelease <;> cases d : h.demandRelease <;> simp_all

theorem Heater.Law.cold {h : Heater} {run : Bool} (law : h.Law run) (state : h.state ≠ .cooldown) :
    h.cooldown = none ∧ h.restart = false := by
  have := law.cooldown
  have := law.restart
  cases c : h.cooldown <;> cases d : h.restart <;> simp_all

theorem Heu.judgeAux_heaterLaw {h : Heu} {run : Bool} (law : h.heater.Law run) (now : Time) :
    (h.judgeAux now run).heater.Law run := by
  have demanded (b : Bool) : ({ h.heater with auxDemand := b } : Heater).Law run :=
    ⟨law.driven, law.ignition, law.cooldown, law.released, law.restart, law.attempts, law.offAttempts, law.runningAttempts⟩
  unfold Heu.judgeAux
  dsimp only
  split
  · next wanted =>
    obtain ⟨inRun, free⟩ := Heu.auxWanted_run wanted
    split
    · next off =>
      obtain ⟨cold, calm⟩ := law.cold (by simp_all)
      apply Heu.prestart_heaterLaw
      · exact ⟨inRun, free⟩
      · exact law.offAttempts off
      · exact cold
      · exact calm
      · exact law.idle (by simp_all)
    · next cooling =>
      exact ⟨law.driven, law.ignition, law.cooldown, law.released, fun _ => ⟨cooling, free⟩, law.attempts, law.offAttempts,
        law.runningAttempts⟩
    all_goals exact demanded _
  · exact demanded _

/-- The aux demand and the heater's judgements leave the valve. -/
theorem Heu.judgeAux_valve (h : Heu) (now : Time) (run : Bool) :
    (h.judgeAux now run).valveOpen = h.valveOpen ∧ (h.judgeAux now run).valveHold = h.valveHold := by
  unfold Heu.judgeAux
  dsimp only
  split
  · split <;> exact ⟨rfl, rfl⟩
  · exact ⟨rfl, rfl⟩

theorem Heu.judgeRelease_valve (h : Heu) (now : Time) :
    (h.judgeRelease now).valveOpen = h.valveOpen ∧ (h.judgeRelease now).valveHold = h.valveHold := by
  unfold Heu.judgeRelease
  split <;> exact ⟨rfl, rfl⟩

theorem Heu.judgeRelease_heaterLaw {h : Heu} {run : Bool} (law : h.heater.Law run) (now : Time) :
    (h.judgeRelease now).heater.Law run := by
  unfold Heu.judgeRelease
  split
  · next running =>
    exact ⟨law.driven, law.ignition, law.cooldown, fun _ => running, law.restart, law.attempts, law.offAttempts,
      law.runningAttempts⟩
  · exact law

theorem Heu.ValveLaw.of_eq {h k : Heu} {run : Bool} (law : h.ValveLaw run)
    (same : k.valveOpen = h.valveOpen ∧ k.valveHold = h.valveHold) : k.ValveLaw run := by
  obtain ⟨opened, held⟩ := same
  exact ⟨fun o => law.opened (opened ▸ o), fun ne => opened ▸ law.held (held ▸ ne)⟩

theorem Heu.judgeAux_law {h : Heu} {run : Bool} (law : h.Law run) (now : Time) : (h.judgeAux now run).Law run :=
  ⟨law.valve.of_eq (h.judgeAux_valve now run), Heu.judgeAux_heaterLaw law.heater now⟩

theorem Heu.judgeRelease_law {h : Heu} {run : Bool} (law : h.Law run) (now : Time) : (h.judgeRelease now).Law run :=
  ⟨law.valve.of_eq (h.judgeRelease_valve now), Heu.judgeRelease_heaterLaw law.heater now⟩

theorem Heu.judgeValve_law {h : Heu} (law : h.Law true) (now : Time) : (h.judgeValve now).Law true :=
  ⟨Heu.judgeValve_valveLaw law.valve now, (h.judgeValve_heater now).symm ▸ law.heater⟩

theorem Heu.judge_law {h : Heu} {run : Bool} (law : h.Law run) (now : Time) : (h.judge now run).Law run := by
  unfold Heu.judge
  cases run with
  | true => exact Heu.judgeRelease_law (Heu.judgeAux_law (Heu.judgeValve_law law now) now) now
  | false => exact Heu.judgeRelease_law (Heu.judgeAux_law law now) now

theorem Heu.coolDown_law {h : Heu} {run restart : Bool} (law : h.Law run) (free : restart = true → h.heater.inhibit = false)
    (now : Time) : (h.coolDown now restart).Law run :=
  ⟨law.valve.of_eq ⟨rfl, rfl⟩, Heu.coolDown_heaterLaw law.heater.attempts free now run⟩

theorem Heu.takeFlame_law {h : Heu} {run : Bool} (law : h.Law run) (now : Time) (on : Bool) :
    (h.takeFlame now on).1.Law run := by
  obtain ⟨valve, heater⟩ := law
  have seen : ({ h with heater := { h.heater with flame := on } } : Heu).Law run :=
    ⟨valve.of_eq ⟨rfl, rfl⟩, ⟨heater.driven, heater.ignition, heater.cooldown, heater.released, heater.restart,
      heater.attempts, heater.offAttempts, heater.runningAttempts⟩⟩
  unfold Heu.takeFlame
  dsimp only
  split
  · next prestart =>
    obtain ⟨cold, calm⟩ := heater.cold (by simp_all)
    refine Heu.judgeRelease_law (h := { h with heater := { h.heater with
      flame := true, state := .running, attempts := 0, ignition := none } }) ⟨valve.of_eq ⟨rfl, rfl⟩, ?_⟩ now
    exact ⟨fun _ => heater.driven (by simp [Heater.auxRun, prestart]), by simp, by simp [cold], fun _ => rfl,
      fun r => by simp [calm] at r, by simp, nofun, fun _ => rfl⟩
  · next running => exact Heu.coolDown_law seen (fun _ => (heater.driven (by simp [Heater.auxRun, running])).2) now
  · exact seen

/-- In COOLDOWN the aux demand asks for a restart. -/
theorem Heu.judgeAux_of_cooldown {h : Heu} (cooling : h.heater.state = .cooldown) (now : Time) (run : Bool) :
    h.judgeAux now run = { h with heater := { h.heater with
      auxDemand := h.auxWanted run, restart := h.auxWanted run || h.heater.restart } } := by
  unfold Heu.judgeAux
  dsimp only
  split
  · next wanted => simp [cooling, wanted]
  · next unwanted => simp [unwanted]

theorem Heu.cooldownEnd_law {h : Heu} {run : Bool} (law : h.Law run) (cooling : h.heater.state = .cooldown) (now : Time) :
    (h.cooldownEnd now run).1.Law run := by
  obtain ⟨valve, heater⟩ := law
  obtain ⟨noCoolant, noDemand⟩ := heater.idle (by simp [cooling])
  have noFlame : h.heater.ignition = none := by
    have := heater.ignition
    cases c : h.heater.ignition <;> simp_all
  unfold Heu.cooldownEnd
  rw [Heu.judgeAux_of_cooldown cooling now run]
  dsimp only
  split
  · refine ⟨valve.of_eq ⟨rfl, rfl⟩, ?_⟩
    constructor <;> simp [Heater.auxRun, noCoolant, noDemand, noFlame, heater.attempts]
  · next left =>
    split
    · next wanted =>
      refine ⟨valve.of_eq ⟨rfl, rfl⟩, ?_⟩
      apply Heu.prestart_heaterLaw
      · exact Heu.auxWanted_run (h := h) (by simp_all)
      · exact Nat.le_of_lt_succ (Nat.lt_of_not_le left)
      · rfl
      · rfl
      · exact ⟨noCoolant, noDemand⟩
    · refine ⟨valve.of_eq ⟨rfl, rfl⟩, ?_⟩
      constructor <;> simp [Heater.auxRun, noCoolant, noDemand, noFlame, heater.attempts]
      omega

theorem Heu.setInhibit_law {h : Heu} {run : Bool} (law : h.Law run) (now : Time) : (h.setInhibit now).Law run := by
  obtain ⟨valve, heater⟩ := law
  unfold Heu.setInhibit
  dsimp only
  split
  iterate 2
    refine ⟨valve.of_eq ⟨rfl, rfl⟩, ?_⟩
    apply Heu.coolDown_heaterLaw
    · exact heater.attempts
    · nofun
  all_goals
    refine ⟨valve.of_eq ⟨rfl, rfl⟩, ?_, heater.ignition, heater.cooldown, heater.released, ?_, heater.attempts,
      heater.offAttempts, heater.runningAttempts⟩
  · simp_all [Heater.auxRun]
  · simp
  · simp_all [Heater.auxRun]
  · exact fun r => absurd (heater.restart r).1 (by simp_all)
  · simp_all [Heater.auxRun]
  · exact fun r => absurd (heater.restart r).1 (by simp_all)

/-- R156: what leaves RUN holds outside it. -/
theorem Heu.leave_law {h : Heu} {run : Bool} (law : h.Law run) (now : Time) : (h.leave now).Law false := by
  obtain ⟨-, heater⟩ := law
  unfold Heu.leave
  dsimp only
  split
  iterate 2
    refine ⟨⟨nofun, fun ne => absurd rfl ne⟩, ?_⟩
    apply Heu.coolDown_heaterLaw
    · exact heater.attempts
    · nofun
  all_goals
    refine ⟨⟨nofun, fun ne => absurd rfl ne⟩, ?_, heater.ignition, heater.cooldown, heater.released, nofun,
      heater.attempts, heater.offAttempts, heater.runningAttempts⟩
    simp_all [Heater.auxRun]

/-- The law outside RUN is the stronger one. -/
theorem Heu.Law.mono {h : Heu} {run : Bool} (law : h.Law run) : h.Law true :=
  ⟨⟨fun _ => rfl, law.valve.held⟩,
    ⟨fun d => ⟨rfl, (law.heater.driven d).2⟩, law.heater.ignition, law.heater.cooldown, law.heater.released,
      law.heater.restart, law.heater.attempts, law.heater.offAttempts, law.heater.runningAttempts⟩⟩

/-- A change of what HEU takes and of its settings. -/
theorem Heu.Law.of_records {h k : Heu} {run : Bool} (law : h.Law run)
    (valve : k.valveOpen = h.valveOpen ∧ k.valveHold = h.valveHold) (heater : k.heater = h.heater) : k.Law run :=
  ⟨law.valve.of_eq valve, heater ▸ law.heater⟩

/-! ### The law of the part -/

theorem State.heatLaw_iff (s : State) : s.HeatLaw ↔ s.heu.Law s.inRun := by
  simp only [State.HeatLaw, ← s.inRun_iff]
  constructor
  · rintro ⟨opened, held, driven, ignition, cooldown, released, restart, attempts, offAttempts, runningAttempts⟩
    exact ⟨⟨opened, held⟩, ⟨driven, ignition, cooldown, released, restart, attempts, offAttempts, runningAttempts⟩⟩
  · rintro ⟨⟨opened, held⟩, ⟨driven, ignition, cooldown, released, restart, attempts, offAttempts, runningAttempts⟩⟩
    exact ⟨opened, held, driven, ignition, cooldown, released, restart, attempts, offAttempts, runningAttempts⟩

/-- The heat law over HEU's record. -/
def State.HeuLaw (s : State) : Prop := s.heu.Law s.inRun

theorem State.heuLaw_of_same {s t : State} (law : s.HeuLaw) (heu : s.Same t .heu) (part : s.Same t .partState) :
    t.HeuLaw := by
  simp only [State.Same] at heu part
  simpa only [State.HeuLaw, State.inRun, heu, part] using law

theorem State.heuLaw_of_touches {l : List Item} {s t : State} (law : s.HeuLaw) (touched : Touches l s t)
    (heu : Item.heu ∉ l) (part : Item.partState ∉ l) : t.HeuLaw :=
  State.heuLaw_of_same law (touched .heu heu) (touched .partState part)

theorem State.heuLaw_putHeu {s : State} {h : Heu} (law : h.Law s.inRun) : (s.putHeu h).HeuLaw := law

theorem State.heuLaw_raise {s : State} (law : s.HeuLaw) (i : SourceIx) (d : Nat) : (s.raise i d).HeuLaw :=
  State.heuLaw_of_touches law (s.touches_raise i d) (by decide) (by decide)

theorem State.heuLaw_flameEffect {s : State} (law : s.HeuLaw) (on : Bool) : (s.flameEffect on).HeuLaw := by
  have taken := State.heuLaw_putHeu (Heu.takeFlame_law law s.now on)
  unfold State.flameEffect
  dsimp only
  split
  · exact State.heuLaw_raise taken _ _
  · exact taken

theorem State.heuLaw_levelEffect {s : State} (f : Func) (on : Bool) (law : s.HeuLaw) : (s.levelEffect f on).HeuLaw := by
  cases f with
  | home d => exact State.heuLaw_of_touches law (s.touches_homeEffect d on) (by decide) (by decide)
  | door d => exact State.heuLaw_of_touches law (s.touches_doorEffect d on) (by decide) (by decide)
  | laneFlt l => exact State.heuLaw_of_touches law (s.touches_laneFltEffect l on) (by decide) (by decide)
  | sealReq => exact State.heuLaw_of_touches law (s.touches_sealEffect on) (by decide) (by decide)
  | auxFlame => exact State.heuLaw_flameEffect law on
  | tach m => exact State.heuLaw_of_touches law (s.touches_tachEffect m) (by decide) (by decide)
  | _ => exact law

theorem State.heuLaw_bindingKeeps : State.BindingKeeps State.HeuLaw where
  frame touched law := State.heuLaw_of_touches law touched (by decide) (by decide)
  level _ f on law := State.heuLaw_levelEffect f on law
  bind s f law := State.heuLaw_of_touches law (s.touches_ownerBind_own f) (by decide) (by decide)
  unbind s f law := State.heuLaw_of_touches law (s.touches_ownerUnbind_own f) (by decide) (by decide)
  tach s m law := State.heuLaw_of_touches law (s.touches_tachStart m) (by decide) (by decide)

/-! ### The part-wide events -/

theorem Block.runItems_heu {b : Block} (other : b ≠ .heu) : Item.heu ∉ b.runItems := by
  revert other; cases b <;> decide

theorem Block.resetItems_heu {b : Block} (other : b ≠ .heu) : Item.heu ∉ b.resetItems := by
  revert other; cases b <;> decide

theorem Block.runItems_partState (b : Block) : Item.partState ∉ b.runItems := by cases b <;> decide

theorem Block.resetItems_partState (b : Block) : Item.partState ∉ b.resetItems := by cases b <;> decide

theorem State.heuLaw_heuEnterRun {s : State} (law : s.HeuLaw) (run : s.inRun = true) : s.heuEnterRun.HeuLaw := by
  have taken : ({ s.heu with demand := s.zon.out.heat, cltStatus := s.channelStatus 1, clt := (s.channel 1).value } :
      Heu).Law true := Heu.Law.of_records (Heu.Law.mono law) ⟨rfl, rfl⟩ rfl
  have judged := Heu.judgeAux_law (Heu.judgeValve_law taken s.now) s.now
  show Heu.Law (Heu.judgeAux _ _ s.inRun) s.inRun
  rw [run]
  exact judged

theorem State.inRun_of_same {s t : State} (same : s.Same t .partState) : t.inRun = s.inRun := by
  simp only [State.Same] at same
  simp only [State.inRun, same]

theorem State.inRun_enterBlock (s : State) (b : Block) : (s.enterBlock b).inRun = s.inRun :=
  State.inRun_of_same (s.touches_enterBlock_own b .partState b.runItems_partState)

theorem State.inRun_leaveBlock (s : State) (b : Block) : (s.leaveBlock b).inRun = s.inRun :=
  State.inRun_of_same (s.touches_leaveBlock_own b .partState b.runItems_partState)

theorem State.inRun_resetBlock (s : State) (b : Block) : (s.resetBlock b).inRun = s.inRun :=
  State.inRun_of_same (s.touches_resetBlock_own b .partState b.resetItems_partState)

theorem State.heuLaw_enterRun {s : State} (law : s.HeuLaw) : s.enterRun.HeuLaw := by
  have entered : (s.setPart .run).inRun = true ∧ (s.setPart .run).HeuLaw := ⟨rfl, Heu.Law.mono law⟩
  refine (foldl_keeps (fun t => t.inRun = true ∧ t.HeuLaw) (fun t b both => ?_) s.blockOrder entered).2
  obtain ⟨run, law⟩ := both
  refine ⟨(t.inRun_enterBlock b).trans run, ?_⟩
  by_cases own : b = .heu
  · subst own
    exact State.heuLaw_heuEnterRun law run
  · exact State.heuLaw_of_touches law (t.touches_enterBlock_own b) (Block.runItems_heu own) b.runItems_partState

/-- What HEU meets where the part has left RUN and HEU has not. -/
def State.HeuLeaving (s : State) : Prop := s.inRun = false ∧ s.heu.Law true

/-- What HEU leaves outside RUN. -/
def State.HeuLeft (s : State) : Prop := s.inRun = false ∧ s.heu.Law false

theorem State.HeuLeft.law {s : State} (left : s.HeuLeft) : s.HeuLaw := by
  obtain ⟨outside, law⟩ := left
  rw [State.HeuLaw, outside]
  exact law

theorem State.HeuLeaving.leave {s : State} (leaving : s.HeuLeaving) : s.heuLeaveRun.HeuLeft :=
  ⟨leaving.1, Heu.leave_law leaving.2 s.now⟩

theorem State.HeuLeaving.linkReset {s : State} (leaving : s.HeuLeaving) : s.heuLinkReset.HeuLeft := by
  unfold State.heuLinkReset
  split
  · exact leaving.leave
  · exact State.HeuLeaving.leave ⟨leaving.1, leaving.2.of_records ⟨rfl, rfl⟩ rfl⟩

theorem State.heuLaw_leaveRun {s : State} (law : s.HeuLaw) (complete : s.BlocksComplete) : s.leaveRun.HeuLaw := by
  have leaving : (s.setPart .config).HeuLeaving := ⟨rfl, Heu.Law.mono law⟩
  refine State.HeuLeft.law (foldl_reaches (P := State.HeuLeaving) .heu (fun t leaving => ?_) (fun t b other leaving => ?_)
    (fun t b other left => ?_) s.blockOrder (complete.mem _) complete.nodup leaving)
  · exact leaving.leave
  · exact ⟨(t.inRun_leaveBlock b).trans leaving.1,
      (t.touches_leaveBlock_own b .heu (Block.runItems_heu other)).symm ▸ leaving.2⟩
  · exact ⟨(t.inRun_leaveBlock b).trans left.1,
      (t.touches_leaveBlock_own b .heu (Block.runItems_heu other)).symm ▸ left.2⟩

theorem State.heuLaw_linkReset {s : State} (law : s.HeuLaw) (complete : s.BlocksComplete) : s.linkReset.HeuLaw := by
  have leaving : State.HeuLeaving { s with part := { s.part with state := .config, cause := .linkReset } } :=
    ⟨rfl, Heu.Law.mono law⟩
  refine State.heuLaw_of_touches (s := s.blockOrder.foldl State.resetBlock _) (State.HeuLeft.law ?_)
    (State.touches_linkAfterLinkReset _) (by decide) (by decide)
  refine foldl_reaches (P := State.HeuLeaving) .heu (fun t leaving => ?_) (fun t b other leaving => ?_)
    (fun t b other left => ?_) s.blockOrder (complete.mem _) complete.nodup leaving
  · exact leaving.linkReset
  · exact ⟨(t.inRun_resetBlock b).trans leaving.1,
      (t.touches_resetBlock_own b .heu (Block.resetItems_heu other)).symm ▸ leaving.2⟩
  · exact ⟨(t.inRun_resetBlock b).trans left.1,
      (t.touches_resetBlock_own b .heu (Block.resetItems_heu other)).symm ▸ left.2⟩

/-! ### The commands -/

theorem State.heuLaw_status {s : State} (law : s.HeuLaw) (r : Req) (code : StatusCode) : (s.status r code).HeuLaw := law

theorem State.heuLaw_heuJudge {s : State} (law : s.HeuLaw) : s.heuJudge.HeuLaw := Heu.judge_law law s.now

/-- A cooldown without a restart. -/
theorem State.heuLaw_coolDown {s : State} (law : s.HeuLaw) : (s.putHeu (s.heu.coolDown s.now false)).HeuLaw :=
  by
  exact Heu.coolDown_law (restart := false) law nofun s.now

theorem State.heuLaw_changeInhibit {s : State} (law : s.HeuLaw) (flag : Bool) : (s.changeInhibit flag).HeuLaw := by
  have cleared : ({ s.heu with heater := { s.heu.heater with inhibit := false } } : Heu).Law s.inRun :=
    ⟨law.valve.of_eq ⟨rfl, rfl⟩, fun driven => ⟨(law.heater.driven driven).1, rfl⟩, law.heater.ignition,
      law.heater.cooldown, law.heater.released, fun restart => ⟨(law.heater.restart restart).1, rfl⟩, law.heater.attempts,
      law.heater.offAttempts, law.heater.runningAttempts⟩
  unfold State.changeInhibit
  split
  · exact law
  · split
    · exact State.heuLaw_putHeu (Heu.judgeAux_law (Heu.setInhibit_law law s.now) s.now)
    · exact State.heuLaw_putHeu (Heu.judgeAux_law cleared s.now)

section HeatLaw

variable {s t : State} (law : s.HeuLaw)
include law

theorem execRetain_heuLaw {b : Byte} (h : execRetain b s = .next t) : t.HeuLaw := by
  refine State.take_keeps h law fun s law => ?_
  split <;> exact law

theorem execSetState_heuLaw (complete : s.BlocksComplete) {b : Byte} (h : execSetState b s = .next t) : t.HeuLaw := by
  refine State.take_leaves h law ?_
  split
  · exact law
  · split
    · exact law
    · split
      · split
        · exact law
        · exact State.heuLaw_status (State.heuLaw_enterRun (s := s.strike _) law) _ _
      · exact State.heuLaw_status (State.heuLaw_leaveRun (s := s.strike _) law complete) _ _

theorem execLinkResetEffect_heuLaw (complete : s.BlocksComplete) (h : execLinkResetEffect s = .next t) : t.HeuLaw := by
  refine State.take_leaves h law ?_
  split
  · exact State.heuLaw_linkReset (s := s.strike _) law complete
  · exact law

theorem execInitEnd_heuLaw (h : execInitEnd s = .next t) : t.HeuLaw := by
  cases h
  split
  · next ready =>
    have outside : s.inRun = false := by simp_all [State.inInit, State.inRun]
    exact State.heuLaw_raise (s := { s with part := { s.part with state := .config } }) (show s.heu.Law false from outside ▸ law) _ _
  · exact law

theorem execHeatDemandChange_heuLaw {n : Nat} (h : execHeatDemandChange n s = .next t) : t.HeuLaw :=
  State.take_keeps h law fun _ law => State.heuLaw_heuJudge (Heu.Law.of_records law ⟨rfl, rfl⟩ rfl)

theorem execCltReport_heuLaw {st : Status} {v : Int} (h : execCltReport st v s = .next t) : t.HeuLaw :=
  State.take_keeps h law fun _ law => State.heuLaw_heuJudge (Heu.Law.of_records law ⟨rfl, rfl⟩ rfl)

theorem execAuxFlameChange_heuLaw {on : Bool} (h : execAuxFlameChange on s = .next t) : t.HeuLaw :=
  State.take_keeps h law fun _ law => State.heuLaw_flameEffect law on

theorem execValveHoldTimerExpiry_heuLaw (h : execValveHoldTimerExpiry s = .next t) : t.HeuLaw := by
  refine State.own_keeps h law fun s law => ?_
  split
  · next due running =>
    have opened := law.valve.held (by simp [running])
    refine State.heuLaw_putHeu ?_
    split
    · exact ⟨s.heu.closeValve_valveLaw _, law.heater⟩
    · exact ⟨⟨law.valve.opened, fun _ => opened⟩, law.heater⟩
  · exact law
  · exact law

theorem execIgnitionTimerExpiry_heuLaw (h : execIgnitionTimerExpiry s = .next t) : t.HeuLaw := by
  refine State.own_keeps h law fun s law => ?_
  split
  · exact law
  · exact State.heuLaw_raise (State.heuLaw_coolDown law) _ _

theorem execCooldownTimerExpiry_heuLaw (h : execCooldownTimerExpiry s = .next t) : t.HeuLaw := by
  refine State.own_keeps h law fun s law => ?_
  split
  · exact law
  · next due running =>
    have cooling := law.heater.cooldown.mp (by simp [running])
    have ended := State.heuLaw_putHeu (Heu.cooldownEnd_law law cooling s.now)
    dsimp only
    split
    · exact State.heuLaw_raise ended _ _
    · exact ended

theorem execCoolantReleaseExpiry_heuLaw (h : execCoolantReleaseExpiry s = .next t) : t.HeuLaw := by
  refine State.own_keeps h law fun s law => ?_
  split
  · exact law
  · exact State.heuLaw_coolDown law

theorem execDemandReleaseExpiry_heuLaw (h : execDemandReleaseExpiry s = .next t) : t.HeuLaw := by
  refine State.own_keeps h law fun s law => ?_
  split
  · exact law
  · exact State.heuLaw_coolDown law

theorem execSetHeat_heuLaw {h0 h1 h4 h5 h6 h7 : Half} {b2 b3 : Byte} (h : execSetHeat h0 h1 b2 b3 h4 h5 h6 h7 s = .next t) :
    t.HeuLaw := by
  refine State.take_keeps h law fun s law => ?_
  dsimp only
  split
  · exact law
  · refine State.heuLaw_status (State.heuLaw_heuJudge ?_) _ _
    exact Heu.Law.of_records law ⟨rfl, rfl⟩ rfl

theorem execAuxInhibit_heuLaw {b : Byte} (h : execAuxInhibit b s = .next t) : t.HeuLaw := by
  refine State.take_keeps h law fun s law => ?_
  split
  · exact law
  · exact State.heuLaw_status (State.heuLaw_changeInhibit law _) _ _

theorem execAuxClearLock_heuLaw (h : execAuxClearLock s = .next t) : t.HeuLaw := by
  refine State.take_keeps h law fun s law => ?_
  split
  · next locked =>
    obtain ⟨noCooldown, -⟩ := law.heater.cold (by simp [locked])
    obtain ⟨noCoolant, noDemand⟩ := law.heater.idle (by simp [locked])
    have noFlame : s.heu.heater.ignition.isSome = true ↔ HeaterState.off = .prestart := by
      simp [law.heater.ignition, locked]
    have cleared : ({ s.heu with heater := { s.heu.heater with state := .off, attempts := 0, restart := false } } :
        Heu).Law s.inRun := by
      refine ⟨law.valve.of_eq ⟨rfl, rfl⟩, ?_⟩
      constructor <;> simp [Heater.auxRun, noFlame, noCooldown, noCoolant, noDemand]
    exact State.heuLaw_status (State.heuLaw_putHeu (Heu.judgeAux_law cleared s.now)) _ _
  · exact law

end HeatLaw

theorem heuReset_law : heuReset.Law false := by
  refine ⟨⟨nofun, fun ne => absurd rfl ne⟩, ?_⟩
  constructor <;> decide

theorem exec_heuLaw (c : Instr) (s t : State) (complete : s.BlocksComplete) (law : s.HeuLaw) (h : exec c s = .next t) :
    t.HeuLaw := by
  have kept (heu : Command.leaves c .heu = true) (part : Command.leaves c .partState = true) : t.HeuLaw :=
    State.heuLaw_of_same law (exec_same h .heu heu) (exec_same h .partState part)
  cases c with
  | hardwareReset kind => cases h; exact heuReset_law
  | initEnd => exact execInitEnd_heuLaw law h
  | setState b => exact execSetState_heuLaw law complete h
  | linkResetEffect => exact execLinkResetEffect_heuLaw law complete h
  | retain b => exact execRetain_heuLaw law h
  | bind b0 b1 b2 b3 b4 => exact State.heuLaw_bindingKeeps.execBind law h
  | unbind b => exact State.heuLaw_bindingKeeps.execUnbind law h
  | heatDemandChange n => exact execHeatDemandChange_heuLaw law h
  | cltReport st v => exact execCltReport_heuLaw law h
  | auxFlameChange on => exact execAuxFlameChange_heuLaw law h
  | valveHoldTimerExpiry => exact execValveHoldTimerExpiry_heuLaw law h
  | ignitionTimerExpiry => exact execIgnitionTimerExpiry_heuLaw law h
  | cooldownTimerExpiry => exact execCooldownTimerExpiry_heuLaw law h
  | coolantReleaseExpiry => exact execCoolantReleaseExpiry_heuLaw law h
  | demandReleaseExpiry => exact execDemandReleaseExpiry_heuLaw law h
  | setHeat h0 h1 b2 b3 h4 h5 h6 h7 => exact execSetHeat_heuLaw law h
  | auxInhibit b => exact execAuxInhibit_heuLaw law h
  | auxClearLock => exact execAuxClearLock_heuLaw law h
  | _ => exact kept rfl rfl

end Sys2Proof.Machine

namespace Sys2Proof

open Sys2Proof.Machine

/-- Settles O7: HEU's judgements keep the law of its record for the part state as it is; leaving RUN brings the record to
the law outside RUN. -/
theorem stepKeepsTheHeatLaw : Obligations.StepKeepsTheHeatLaw := by
  intro s t complete law h
  refine t.heatLaw_iff.mpr ?_
  exact step_keeps_complete (P := State.HeuLaw) (fun _ _ law => law) (fun _ _ law => law) (fun c s t => exec_heuLaw c s t)
    complete (s.heatLaw_iff.mp law) h

end Sys2Proof

/-! The mover law: one mover, the loop and the filter watch under their operations, then every command. -/

namespace Sys2Proof.Machine

open State (Touches)

/-- What holds of every entry of a table after one entry is replaced. -/
theorem forall_getElem_set {α : Type} {n : Nat} {P : α → Prop} {v : Vector α n} (i : Fin n) {a : α} (ha : P a)
    (hv : ∀ j : Fin n, P v[j]) (j : Fin n) : P (v.set i a)[j] := by
  by_cases same : i = j
  · subst same
    simpa using ha
  · simpa [Vector.getElem_set_ne, Fin.val_ne_of_ne same] using hv j

/-- R123 to R128: one mover record; `run` says that the part is in RUN. -/
structure Mover.Law (r : Mover) (run : Bool) : Prop where
  idle : r.state ≠ .running → r.duty = 0
  live : r.state = .running ∨ r.state = .stalled → run = true
  stall : r.stall.isSome = true → r.state = .running
  restart : r.restart.isSome = true ↔ r.state = .stalled
  cleanRun : r.cleanRun.isSome = true → r.state = .running
  edge : r.edge.isSome = true ↔ r.lastEdge.isSome = true

/-- R131 to R133: the loop record. -/
structure Loop.Law (l : Loop) : Prop where
  ticks : l.update.isSome = true ↔ l.phase = .running
  lost : l.lost.isSome = true → l.phase = .running ∧ l.lostFlag = false

/-- R134: the filter watch. -/
def Filter.Law (f : Filter) : Prop := f.timer.isSome = true ↔ f.phase = .timing

/-! ### One mover -/

theorem Mover.Law.mono {r : Mover} {run : Bool} (law : r.Law run) : r.Law true := { law with live := fun _ => rfl }

theorem Mover.Law.noStall {r : Mover} {run : Bool} (law : r.Law run) (state : r.state ≠ .running) : r.stall = none := by
  cases stall : r.stall with
  | none => rfl
  | some due => exact absurd (law.stall (by simp [stall])) state

theorem Mover.Law.noCleanRun {r : Mover} {run : Bool} (law : r.Law run) (state : r.state ≠ .running) : r.cleanRun = none := by
  cases timer : r.cleanRun with
  | none => rfl
  | some due => exact absurd (law.cleanRun (by simp [timer])) state

theorem Mover.Law.noRestart {r : Mover} {run : Bool} (law : r.Law run) (state : r.state ≠ .stalled) : r.restart = none := by
  cases timer : r.restart with
  | none => rfl
  | some due => exact absurd (law.restart.mp (by simp [timer])) state

/-- A judgement of the stall condition starts its timer only at a RUNNING mover. -/
theorem Mover.judgeStall_law {r : Mover} {run : Bool} (law : r.Law run) (now : Time) (watched : Bool) :
    (r.judgeStall now watched).Law run where
  idle := law.idle
  live := law.live
  stall := by
    unfold Mover.judgeStall
    dsimp only
    split
    · next holds =>
      intro _
      simp only [Mover.stallHolds, Bool.and_eq_true, decide_eq_true_eq] at holds
      exact holds.1.1.2
    · nofun
  restart := law.restart
  cleanRun := law.cleanRun
  edge := law.edge

theorem Mover.measured_law {r : Mover} {run : Bool} (law : r.Law run) (now : Time) (watched : Bool) (speed : Nat) :
    (r.measured now watched speed).Law run := by
  unfold Mover.measured
  split
  · exact law
  · exact Mover.judgeStall_law (r := { r with speed := speed }) { law with } now watched

theorem Mover.updateOff_law {r : Mover} (law : r.Law true) (off : r.state = .off) (now : Time) :
    (r.updateOff now).Law true := by
  have restart := law.noRestart (by simp [off])
  unfold Mover.updateOff
  split
  · exact ⟨fun ne => absurd rfl ne, fun _ => rfl, fun _ => rfl, by simp [restart], fun _ => rfl, law.edge⟩
  · exact law

theorem Mover.updateRunning_law {r : Mover} (law : r.Law true) (running : r.state = .running) (now : Time)
    (watched : Bool) : (r.updateRunning now watched).Law true := by
  have restart := law.noRestart (by simp [running])
  unfold Mover.updateRunning
  dsimp only
  split
  · exact ⟨fun _ => rfl, fun _ => rfl, nofun, by simp [restart], nofun, law.edge⟩
  · apply Mover.judgeStall_law
    exact ⟨fun ne => absurd running ne, law.live, law.stall, law.restart, law.cleanRun, law.edge⟩

theorem Mover.step_law {r : Mover} (law : r.Law true) (now : Time) (watched : Bool) : (r.step now watched).Law true := by
  have restarted : ({ r with update := some (inMs now 100) } : Mover).Law true := { law with }
  unfold Mover.step
  dsimp only
  split
  · next off => exact Mover.updateOff_law restarted off now
  · next running => exact Mover.updateRunning_law restarted running now watched
  · exact ⟨fun _ => rfl, law.live, law.stall, law.restart, law.cleanRun, law.edge⟩
  · exact ⟨fun _ => rfl, law.live, law.stall, law.restart, law.cleanRun, law.edge⟩

theorem Mover.judgeStall_update (r : Mover) (now : Time) (watched : Bool) : (r.judgeStall now watched).update = r.update := rfl

theorem Mover.measured_update (r : Mover) (now : Time) (watched : Bool) (speed : Nat) :
    (r.measured now watched speed).update = r.update := by
  unfold Mover.measured
  split <;> rfl

/-- R123: an update starts the update timer again. -/
theorem Mover.step_update (r : Mover) (now : Time) (watched : Bool) : (r.step now watched).update = some (inMs now 100) := by
  unfold Mover.step Mover.updateOff Mover.updateRunning
  dsimp only
  split <;> (try split) <;> rfl

/-- R140: a mover that has left RUN. -/
theorem Mover.leave_law {r : Mover} {run : Bool} (law : r.Law run) : r.leave.Law false := by
  unfold Mover.leave
  dsimp only
  split
  · exact ⟨fun _ => rfl, nofun, nofun, by simp, nofun, law.edge⟩
  · exact ⟨fun _ => rfl, nofun, nofun, by simp, nofun, law.edge⟩
  · next off => exact ⟨fun _ => rfl, by simp [off], law.stall, law.restart, law.cleanRun, law.edge⟩
  · next failed => exact ⟨fun _ => rfl, by simp [failed], law.stall, law.restart, law.cleanRun, law.edge⟩

theorem Mover.leave_update (r : Mover) : r.leave.update = none := by
  unfold Mover.leave
  dsimp only
  split <;> rfl

/-! ### The loop and the filter watch -/

/-- R131: a judgement of the phase leaves the phase judged. -/
theorem Loop.enter_law {l : Loop} (law : l.Law) (now : Time) (press : Nat) (p : LoopPhase) :
    (l.enter now press p).Law ∧ (l.enter now press p).phase = p := by
  have noLost (other : l.phase ≠ .running) : l.lost.isSome = false := by
    cases lost : l.lost.isSome with
    | false => rfl
    | true => exact absurd (law.lost lost).1 other
  unfold Loop.enter
  split
  · next at_ => exact ⟨law, at_⟩
  · next at_ => exact ⟨law, at_⟩
  · next at_ => exact ⟨law, at_⟩
  · next q _ _ _ _ =>
    refine ⟨⟨?_, nofun⟩, rfl⟩
    cases q <;> simp [LoopPhase.timer]
  · next was => exact ⟨⟨by simp [LoopPhase.timer], by simp [noLost, was]⟩, rfl⟩
  · exact ⟨⟨by simp, nofun⟩, rfl⟩
  · exact ⟨⟨by simp, nofun⟩, rfl⟩

theorem Loop.judgeLost_law {l : Loop} (law : l.Law) (now : Time) (c : PressureSettings) (cpd : Status × Int) :
    (l.judgeLost now c cpd).Law := by
  refine ⟨law.ticks, ?_⟩
  unfold Loop.judgeLost
  dsimp only
  split
  · next holds =>
    intro _
    simp only [Loop.lostHolds, Bool.and_eq_true, decide_eq_true_eq, Bool.not_eq_true'] at holds
    exact holds.1.1.1
  · nofun

theorem Loop.step_phase (l : Loop) (now : Time) (c : PressureSettings) (cpd : Status × Int) :
    (l.step now c cpd).phase = l.phase := by
  unfold Loop.step
  dsimp only
  split <;> rfl

theorem Loop.step_law {l : Loop} (law : l.Law) (runs : l.update.isSome = true) (now : Time) (c : PressureSettings)
    (cpd : Status × Int) : (l.step now c cpd).Law := by
  have running := law.ticks.mp runs
  unfold Loop.step
  dsimp only
  split
  · exact ⟨by simp [running], law.lost⟩
  · exact ⟨by simp [running], law.lost⟩

theorem Filter.take_law {f : Filter} (law : f.Law) (now : Time) (limit : Nat) (st : Status) (v : Int) :
    (f.take now limit st v).Law := by
  unfold Filter.take
  dsimp only
  split
  · split
    · simp [Filter.Law]
    · exact law
  · split
    · exact law
    · simp [Filter.Law]
  · split
    · simp [Filter.Law]
    · exact law

/-! ### The law of the part -/

/-- The records under their laws; `run` says that the part is in RUN. -/
structure Mov.Law (v : Mov) (run : Bool) : Prop where
  movers : ∀ m : MoverIx, v.movers[m].Law run
  loop : v.loop.Law
  filter : v.filter.Law

/-- The update timers and the phase stand as the part state and the picture have them. -/
structure Mov.Tuned (v : Mov) (run : Bool) : Prop where
  update : ∀ m : MoverIx, v.movers[m].update.isSome = run
  phase : v.loop.phase = phaseOf run v.picture

/-- The mover law over MOV's record. -/
def State.MovLaw (s : State) : Prop := s.mov.Law s.inRun ∧ s.mov.Tuned s.inRun

theorem State.moverLaw_iff (s : State) : s.MoverLaw ↔ s.MovLaw := by
  simp only [State.MoverLaw, ← s.inRun_iff]
  constructor
  · rintro ⟨movers, phase, ticks, lost, filter⟩
    refine ⟨⟨fun m => ?_, ⟨ticks, lost⟩, filter⟩, fun m => ?_, phase⟩
    · obtain ⟨idle, live, stall, restart, cleanRun, edge, -⟩ := movers m
      exact ⟨idle, live, stall, restart, cleanRun, edge⟩
    · obtain ⟨-, -, -, -, -, -, update⟩ := movers m
      exact Bool.eq_iff_iff.mpr update
  · rintro ⟨⟨movers, ⟨ticks, lost⟩, filter⟩, update, phase⟩
    refine ⟨fun m => ?_, phase, ticks, lost, filter⟩
    obtain ⟨idle, live, stall, restart, cleanRun, edge⟩ := movers m
    exact ⟨idle, live, stall, restart, cleanRun, edge, Bool.eq_iff_iff.mp (update m)⟩

theorem State.movLaw_of_same {s t : State} (law : s.MovLaw) (mov : s.Same t .mov) (part : s.Same t .partState) :
    t.MovLaw := by
  have run := State.inRun_of_same part
  simp only [State.Same] at mov
  simpa only [State.MovLaw, run, mov] using law

theorem State.movLaw_of_touches {l : List Item} {s t : State} (law : s.MovLaw) (touched : Touches l s t)
    (mov : Item.mov ∉ l) (part : Item.partState ∉ l) : t.MovLaw :=
  State.movLaw_of_same law (touched .mov mov) (touched .partState part)

theorem State.movLaw_raise {s : State} (law : s.MovLaw) (i : SourceIx) (d : Nat) : (s.raise i d).MovLaw :=
  State.movLaw_of_touches law (s.touches_raise i d) (by decide) (by decide)

theorem State.movLaw_status {s : State} (law : s.MovLaw) (r : Req) (code : StatusCode) : (s.status r code).MovLaw := law

/-- One mover replaced by a lawful record whose update timer runs as before. -/
theorem State.movLaw_putMover {s : State} (law : s.MovLaw) (m : MoverIx) {r : Mover} (mover : r.Law s.inRun)
    (update : r.update.isSome = (s.mover m).update.isSome) : (s.putMover m r).MovLaw := by
  obtain ⟨⟨movers, loop, filter⟩, ticks, phase⟩ := law
  exact ⟨⟨forall_getElem_set (P := fun q : Mover => q.Law s.inRun) m mover movers, loop, filter⟩,
    forall_getElem_set (P := fun q : Mover => q.update.isSome = s.inRun) m (update.trans (ticks m)) ticks, phase⟩

theorem State.MovLaw.mover {s : State} (law : s.MovLaw) (m : MoverIx) : (s.mover m).Law s.inRun := law.1.movers m

theorem State.movLaw_setDemand {s : State} (law : s.MovLaw) (m : MoverIx) (n : Nat) : (s.setDemand m n).MovLaw :=
  State.movLaw_putMover law m { law.mover m with } rfl

theorem State.movLaw_formDemands {s : State} (law : s.MovLaw) : s.formDemands.MovLaw :=
  State.movLaw_setDemand (State.movLaw_setDemand (State.movLaw_setDemand law _ _) _ _) _ _

/-- R131: the phase is judged after a change of the picture. -/
theorem State.movLaw_judgePhase {s : State} (law : s.mov.Law s.inRun)
    (update : ∀ m : MoverIx, s.mov.movers[m].update.isSome = s.inRun) : s.judgePhase.MovLaw := by
  obtain ⟨entered, phase⟩ := Loop.enter_law law.loop s.now s.adm.settings.pressFraction (phaseOf s.inRun s.mov.picture)
  exact ⟨⟨law.movers, entered, law.filter⟩, update, phase⟩

theorem State.movLaw_tachEffect {s : State} (law : s.MovLaw) (m : MoverIx) : (s.tachEffect m).MovLaw := by
  unfold State.tachEffect
  split
  · refine State.movLaw_of_touches (State.movLaw_putMover law m ?_ ?_) (State.touches_spendFree _ _) (by decide) (by decide)
    · have measured := Mover.measured_law (law.mover m) s.now (s.stallWatched m)
      exact { measured _ with edge := by simp [Mover.edgeTaken] }
    · exact congrArg Option.isSome (Mover.measured_update _ _ _ _)
  · exact law

theorem State.movLaw_tachStart {s : State} (law : s.MovLaw) (m : MoverIx) : (s.tachStart m).MovLaw :=
  State.movLaw_putMover law m { law.mover m with edge := by simp [Mover.unmeasured] } rfl

theorem State.movLaw_levelEffect {s : State} (f : Func) (on : Bool) (law : s.MovLaw) : (s.levelEffect f on).MovLaw := by
  cases f with
  | home d => exact State.movLaw_of_touches law (s.touches_homeEffect d on) (by decide) (by decide)
  | door d => exact State.movLaw_of_touches law (s.touches_doorEffect d on) (by decide) (by decide)
  | laneFlt l => exact State.movLaw_of_touches law (s.touches_laneFltEffect l on) (by decide) (by decide)
  | sealReq => exact State.movLaw_of_touches law (s.touches_sealEffect on) (by decide) (by decide)
  | auxFlame => exact State.movLaw_of_touches law (s.touches_flameEffect on) (by decide) (by decide)
  | tach m => exact State.movLaw_tachEffect law m
  | _ => exact law

theorem State.movLaw_bindingKeeps : State.BindingKeeps State.MovLaw where
  frame touched law := State.movLaw_of_touches law touched (by decide) (by decide)
  level _ f on law := State.movLaw_levelEffect f on law
  bind s f law := by
    cases f with
    | tach m => exact State.movLaw_tachStart law m
    | sc ch => exact State.movLaw_of_touches law (s.touches_bindChannel ch) (by decide) (by decide)
    | home d | sel d | step l | dir l =>
      exact State.movLaw_of_touches (l := driveItems) law
        (.ite (fun _ => s.touches_drive _) fun _ => .refl _ _) (by decide) (by decide)
    | _ => exact law
  unbind s f law := by
    cases f with
    | tach m => exact State.movLaw_tachStart law m
    | sc ch => exact State.movLaw_of_touches law (s.touches_unbindChannel ch) (by decide) (by decide)
    | home d | sel d | step l | dir l =>
      exact State.movLaw_of_touches (l := driveItems) law
        (.ite (fun _ => s.touches_drive _) fun _ => .refl _ _) (by decide) (by decide)
    | _ => exact law
  tach _ m law := State.movLaw_tachStart law m

/-! ### The part-wide events -/

theorem Block.runItems_mov {b : Block} (other : b ≠ .mov) : Item.mov ∉ b.runItems := by
  revert other; cases b <;> decide

theorem Block.resetItems_mov {b : Block} (other : b ≠ .mov) : Item.mov ∉ b.resetItems := by
  revert other; cases b <;> decide

theorem Mov.Law.mono {v : Mov} {run : Bool} (law : v.Law run) : v.Law true :=
  { law with movers := fun m => (law.movers m).mono }

/-- What MOV meets at entry to RUN. -/
def State.MovEntering (s : State) : Prop := s.inRun = true ∧ s.mov.Law true

theorem State.MovEntering.enter {s : State} (entering : s.MovEntering) : s.movEnterRun.MovLaw := by
  obtain ⟨run, movers, loop, filter⟩ := entering
  refine State.movLaw_formDemands (State.movLaw_judgePhase ⟨fun m => ?_, loop, filter⟩ fun m => ?_)
  · simp only [Fin.getElem_fin, tableMap_getElem]
    exact { movers m with live := fun _ => run }
  · simp only [Fin.getElem_fin, tableMap_getElem]
    exact run.symm

theorem State.movLaw_enterRun {s : State} (law : s.MovLaw) (complete : s.BlocksComplete) : s.enterRun.MovLaw := by
  have entering : (s.setPart .run).MovEntering := ⟨rfl, law.1.mono⟩
  refine foldl_reaches (P := State.MovEntering) .mov (fun t entering => ?_) (fun t b other entering => ?_)
    (fun t b other law => ?_) s.blockOrder (complete.mem _) complete.nodup entering
  · exact entering.enter
  · exact ⟨(t.inRun_enterBlock b).trans entering.1,
      (t.touches_enterBlock_own b .mov (Block.runItems_mov other)).symm ▸ entering.2⟩
  · exact State.movLaw_of_touches law (t.touches_enterBlock_own b) (Block.runItems_mov other) b.runItems_partState

/-- What MOV meets where the part has left RUN and MOV has not. -/
def State.MovLeaving (s : State) : Prop := s.inRun = false ∧ s.mov.Law true

/-- What MOV leaves outside RUN. -/
def State.MovLeft (s : State) : Prop := s.inRun = false ∧ s.mov.Law false ∧ s.mov.Tuned false

theorem State.MovLeft.law {s : State} (left : s.MovLeft) : s.MovLaw := by
  obtain ⟨outside, law, tuned⟩ := left
  rw [State.MovLaw, outside]
  exact ⟨law, tuned⟩

theorem Loop.leave_law (l : Loop) : l.leave.Law := ⟨by simp [Loop.leave], nofun⟩

theorem State.MovLeaving.leave {s : State} (leaving : s.MovLeaving) : s.movLeaveRun.MovLeft := by
  obtain ⟨outside, movers, -, filter⟩ := leaving
  refine ⟨outside, ⟨fun m => ?_, s.mov.loop.leave_law, filter⟩, fun m => ?_, rfl⟩
  · simp only [State.movLeaveRun, Fin.getElem_fin, tableMap_getElem]
    exact Mover.leave_law (movers m)
  · simp only [State.movLeaveRun, Fin.getElem_fin, tableMap_getElem, Mover.leave_update]
    rfl

theorem State.MovLeaving.linkReset {s : State} (leaving : s.MovLeaving) : s.movLinkReset.MovLeft := by
  have left := leaving.leave
  unfold State.movLinkReset
  dsimp only
  split
  · exact left
  · obtain ⟨outside, ⟨movers, loop, filter⟩, update, phase⟩ := left
    refine ⟨outside, ⟨fun m => ?_, loop, filter⟩, fun m => ?_, phase⟩
    · simp only [Fin.getElem_fin, tableMap_getElem]
      exact { movers m with }
    · simp only [Fin.getElem_fin, tableMap_getElem]
      exact update m

theorem State.movLaw_leaveRun {s : State} (law : s.MovLaw) (complete : s.BlocksComplete) : s.leaveRun.MovLaw := by
  have leaving : (s.setPart .config).MovLeaving := ⟨rfl, law.1.mono⟩
  refine State.MovLeft.law (foldl_reaches (P := State.MovLeaving) .mov (fun t leaving => ?_) (fun t b other leaving => ?_)
    (fun t b other left => ?_) s.blockOrder (complete.mem _) complete.nodup leaving)
  · exact leaving.leave
  · exact ⟨(t.inRun_leaveBlock b).trans leaving.1,
      (t.touches_leaveBlock_own b .mov (Block.runItems_mov other)).symm ▸ leaving.2⟩
  · exact ⟨(t.inRun_leaveBlock b).trans left.1,
      (t.touches_leaveBlock_own b .mov (Block.runItems_mov other)).symm ▸ left.2⟩

theorem State.movLaw_linkReset {s : State} (law : s.MovLaw) (complete : s.BlocksComplete) : s.linkReset.MovLaw := by
  have leaving : State.MovLeaving { s with part := { s.part with state := .config, cause := .linkReset } } :=
    ⟨rfl, law.1.mono⟩
  refine State.movLaw_of_touches (s := s.blockOrder.foldl State.resetBlock _) (State.MovLeft.law ?_)
    (State.touches_linkAfterLinkReset _) (by decide) (by decide)
  refine foldl_reaches (P := State.MovLeaving) .mov (fun t leaving => ?_) (fun t b other leaving => ?_)
    (fun t b other left => ?_) s.blockOrder (complete.mem _) complete.nodup leaving
  · exact leaving.linkReset
  · exact ⟨(t.inRun_resetBlock b).trans leaving.1,
      (t.touches_resetBlock_own b .mov (Block.resetItems_mov other)).symm ▸ leaving.2⟩
  · exact ⟨(t.inRun_resetBlock b).trans left.1,
      (t.touches_resetBlock_own b .mov (Block.resetItems_mov other)).symm ▸ left.2⟩

/-! ### The commands -/

/-- Outside RUN the law stands from INIT to CONFIG. -/
theorem execInitEnd_inRun {s t : State} (h : execInitEnd s = .next t) : t.inRun = s.inRun := by
  cases h
  split
  · next ready =>
    have outside : s.inRun = false := by simp_all [State.inInit, State.inRun]
    rw [outside]
    exact State.inRun_of_same (State.touches_raise { s with part := { s.part with state := .config } } _ _ .partState (by decide))
  · rfl

/-- R127: a STALLED mover runs again or fails. -/
theorem State.movLaw_restartMover {s : State} (law : s.MovLaw) {m : MoverIx} (stalled : (s.mover m).state = .stalled) :
    (s.restartMover m).MovLaw := by
  have mover := law.mover m
  have run := mover.live (.inr stalled)
  have noStall := mover.noStall (by rw [stalled]; nofun)
  have noCleanRun := mover.noCleanRun (by rw [stalled]; nofun)
  unfold State.restartMover
  dsimp only
  split
  · refine State.movLaw_raise ?_ _ _
    refine State.movLaw_putMover law m ?_ rfl
    exact ⟨fun _ => rfl, by simp, by rw [noStall]; nofun, by simp, by rw [noCleanRun]; nofun, mover.edge⟩
  · refine State.movLaw_putMover law m ?_ rfl
    exact ⟨fun _ => rfl, fun _ => run, nofun, by simp, fun _ => rfl, mover.edge⟩

/-- The loop replaced by a lawful record in the same phase. -/
theorem State.movLaw_putLoop {s : State} (law : s.MovLaw) {l : Loop} (loop : l.Law) (phase : l.phase = s.mov.loop.phase) :
    (s.putLoop l).MovLaw := ⟨{ law.1 with loop := loop }, law.2.update, phase.trans law.2.phase⟩

section MoverLaw

variable {s t : State} (law : s.MovLaw)
include law

theorem execInitEnd_movLaw (h : execInitEnd s = .next t) : t.MovLaw := by
  have run := execInitEnd_inRun h
  have mov : t.mov = s.mov := execInitEnd_touches s t h .mov (by decide)
  rw [State.MovLaw, run, mov]
  exact law

theorem execRetain_movLaw {b : Byte} (h : execRetain b s = .next t) : t.MovLaw := by
  refine State.take_keeps h law fun s law => ?_
  split <;> exact law

theorem execSetState_movLaw (complete : s.BlocksComplete) {b : Byte} (h : execSetState b s = .next t) : t.MovLaw := by
  refine State.take_leaves h law ?_
  split
  · exact law
  · split
    · exact law
    · split
      · split
        · exact law
        · exact State.movLaw_status (State.movLaw_enterRun (s := s.strike _) law complete) _ _
      · exact State.movLaw_status (State.movLaw_leaveRun (s := s.strike _) law complete) _ _

theorem execLinkResetEffect_movLaw (complete : s.BlocksComplete) (h : execLinkResetEffect s = .next t) : t.MovLaw := by
  refine State.take_leaves h law ?_
  split
  · exact State.movLaw_linkReset (s := s.strike _) law complete
  · exact law

theorem execMoverUpdate_movLaw {m : MoverIx} (h : execMoverUpdate m s = .next t) : t.MovLaw := by
  refine State.own_keeps h law fun s law => ?_
  split
  · exact law
  · next due runs =>
    have ticks : (s.mover m).update.isSome = s.inRun := law.2.update m
    have run : s.inRun = true := by rw [← ticks, runs]; rfl
    refine State.movLaw_putMover law m ?_ (by rw [Mover.step_update, runs]; rfl)
    rw [run]
    exact Mover.step_law (law.mover m).mono s.now _

theorem execTachEdge_movLaw {m : MoverIx} (h : execTachEdge m s = .next t) : t.MovLaw :=
  State.take_keeps h law fun _ law => State.movLaw_tachEffect law m

theorem execEdgeTimerExpiry_movLaw {m : MoverIx} (h : execEdgeTimerExpiry m s = .next t) : t.MovLaw := by
  refine State.own_keeps h law fun s law => ?_
  dsimp only
  split
  · exact law
  · refine State.movLaw_putMover law m ?_ (congrArg Option.isSome (Mover.measured_update _ _ _ _))
    exact { Mover.measured_law (law.mover m) s.now (s.stallWatched m) 0 with edge := by simp }

theorem execStallTimerExpiry_movLaw {m : MoverIx} (h : execStallTimerExpiry m s = .next t) : t.MovLaw := by
  refine State.own_keeps h law fun s law => ?_
  dsimp only
  split
  · exact law
  · next due runs =>
    have mover := law.mover m
    have run := mover.live (.inl (mover.stall (by rw [runs]; rfl)))
    exact State.movLaw_putMover law m ⟨fun _ => rfl, fun _ => run, nofun, by simp, nofun, mover.edge⟩ rfl

theorem execRestartTimerExpiry_movLaw {m : MoverIx} (h : execRestartTimerExpiry m s = .next t) : t.MovLaw := by
  refine State.own_keeps h law fun s law => ?_
  split
  · exact law
  · next due runs => exact State.movLaw_restartMover law ((law.mover m).restart.mp (by rw [runs]; rfl))

theorem execCleanRunTimerExpiry_movLaw {m : MoverIx} (h : execCleanRunTimerExpiry m s = .next t) : t.MovLaw := by
  refine State.own_keeps h law fun s law => ?_
  split
  · exact law
  · exact State.movLaw_putMover law m { law.mover m with cleanRun := nofun } rfl

theorem execGroupDemandChange_movLaw {g : Group} {n : Nat} (h : execGroupDemandChange g n s = .next t) : t.MovLaw := by
  refine State.take_keeps h law fun s law => ?_
  cases g with
  | front | rear =>
    refine State.movLaw_setDemand ?_ _ _
    exact ⟨{ law.1 with }, { law.2 with }⟩

theorem execAdmissionReport_movLaw {p : Picture} (h : execAdmissionReport p s = .next t) : t.MovLaw := by
  refine State.take_keeps h law fun s law => ?_
  exact State.movLaw_formDemands (State.movLaw_judgePhase (s := { s with mov := { s.mov with picture := p } })
    { law.1 with } law.2.update)

theorem execLoopUpdate_movLaw (h : execLoopUpdate s = .next t) : t.MovLaw := by
  refine State.own_keeps h law fun s law => ?_
  dsimp only
  split
  · exact law
  · next due runs =>
    refine State.movLaw_setDemand (State.movLaw_putLoop law (Loop.judgeLost_law (Loop.step_law law.1.loop ?_ _ _ _) _ _ _)
      (Loop.step_phase _ _ _ _)) _ _
    simp [runs]

theorem execCpdReport_movLaw {st : Status} {v : Int} (h : execCpdReport st v s = .next t) : t.MovLaw := by
  refine State.take_keeps h law fun s law => ?_
  exact ⟨{ law.1 with loop := Loop.judgeLost_law law.1.loop _ _ _ }, law.2.update, law.2.phase⟩

theorem execPressureLostExpiry_movLaw (h : execPressureLostExpiry s = .next t) : t.MovLaw := by
  refine State.own_keeps h law fun s law => ?_
  split
  · exact law
  · refine State.movLaw_raise ?_ _ _
    exact State.movLaw_putLoop law ⟨law.1.loop.ticks, nofun⟩ rfl

theorem execFpdReport_movLaw {st : Status} {v : Int} (h : execFpdReport st v s = .next t) : t.MovLaw := by
  refine State.take_keeps h law fun s law => ?_
  exact ⟨{ law.1 with filter := Filter.take_law law.1.filter _ _ _ _ }, law.2.update, law.2.phase⟩

theorem execFilterTimerExpiry_movLaw (h : execFilterTimerExpiry s = .next t) : t.MovLaw := by
  refine State.own_keeps h law fun s law => ?_
  split
  · exact law
  · refine State.movLaw_raise (s := { s with mov := { s.mov with filter := ⟨.raised, none⟩ } }) ?_ _ _
    exact ⟨{ law.1 with filter := by simp [Filter.Law] }, law.2.update, law.2.phase⟩

theorem execSetMover_movLaw {b0 b1 b4 b6 : Byte} {h2 h3 h5 : Half} (h : execSetMover b0 b1 h2 h3 b4 h5 b6 s = .next t) :
    t.MovLaw := by
  refine State.take_keeps h law fun s law => ?_
  split
  · exact law
  · next m _ =>
    refine State.movLaw_status ?_ _ _
    exact State.movLaw_putMover law m { law.mover m with } rfl

theorem execSetPressure_movLaw {h0 h3 : Half} {b1 b2 : Byte} (h : execSetPressure h0 b1 b2 h3 s = .next t) : t.MovLaw := by
  refine State.take_keeps h law fun s law => ?_
  refine State.movLaw_status (State.movLaw_setDemand ?_ _ _) _ _
  exact ⟨{ law.1 with }, { law.2 with }⟩

theorem execMoverRestart_movLaw {b : Byte} (h : execMoverRestart b s = .next t) : t.MovLaw := by
  refine State.take_keeps h law fun s law => ?_
  split
  · exact law
  · next m _ =>
    dsimp only
    split
    · refine State.movLaw_status ?_ _ _
      refine State.movLaw_putMover law m ?_ rfl
      exact ⟨fun _ => rfl, by simp, nofun, by simp, nofun, (law.mover m).edge⟩
    · exact law

end MoverLaw

theorem movReset_law : movReset.Law false ∧ movReset.Tuned false := by
  refine ⟨⟨fun m => ?_, ⟨by decide, by decide⟩, ?_⟩, ⟨by decide, rfl⟩⟩
  · constructor <;> revert m <;> decide
  · unfold Filter.Law
    decide

theorem exec_movLaw (c : Instr) (s t : State) (complete : s.BlocksComplete) (law : s.MovLaw) (h : exec c s = .next t) :
    t.MovLaw := by
  have kept (mov : Command.leaves c .mov = true) (part : Command.leaves c .partState = true) : t.MovLaw :=
    State.movLaw_of_same law (exec_same h .mov mov) (exec_same h .partState part)
  cases c with
  | hardwareReset kind => cases h; exact movReset_law
  | initEnd => exact execInitEnd_movLaw law h
  | setState b => exact execSetState_movLaw law complete h
  | linkResetEffect => exact execLinkResetEffect_movLaw law complete h
  | retain b => exact execRetain_movLaw law h
  | bind b0 b1 b2 b3 b4 => exact State.movLaw_bindingKeeps.execBind law h
  | unbind b => exact State.movLaw_bindingKeeps.execUnbind law h
  | moverUpdate m => exact execMoverUpdate_movLaw law h
  | tachEdge m => exact execTachEdge_movLaw law h
  | edgeTimerExpiry m => exact execEdgeTimerExpiry_movLaw law h
  | stallTimerExpiry m => exact execStallTimerExpiry_movLaw law h
  | restartTimerExpiry m => exact execRestartTimerExpiry_movLaw law h
  | cleanRunTimerExpiry m => exact execCleanRunTimerExpiry_movLaw law h
  | groupDemandChange g n => exact execGroupDemandChange_movLaw law h
  | admissionReport p => exact execAdmissionReport_movLaw law h
  | loopUpdate => exact execLoopUpdate_movLaw law h
  | cpdReport st v => exact execCpdReport_movLaw law h
  | pressureLostExpiry => exact execPressureLostExpiry_movLaw law h
  | fpdReport st v => exact execFpdReport_movLaw law h
  | filterTimerExpiry => exact execFilterTimerExpiry_movLaw law h
  | setMover b0 b1 h2 h3 b4 h5 b6 => exact execSetMover_movLaw law h
  | setPressure h0 b1 b2 h3 => exact execSetPressure_movLaw law h
  | moverRestart b => exact execMoverRestart_movLaw law h
  | _ => exact kept rfl rfl

end Sys2Proof.Machine

namespace Sys2Proof

open Sys2Proof.Machine

/-- Settles O8: each operation of MOV keeps the laws of its records, and a phase is judged wherever the picture or the part
state changes. -/
theorem stepKeepsTheMoverLaw : Obligations.StepKeepsTheMoverLaw := by
  intro s t complete law h
  refine t.moverLaw_iff.mpr ?_
  exact step_keeps_complete (P := State.MovLaw) (fun _ _ law => law) (fun _ _ law => law) (fun c s t => exec_movLaw c s t)
    complete (s.moverLaw_iff.mp law) h

end Sys2Proof

/-! The zone law: what an update computes, what the operations of ZON leave of its record, then every command. -/

namespace Sys2Proof.Machine

open State (Touches)

/-! ### What the operations leave of ZON's record -/

theorem State.raiseHold_zon (s : State) (z : ZoneIx) (m : ZoneMode) (st : Status) : (s.raiseHold z m st).zon = s.zon := by
  unfold State.raiseHold
  split <;> rfl

theorem State.order_zon (s : State) (d : DamperIx) (n : Nat) (k : OrderClass) (src : OrderSource) :
    (s.order d n k src).zon = s.zon := s.touches_order d n k src .zon (by decide)

/-- R78: the blend target is the ordered one. -/
theorem State.orderBlend_zon (s : State) (z : ZoneIx) :
    (s.orderBlend z).zon =
      { s.zon with zones := s.zon.zones.set z { s.zon.zones[z] with ordered := some s.zon.zones[z].blend } } := by
  unfold State.orderBlend
  dsimp only
  split
  · next ordered =>
    have same : ({ s.zone z with ordered := some (s.zone z).blend } : Zone) = s.zone z := by rw [← ordered]
    simp only [State.zone_eq] at same
    simp only [Fin.getElem_fin] at same ⊢
    rw [same, Vector.set_getElem_self]
  · exact State.order_zon _ _ _ _ _

/-- R74 to R78: a zone's record after its update and the blend order. -/
def State.updatedZone (s : State) (z : ZoneIx) (r : Zone) : Zone :=
  let new := r.step s.zon.tuning (s.zoneInputs z)
  { new with update := some (inMs s.now 1000), ordered := some new.blend }

theorem State.stepZone_zon (s : State) (z : ZoneIx) :
    (s.stepZone z).zon = { s.zon with zones := s.zon.zones.set z (s.updatedZone z s.zon.zones[z]) } := by
  unfold State.stepZone
  simp only [State.orderBlend_zon, State.raiseHold_zon, State.putZone_zon]
  simp [State.updatedZone]

/-- R84, R87: an enabled zone starts as if from ACTIVE, with nothing ordered. -/
theorem State.startZone_zon (s : State) (z : ZoneIx) :
    (s.startZone z).zon =
      { s.zon with
        zones := s.zon.zones.set z
          (s.updatedZone z { s.zon.zones[z] with mode := .active, ordered := none, breathing := false }) } := by
  unfold State.startZone
  rw [State.stepZone_zon]
  simp [State.updatedZone, State.zoneInputs, State.channelView, State.channelStatus, State.channel, State.putZone]

theorem State.setOutputs_zon (s : State) (o : ZonOutputs) : (s.setOutputs o).zon = { s.zon with out := o } := rfl

theorem State.orderDefrost_zon (s : State) :
    s.orderDefrost.zon = { s.zon with orderedDefrost := some (defrostPercent s.zon.defrost) } := State.order_zon _ _ _ _ _

theorem State.stopZone_zon (s : State) (z : ZoneIx) :
    (s.stopZone z).zon =
      { s.zon with
        zones := s.zon.zones.set z { s.zon.zones[z] with
          update := none, mode := .off, integral := 0, error := 0, demand := 0, blend := 0, breathing := false
          ordered := some 0, fresh := 0, blower := 0 } } := State.order_zon _ _ _ _ _

/-! ### One zone -/

/-- R72, R74 to R80: the ranges of a zone record. -/
structure Zone.Ranged (z : Zone) : Prop where
  error : -200 ≤ z.error ∧ z.error ≤ 200
  integral : -50 ≤ z.integral ∧ z.integral ≤ 50
  demand : -100 ≤ z.demand ∧ z.demand ≤ 100
  blend : z.blend ≤ 100
  fresh : z.fresh ≤ 100
  blower : z.blower ≤ 100
  occupancy : z.occupancy ≤ 4
  setpoint : 100 ≤ z.setpoint ∧ z.setpoint ≤ 320

/-- R72, R73: a zone is OFF exactly while it is disabled or the part is not in RUN, and updates exactly while not OFF. -/
structure Zone.Phased (z : Zone) (run : Bool) : Prop where
  off : z.mode = .off ↔ ¬ (run = true ∧ z.enabled = true)
  update : z.update.isSome = true ↔ z.mode ≠ .off

/-- The law of one zone; `run` says that the part is in RUN. -/
structure Zone.Law (z : Zone) (run : Bool) : Prop where
  ranged : z.Ranged
  phased : z.Phased run

theorem clampInt_range {lo hi : Int} (h : lo ≤ hi) (x : Int) : lo ≤ clampInt lo hi x ∧ clampInt lo hi x ≤ hi := by
  unfold clampInt
  omega

theorem clampNat_range {lo hi : Nat} (h : lo ≤ hi) (x : Nat) : lo ≤ clampNat lo hi x ∧ clampNat lo hi x ≤ hi := by
  unfold clampNat
  omega

theorem blendOf_le {d : Int} (h : d ≤ 100) : blendOf d ≤ 100 := by
  unfold blendOf
  omega

theorem Zone.control_ranged {z : Zone} (law : z.Ranged) {c : Tuning} (floor : c.minBlower ≤ 100) (i : ZoneInputs) :
    (z.control c i).Ranged := by
  have integral : -50 ≤ z.nextIntegral c i (zoneError z.setpoint i.temperature.2) ∧
      z.nextIntegral c i (zoneError z.setpoint i.temperature.2) ≤ 50 := by
    unfold Zone.nextIntegral
    split
    · exact law.integral
    · exact clampInt_range (by decide) _
  have demand : -100 ≤ (z.control c i).demand ∧ (z.control c i).demand ≤ 100 := clampInt_range (by decide) _
  have blend : (z.control c i).blend ≤ 100 := by
    show (if _ then _ else _) ≤ 100
    split
    · exact (min_le_left _ _).trans (blendOf_le demand.2)
    · exact blendOf_le demand.2
  have blower : (z.control c i).blower ≤ 100 := by
    show max _ (z.control c i).demand.natAbs ≤ 100
    omega
  exact ⟨clampInt_range (by decide) _, integral, demand, blend, law.fresh, blower, law.occupancy, law.setpoint⟩

theorem Zone.step_ranged {z : Zone} (law : z.Ranged) {c : Tuning} (floor : c.minBlower ≤ 100) (i : ZoneInputs) :
    (z.step c i).Ranged := by
  have moded : (if i.temperature.1 = .usable then z.control c i else { z with mode := .hold }).Ranged := by
    split
    · exact Zone.control_ranged law floor i
    · exact { law with }
  exact { moded with fresh := min_le_left _ _ }

theorem Zone.step_mode (z : Zone) (c : Tuning) (i : ZoneInputs) : (z.step c i).mode ≠ .off := by
  unfold Zone.step Zone.air
  dsimp only
  split <;> simp [Zone.control]

theorem Zone.step_enabled (z : Zone) (c : Tuning) (i : ZoneInputs) : (z.step c i).enabled = z.enabled := by
  unfold Zone.step Zone.air
  dsimp only
  split <;> rfl

/-- R74 to R78: an update of an enabled zone in RUN. -/
theorem State.updatedZone_law {s : State} {r : Zone} (law : r.Ranged) (floor : s.zon.tuning.minBlower ≤ 100)
    (enabled : r.enabled = true) (z : ZoneIx) : (s.updatedZone z r).Law true where
  ranged := { Zone.step_ranged law floor (s.zoneInputs z) with }
  phased := by
    have mode := r.step_mode s.zon.tuning (s.zoneInputs z)
    have same := r.step_enabled s.zon.tuning (s.zoneInputs z)
    constructor <;> simp [State.updatedZone, mode, same, enabled]

theorem Zone.leave_law {z : Zone} (law : z.Ranged) : z.leave.Law false :=
  ⟨⟨by simp [Zone.leave], by simp [Zone.leave], by simp [Zone.leave], Nat.zero_le _, Nat.zero_le _, Nat.zero_le _,
      Nat.zero_le _, law.setpoint⟩,
    ⟨by simp [Zone.leave], by simp [Zone.leave]⟩⟩

/-! ### The law of the part -/

/-- The records under their laws; `run` says that the part is in RUN. -/
structure Zon.Law (v : Zon) (run : Bool) : Prop where
  zones : ∀ z : ZoneIx, v.zones[z].Law run
  floor : v.tuning.minBlower ≤ 100

/-- The outputs are those that the records give. -/
def Zon.OutLaw (v : Zon) (run : Bool) : Prop := v.out = if run = true then v.outputs else zonOutputsZero

/-- The zone law over ZON's record. -/
def State.ZonLaw (s : State) : Prop := s.zon.Law s.inRun ∧ s.zon.OutLaw s.inRun

theorem State.zoneLaw_iff (s : State) : s.ZoneLaw ↔ s.ZonLaw := by
  simp only [State.ZoneLaw, ← s.inRun_iff]
  constructor
  · rintro ⟨zones, floor, out⟩
    refine ⟨⟨fun z => ?_, floor⟩, out⟩
    obtain ⟨e1, e2, i1, i2, d1, d2, blend, fresh, blower, occupancy, p1, p2, off, update⟩ := zones z
    exact ⟨⟨⟨e1, e2⟩, ⟨i1, i2⟩, ⟨d1, d2⟩, blend, fresh, blower, occupancy, ⟨p1, p2⟩⟩, ⟨off, update⟩⟩
  · rintro ⟨⟨zones, floor⟩, out⟩
    refine ⟨fun z => ?_, floor, out⟩
    obtain ⟨⟨⟨e1, e2⟩, ⟨i1, i2⟩, ⟨d1, d2⟩, blend, fresh, blower, occupancy, ⟨p1, p2⟩⟩, ⟨off, update⟩⟩ := zones z
    exact ⟨e1, e2, i1, i2, d1, d2, blend, fresh, blower, occupancy, p1, p2, off, update⟩

theorem State.zonLaw_of_same {s t : State} (law : s.ZonLaw) (zon : s.Same t .zon) (part : s.Same t .partState) :
    t.ZonLaw := by
  have run := State.inRun_of_same part
  simp only [State.Same] at zon
  simpa only [State.ZonLaw, run, zon] using law

theorem State.zonLaw_of_touches {l : List Item} {s t : State} (law : s.ZonLaw) (touched : Touches l s t)
    (zon : Item.zon ∉ l) (part : Item.partState ∉ l) : t.ZonLaw :=
  State.zonLaw_of_same law (touched .zon zon) (touched .partState part)

theorem State.zonLaw_status {s : State} (law : s.ZonLaw) (r : Req) (code : StatusCode) : (s.status r code).ZonLaw := law

theorem Zon.Law.set {v : Zon} {run : Bool} (law : v.Law run) (z : ZoneIx) {r : Zone} (zone : r.Law run) :
    ({ v with zones := v.zones.set z r } : Zon).Law run :=
  ⟨forall_getElem_set (P := fun q : Zone => q.Law run) z zone law.zones, law.floor⟩

/-- R79 to R82: the outputs are formed after a change of the records. -/
theorem State.zonLaw_recompute {s : State} (law : s.zon.Law s.inRun) : s.recompute.ZonLaw :=
  ⟨{ law with }, rfl⟩

theorem State.inRun_stepZone (s : State) (z : ZoneIx) : (s.stepZone z).inRun = s.inRun :=
  State.inRun_of_same (s.touches_stepZone z .partState (by decide))

theorem State.inRun_startZone (s : State) (z : ZoneIx) : (s.startZone z).inRun = s.inRun :=
  State.inRun_of_same (s.touches_startZone z .partState (by decide))

theorem State.inRun_stopZone (s : State) (z : ZoneIx) : (s.stopZone z).inRun = s.inRun :=
  State.inRun_of_same (s.touches_stopZone z .partState (by decide))

/-- An update of a zone in RUN. -/
theorem State.zon_stepZone {s : State} (law : s.zon.Law s.inRun) (run : s.inRun = true) (z : ZoneIx)
    (enabled : s.zon.zones[z].enabled = true) : (s.stepZone z).zon.Law (s.stepZone z).inRun := by
  rw [s.inRun_stepZone, s.stepZone_zon]
  refine law.set z ?_
  rw [run]
  exact State.updatedZone_law (law.zones z).ranged law.floor enabled z

/-- R81: where the other outputs stand as the records give them, the group demands alone are formed again. -/
theorem State.zonLaw_recomputeGroups {s : State} (law : s.zon.Law s.inRun) (run : s.inRun = true)
    (fresh : s.zon.out.fresh = s.zon.outputs.fresh) (breathing : s.zon.out.breathing = s.zon.outputs.breathing)
    (heat : s.zon.out.heat = s.zon.outputs.heat) : s.recomputeGroups.ZonLaw := by
  rw [State.recomputeGroups_of_run (s.inRun_iff.mp run)]
  refine ⟨{ law with }, ?_⟩
  have formed : s.zon.regrouped = s.zon.outputs := by simp [Zon.regrouped, fresh, breathing, heat]
  show Zon.OutLaw { s.zon with out := s.zon.regrouped } s.inRun
  rw [run, formed]
  rfl

/-! ### The part-wide events -/

theorem Block.runItems_zon {b : Block} (other : b ≠ .zon) : Item.zon ∉ b.runItems := by
  revert other; cases b <;> decide

theorem Block.resetItems_zon {b : Block} (other : b ≠ .zon) : Item.zon ∉ b.resetItems := by
  revert other; cases b <;> decide

/-- The ranges hold of every zone, whatever the part state. -/
structure Zon.Ranged (v : Zon) : Prop where
  zones : ∀ z : ZoneIx, v.zones[z].Ranged
  floor : v.tuning.minBlower ≤ 100

theorem Zon.Law.ranged {v : Zon} {run : Bool} (law : v.Law run) : v.Ranged := ⟨fun z => (law.zones z).ranged, law.floor⟩

/-- R84: a zone at entry to RUN. -/
def State.enterZone (s : State) (z : ZoneIx) : State := if (s.zone z).enabled then s.startZone z else s

theorem State.inRun_enterZone (s : State) (z : ZoneIx) : (s.enterZone z).inRun = s.inRun := by
  unfold State.enterZone
  split
  · exact s.inRun_startZone z
  · rfl

theorem State.enterZone_other (s : State) {z j : ZoneIx} (other : z ≠ j) :
    (s.enterZone z).zon.zones[j] = s.zon.zones[j] := by
  unfold State.enterZone
  split
  · simp [State.startZone_zon, Vector.getElem_set_ne, Fin.val_ne_of_ne other]
  · rfl

theorem State.enterZone_tuning (s : State) (z : ZoneIx) : (s.enterZone z).zon.tuning = s.zon.tuning := by
  unfold State.enterZone
  split
  · rw [s.startZone_zon]
  · rfl

theorem State.enterZone_law {s : State} {z : ZoneIx} (law : s.zon.zones[z].Law false)
    (floor : s.zon.tuning.minBlower ≤ 100) : (s.enterZone z).zon.zones[z].Law true := by
  unfold State.enterZone
  split
  · next enabled =>
    simp only [State.startZone_zon, Fin.getElem_fin, Vector.getElem_set_self]
    refine State.updatedZone_law ?_ floor ?_ z
    · exact { law.ranged with }
    · simpa using enabled
  · next disabled =>
    have off : s.zon.zones[z].mode = .off := law.phased.off.mpr (by simp)
    exact ⟨law.ranged, ⟨iff_of_true off (by simpa using disabled), law.phased.update⟩⟩

/-- R84: every zone at entry to RUN, one after another. -/
theorem State.enterZones_law {s : State} (law : s.zon.Law false) (z : ZoneIx) :
    (allZones.foldl State.enterZone s).zon.zones[z].Law true := by
  have bound := z.isLt
  have reached := foldl_reaches
    (P := fun t => t.zon.zones[z].Law false ∧ t.zon.tuning.minBlower ≤ 100) (Q := fun t => t.zon.zones[z].Law true) z
    (fun t both => State.enterZone_law both.1 both.2)
    (fun t j other both => by rw [t.enterZone_other other, t.enterZone_tuning]; exact both)
    (fun t j other law => by rw [t.enterZone_other other]; exact law)
    allZones (List.mem_finRange z) (List.nodup_finRange 4) (s := s) ⟨law.zones z, law.floor⟩
  exact reached

theorem State.zonEnterRun_eq (s : State) :
    s.zonEnterRun = ((allZones.foldl State.enterZone s).orderDefrost).recompute := rfl

/-- What ZON meets at entry to RUN. -/
def State.ZonEntering (s : State) : Prop := s.inRun = true ∧ s.zon.Law false

theorem State.inRun_enterZones (s : State) : (allZones.foldl State.enterZone s).inRun = s.inRun :=
  foldl_keeps (fun t => t.inRun = s.inRun) (fun t z same => (t.inRun_enterZone z).trans same) allZones rfl

theorem State.ZonEntering.enter {s : State} (entering : s.ZonEntering) : s.zonEnterRun.ZonLaw := by
  obtain ⟨run, law⟩ := entering
  have floor : (allZones.foldl State.enterZone s).zon.tuning.minBlower ≤ 100 :=
    foldl_keeps (fun t => t.zon.tuning.minBlower ≤ 100) (fun t z le => by rwa [t.enterZone_tuning]) allZones law.floor
  have ordered : (allZones.foldl State.enterZone s).orderDefrost.inRun = s.inRun :=
    (State.inRun_of_same (State.touches_orderDefrost _ .partState (by decide))).trans s.inRun_enterZones
  rw [s.zonEnterRun_eq]
  refine State.zonLaw_recompute ?_
  rw [ordered, run, State.orderDefrost_zon]
  exact ⟨State.enterZones_law law, floor⟩

theorem State.zonLaw_enterRun {s : State} (law : s.ZonLaw) (outside : s.inRun = false) (complete : s.BlocksComplete) :
    s.enterRun.ZonLaw := by
  have entering : (s.setPart .run).ZonEntering := ⟨rfl, by rw [← outside]; exact law.1⟩
  refine foldl_reaches (P := State.ZonEntering) .zon (fun t entering => ?_) (fun t b other entering => ?_)
    (fun t b other law => ?_) s.blockOrder (complete.mem _) complete.nodup entering
  · exact entering.enter
  · exact ⟨(t.inRun_enterBlock b).trans entering.1,
      (t.touches_enterBlock_own b .zon (Block.runItems_zon other)).symm ▸ entering.2⟩
  · exact State.zonLaw_of_touches law (t.touches_enterBlock_own b) (Block.runItems_zon other) b.runItems_partState

/-- What ZON meets where the part has left RUN and ZON has not. -/
def State.ZonLeaving (s : State) : Prop := s.inRun = false ∧ s.zon.Ranged

/-- What ZON leaves outside RUN. -/
def State.ZonLeft (s : State) : Prop := s.inRun = false ∧ s.zon.Law false ∧ s.zon.OutLaw false

theorem State.ZonLeft.law {s : State} (left : s.ZonLeft) : s.ZonLaw := by
  obtain ⟨outside, law, out⟩ := left
  rw [State.ZonLaw, outside]
  exact ⟨law, out⟩

theorem State.zonLeaveRun_zon (s : State) :
    s.zonLeaveRun.zon =
      { s.zon with zones := tableMap Zone.leave s.zon.zones, orderedDefrost := none, out := zonOutputsZero } := rfl

theorem State.ZonLeaving.leave {s : State} (leaving : s.ZonLeaving) : s.zonLeaveRun.ZonLeft := by
  obtain ⟨outside, zones, floor⟩ := leaving
  refine ⟨outside, ?_, ?_⟩
  · rw [s.zonLeaveRun_zon]
    exact ⟨fun z => by simpa using Zone.leave_law (zones z), floor⟩
  · rw [s.zonLeaveRun_zon]
    rfl

theorem State.ZonLeaving.linkReset {s : State} (leaving : s.ZonLeaving) : s.zonLinkReset.ZonLeft := by
  have left := leaving.leave
  unfold State.zonLinkReset
  dsimp only
  split
  · exact left
  · obtain ⟨outside, ⟨zones, -⟩, out⟩ := left
    refine ⟨outside, ⟨fun z => ?_, (by decide : tuningDefaults.minBlower ≤ 100)⟩, out⟩
    have zone := zones z
    simp only [Fin.getElem_fin, tableMap_getElem] at zone ⊢
    have default : 100 ≤ setpointDefault ∧ setpointDefault ≤ 320 := by decide
    exact ⟨{ zone.ranged with setpoint := default }, ⟨by simpa using zone.phased.off, zone.phased.update⟩⟩

theorem State.zonLaw_leaveRun {s : State} (law : s.ZonLaw) (complete : s.BlocksComplete) : s.leaveRun.ZonLaw := by
  have leaving : (s.setPart .config).ZonLeaving := ⟨rfl, law.1.ranged⟩
  refine State.ZonLeft.law (foldl_reaches (P := State.ZonLeaving) .zon (fun t leaving => ?_) (fun t b other leaving => ?_)
    (fun t b other left => ?_) s.blockOrder (complete.mem _) complete.nodup leaving)
  · exact leaving.leave
  · exact ⟨(t.inRun_leaveBlock b).trans leaving.1,
      (t.touches_leaveBlock_own b .zon (Block.runItems_zon other)).symm ▸ leaving.2⟩
  · exact ⟨(t.inRun_leaveBlock b).trans left.1,
      (t.touches_leaveBlock_own b .zon (Block.runItems_zon other)).symm ▸ left.2⟩

theorem State.zonLaw_linkReset {s : State} (law : s.ZonLaw) (complete : s.BlocksComplete) : s.linkReset.ZonLaw := by
  have leaving : State.ZonLeaving { s with part := { s.part with state := .config, cause := .linkReset } } :=
    ⟨rfl, law.1.ranged⟩
  refine State.zonLaw_of_touches (s := s.blockOrder.foldl State.resetBlock _) (State.ZonLeft.law ?_)
    (State.touches_linkAfterLinkReset _) (by decide) (by decide)
  refine foldl_reaches (P := State.ZonLeaving) .zon (fun t leaving => ?_) (fun t b other leaving => ?_)
    (fun t b other left => ?_) s.blockOrder (complete.mem _) complete.nodup leaving
  · exact leaving.linkReset
  · exact ⟨(t.inRun_resetBlock b).trans leaving.1,
      (t.touches_resetBlock_own b .zon (Block.resetItems_zon other)).symm ▸ leaving.2⟩
  · exact ⟨(t.inRun_resetBlock b).trans left.1,
      (t.touches_resetBlock_own b .zon (Block.resetItems_zon other)).symm ▸ left.2⟩

/-! ### The requests -/

/-- What the outputs read of a zone record: all but its setpoint and its occupancy. -/
def Zone.bare (z : Zone) : Zone := { z with setpoint := 0, occupancy := 0 }

theorem largest_bare (l : List Zone) {f : Zone → Nat} (h : ∀ z, f z.bare = f z) : largest (l.map Zone.bare) f = largest l f := by
  simp only [largest, List.foldl_map, h]

theorem filter_enabled_bare (l : List Zone) : (l.map Zone.bare).filter (·.enabled) = (l.filter (·.enabled)).map Zone.bare := by
  simp only [List.filter_map]
  rfl

theorem Zon.enabledZones_bare (v : Zon) :
    ({ v with zones := tableMap Zone.bare v.zones } : Zon).enabledZones = v.enabledZones.map Zone.bare := by
  simp only [Zon.enabledZones, ← filter_enabled_bare]
  rfl

theorem Zon.groupZones_bare (v : Zon) (g : Group) :
    ({ v with zones := tableMap Zone.bare v.zones } : Zon).groupZones g = (v.groupZones g).map Zone.bare := by
  cases g <;> simp only [Zon.groupZones, tableMap_getElem, ← filter_enabled_bare, List.map_cons, List.map_nil]

theorem Zon.groupDemand_bare (v : Zon) (g : Group) :
    ({ v with zones := tableMap Zone.bare v.zones } : Zon).groupDemand g = v.groupDemand g := by
  simp only [Zon.groupDemand, Zon.groupZones_bare, largest_bare _ (f := fun z => z.blower) fun _ => rfl]

theorem Zon.outputs_bare (v : Zon) : ({ v with zones := tableMap Zone.bare v.zones } : Zon).outputs = v.outputs := by
  simp only [Zon.outputs, Zon.enabledZones_bare, Zon.groupDemand_bare, largest_bare _ (f := fun z => z.fresh) fun _ => rfl,
    largest_bare _ (f := fun z => z.demand.toNat) fun _ => rfl, List.any_map]
  rfl

/-- A change of a setpoint or an occupancy leaves the outputs. -/
theorem Zon.outputs_set {v : Zon} {z : ZoneIx} {r : Zone} (same : r.bare = v.zones[z].bare) :
    ({ v with zones := v.zones.set z r } : Zon).outputs = v.outputs := by
  rw [← Zon.outputs_bare, ← v.outputs_bare]
  congr 2
  ext1 j
  by_cases at_z : z.val = j
  · subst at_z
    simpa using same
  · simp [Vector.getElem_set_ne, at_z]

/-- A zone's settings changed with its enabled flag as it was. -/
theorem State.zonLaw_putZone {s : State} (law : s.ZonLaw) (z : ZoneIx) {r : Zone} (zone : r.Law s.inRun)
    (same : s.inRun = true → r.bare = s.zon.zones[z].bare) : (s.putZone z r).ZonLaw := by
  obtain ⟨records, out⟩ := law
  refine ⟨records.set z zone, ?_⟩
  show s.zon.out = if s.inRun = true then _ else _
  rw [out]
  split
  · next run => exact (Zon.outputs_set (same run)).symm
  · rfl

/-- R87: a zone enabled in RUN. -/
theorem State.zon_setZone_start {s : State} (law : s.zon.Law s.inRun) (run : s.inRun = true) (z : ZoneIx) {r : Zone}
    (ranged : r.Ranged) (enabled : r.enabled = true) :
    ((s.putZone z r).startZone z).zon.Law ((s.putZone z r).startZone z).inRun := by
  rw [State.inRun_startZone, State.startZone_zon]
  simp only [State.putZone_zon, Vector.set_set]
  refine law.set z ?_
  show Zone.Law _ s.inRun
  rw [run]
  refine State.updatedZone_law ?_ law.floor ?_ z
  · simpa using { ranged with }
  · simpa using enabled

/-- R87: a zone disabled in RUN. -/
theorem State.zon_setZone_stop {s : State} (law : s.zon.Law s.inRun) (z : ZoneIx) {r : Zone}
    (ranged : r.Ranged) (disabled : r.enabled = false) :
    ((s.putZone z r).stopZone z).zon.Law ((s.putZone z r).stopZone z).inRun := by
  rw [State.inRun_stopZone, State.stopZone_zon]
  simp only [State.putZone_zon, Vector.set_set, Fin.getElem_fin, Vector.getElem_set_self]
  refine law.set z ?_
  exact ⟨⟨by simp, by simp, by simp, Nat.zero_le _, Nat.zero_le _, Nat.zero_le _, ranged.occupancy, ranged.setpoint⟩,
    ⟨by simp [disabled], by simp⟩⟩

theorem State.zonLaw_setZone {s : State} (law : s.ZonLaw) (z : ZoneIx) (enabled : Bool) {setpoint : Nat}
    (range : 100 ≤ setpoint ∧ setpoint ≤ 320) : (s.setZone z enabled setpoint).ZonLaw := by
  have zone : (s.zone z).Law s.inRun := law.1.zones z
  have ranged : ({ s.zone z with enabled := enabled, setpoint := setpoint } : Zone).Ranged :=
    { zone.ranged with setpoint := range }
  unfold State.setZone
  dsimp only
  split
  · next changed =>
    obtain ⟨run, changed⟩ := changed
    refine State.zonLaw_recompute ?_
    cases enabled with
    | true =>
      have twice (a b : Zone) : (s.putZone z a).putZone z b = s.putZone z b := by
        simp [State.putZone, Vector.set_set]
      rw [if_pos rfl, twice]
      refine State.zon_setZone_start law.1 run z ?_ ?_
      · have cleared : -50 ≤ (0 : Int) ∧ (0 : Int) ≤ 50 := by decide
        simpa [State.putZone] using { ranged with integral := cleared }
      · simp [State.putZone]
    | false => exact State.zon_setZone_stop law.1 z ranged rfl
  · next kept =>
    refine State.zonLaw_putZone law z ⟨ranged, ⟨?_, zone.phased.update⟩⟩ fun run => ?_
    · refine zone.phased.off.trans (not_congr (and_congr_right fun run => ?_))
      rw [not_and_not_right.mp kept run]
    · rw [not_and_not_right.mp kept run]
      rfl

/-- In RUN the outputs are those that the records give. -/
theorem State.ZonLaw.formed {s : State} (law : s.ZonLaw) (run : s.inRun = true) : s.zon.out = s.zon.outputs := by
  have out := law.2
  rw [Zon.OutLaw, run] at out
  exact out

/-- R81, R83: tuning, defrost flag and the DEFROST order change at most the group demands. -/
theorem State.zonLaw_regroup {s t : State} (law : s.ZonLaw) (run : s.inRun = true) (same : t.inRun = s.inRun)
    (zones : t.zon.zones = s.zon.zones) (floor : t.zon.tuning.minBlower ≤ 100) (out : t.zon.out = s.zon.out) :
    t.recomputeGroups.ZonLaw := by
  have enabled : t.zon.enabledZones = s.zon.enabledZones := by simp only [Zon.enabledZones, zones]
  refine State.zonLaw_recomputeGroups ⟨?_, floor⟩ (same.trans run) ?_ ?_ ?_
  · rw [same]
    simp only [zones]
    exact law.1.zones
  all_goals rw [out, law.formed run]; simp only [Zon.outputs, enabled]

/-- Outside RUN the outputs are 0, whatever the records. -/
theorem State.zonLaw_outside {s : State} {v : Zon} (law : s.ZonLaw) (outside : s.inRun = false)
    (records : v.Law s.inRun) (out : v.out = s.zon.out) : ({ s with zon := v } : State).ZonLaw := by
  refine ⟨records, ?_⟩
  have rest := law.2
  show v.OutLaw s.inRun
  rw [outside] at rest ⊢
  exact out.trans rest

theorem State.zonLaw_setDefrost {s : State} (law : s.ZonLaw) (flag : Bool) : (s.setDefrost flag).ZonLaw := by
  unfold State.setDefrost
  dsimp only
  split
  · next run =>
    split
    · exact State.zonLaw_regroup law run rfl rfl law.1.floor rfl
    · refine State.zonLaw_regroup law run (State.inRun_of_same (State.touches_orderDefrost _ .partState (by decide))) ?_ ?_ ?_
      all_goals rw [State.orderDefrost_zon]
      exact law.1.floor
  · next outside =>
    exact State.zonLaw_outside law (by simpa using outside) { law.1 with } rfl

/-! ### The commands -/

section ZoneLaw

variable {s t : State} (law : s.ZonLaw)
include law

theorem execInitEnd_zonLaw (h : execInitEnd s = .next t) : t.ZonLaw := by
  have run := execInitEnd_inRun h
  have zon : t.zon = s.zon := execInitEnd_touches s t h .zon (by decide)
  rw [State.ZonLaw, run, zon]
  exact law

theorem execRetain_zonLaw {b : Byte} (h : execRetain b s = .next t) : t.ZonLaw := by
  refine State.take_keeps h law fun s law => ?_
  split <;> exact law

theorem execSetState_zonLaw (complete : s.BlocksComplete) {b : Byte} (h : execSetState b s = .next t) : t.ZonLaw := by
  refine State.take_leaves h law ?_
  split
  · exact law
  · split
    · exact law
    · next other =>
      split
      · next run =>
        have outside : (s.strike (.setState b)).inRun = false := by
          simpa [State.inRun, ← run] using fun same => other (by simpa [run] using same.symm)
        split
        · exact law
        · exact State.zonLaw_status (State.zonLaw_enterRun (s := s.strike _) law outside complete) _ _
      · exact State.zonLaw_status (State.zonLaw_leaveRun (s := s.strike _) law complete) _ _

theorem execLinkResetEffect_zonLaw (complete : s.BlocksComplete) (h : execLinkResetEffect s = .next t) : t.ZonLaw := by
  refine State.take_leaves h law ?_
  split
  · exact State.zonLaw_linkReset (s := s.strike _) law complete
  · exact law

theorem execZoneUpdate_zonLaw {z : ZoneIx} (h : execZoneUpdate z s = .next t) : t.ZonLaw := by
  refine State.own_keeps h law fun s law => ?_
  split
  · exact law
  · next due runs =>
    have phased : (s.zone z).Phased s.inRun := (law.1.zones z).phased
    have working : s.inRun = true ∧ (s.zone z).enabled = true :=
      not_not.mp (mt phased.off.mpr (phased.update.mp (by rw [runs]; rfl)))
    exact State.zonLaw_recompute (State.zon_stepZone law.1 working.1 z working.2)

theorem execSetZone_zonLaw {b0 b1 : Byte} {h2 : Half} (h : execSetZone b0 b1 h2 s = .next t) : t.ZonLaw := by
  refine State.take_keeps h law fun s law => ?_
  split
  · exact law
  · split
    · exact law
    · exact State.zonLaw_status (State.zonLaw_setZone law _ _ (clampNat_range (by decide) _)) _ _

theorem execSetZoneTuning_zonLaw {h0 h1 h3 h4 h5 h7 : Half} {b2 b6 : Byte}
    (h : execSetZoneTuning h0 h1 b2 h3 h4 h5 b6 h7 s = .next t) : t.ZonLaw := by
  refine State.take_keeps h law fun s law => ?_
  dsimp only
  split
  · exact law
  · have floor : (tuningOf h0 h1 b2 h3 h4 h5 b6 h7).clamp.minBlower ≤ 100 := (clampNat_range (by decide) _).2
    refine State.zonLaw_status ?_ _ _
    split
    · next run => exact State.zonLaw_regroup law run rfl rfl floor rfl
    · next outside =>
      exact State.zonLaw_outside law (by simpa using outside) ⟨law.1.zones, floor⟩ rfl

theorem execSetCrew_zonLaw {b0 b1 : Byte} (h : execSetCrew b0 b1 s = .next t) : t.ZonLaw := by
  refine State.take_keeps h law fun s law => ?_
  split
  · exact law
  · next z _ =>
    have zone : (s.zone z).Law s.inRun := law.1.zones z
    refine State.zonLaw_status ?_ _ _
    refine State.zonLaw_putZone law z ⟨?_, ?_⟩ fun _ => rfl
    · exact { zone.ranged with occupancy := min_le_right _ _ }
    · exact { zone.phased with }

theorem execSetDefrost_zonLaw {b : Byte} (h : execSetDefrost b s = .next t) : t.ZonLaw := by
  refine State.take_keeps h law fun s law => ?_
  split
  · exact law
  · exact State.zonLaw_status (State.zonLaw_setDefrost law _) _ _

end ZoneLaw

theorem zonReset_law : zonReset.Law false ∧ zonReset.OutLaw false := by
  refine ⟨⟨fun z => ⟨?_, ?_⟩, by decide⟩, rfl⟩
  · constructor <;> revert z <;> decide
  · constructor <;> revert z <;> decide

theorem exec_zonLaw (c : Instr) (s t : State) (complete : s.BlocksComplete) (law : s.ZonLaw) (h : exec c s = .next t) :
    t.ZonLaw := by
  have kept (zon : Command.leaves c .zon = true) (part : Command.leaves c .partState = true) : t.ZonLaw :=
    State.zonLaw_of_same law (exec_same h .zon zon) (exec_same h .partState part)
  cases c with
  | hardwareReset kind => cases h; exact zonReset_law
  | initEnd => exact execInitEnd_zonLaw law h
  | setState b => exact execSetState_zonLaw law complete h
  | linkResetEffect => exact execLinkResetEffect_zonLaw law complete h
  | retain b => exact execRetain_zonLaw law h
  | zoneUpdate z => exact execZoneUpdate_zonLaw law h
  | setZone b0 b1 h2 => exact execSetZone_zonLaw law h
  | setZoneTuning h0 h1 b2 h3 h4 h5 b6 h7 => exact execSetZoneTuning_zonLaw law h
  | setCrew b0 b1 => exact execSetCrew_zonLaw law h
  | setDefrost b => exact execSetDefrost_zonLaw law h
  | _ => exact kept rfl rfl

end Sys2Proof.Machine

namespace Sys2Proof

open Sys2Proof.Machine

/-- Settles O9: an update clamps what it computes, a zone starts and stops with its enabled flag and the part state, and the
outputs are formed again after every change that they read. -/
theorem stepKeepsTheZoneLaw : Obligations.StepKeepsTheZoneLaw := by
  intro s t complete law h
  refine t.zoneLaw_iff.mpr ?_
  exact step_keeps_complete (P := State.ZonLaw) (fun _ _ law => law) (fun _ _ law => law) (fun c s t => exec_zonLaw c s t)
    complete (s.zoneLaw_iff.mp law) h

end Sys2Proof

/-! The terminal law: the map and the entries under a binding, a rebinding, an unbinding and a change of level. -/

namespace Sys2Proof.Machine

open State (Touches)

/-! ### The codes of the functions -/

theorem Func.ofCode_code (f : Func) : Func.ofCode f.code = some f := by
  cases f with
  | sc i | home i | door i | laneFlt i | tach i | sel i | step i | dir i | pwm i =>
    revert i
    decide
  | sealReq | auxFlame | hvOpen | auxRun => rfl

/-- R159: each place of the map is a function's. -/
theorem Func.ofCode_slot_surj (c : Fin 51) : ∃ f, Func.ofCode (c.val + 1) = some f ∧ f.slot = c := by
  have codes : ∀ c : Fin 51, ((Func.ofCode (c.val + 1)).any fun f => decide (f.slot = c)) = true := by decide
  have place := codes c
  cases code : Func.ofCode (c.val + 1) with
  | none => simp [code] at place
  | some f => exact ⟨f, rfl, by simpa [code] using place⟩

theorem Func.slot_succ (f : Func) : f.slot.val + 1 = f.code := by
  have positive : 1 ≤ f.code := by cases f <;> simp only [Func.code] <;> omega
  simp only [Func.slot]
  omega

theorem Func.ofCode_slot (f : Func) : Func.ofCode (f.slot.val + 1) = some f := by rw [f.slot_succ, f.ofCode_code]

theorem Func.slot_injective {f g : Func} (h : f.slot = g.slot) : f = g :=
  Option.some.inj (by rw [← f.ofCode_slot, ← g.ofCode_slot, h])

/-! ### The map and the entries -/

/-- R158, R159, R164: the law of TRM's records. -/
structure Trm.Law (v : Trm) : Prop where
  mapped : ∀ t : TerminalIx, ∀ f ∈ v.entries[t].func, v.map[f.slot] = some t ∧ f.allowedOn t = true
  carried : ∀ c : Fin 51, ∀ t ∈ v.map[c], v.entries[t].func = Func.ofCode (c.val + 1)
  digital : ∀ t : TerminalIx, v.entries[t].isDigitalInput = false →
    v.entries[t].debounced = false ∧ v.entries[t].timer = none

theorem State.terminalLaw_iff (s : State) : s.TerminalLaw ↔ s.trm.Law :=
  ⟨fun ⟨mapped, carried, digital⟩ => ⟨mapped, carried, digital⟩, fun ⟨mapped, carried, digital⟩ => ⟨mapped, carried, digital⟩⟩

/-- A table replaced at one place, read anywhere. -/
theorem getElem_set_ite {α : Type} {n : Nat} (v : Vector α n) (i j : Fin n) (a : α) :
    (v.set i a)[j] = if i = j then a else v[j] := by
  simp only [Fin.getElem_fin, Vector.getElem_set, Fin.ext_iff]

/-- An entry replaced by one that carries the same function. -/
theorem Trm.Law.setEntry {v : Trm} (law : v.Law) (t : TerminalIx) {e : Terminal} (func : e.func = v.entries[t].func)
    (digital : e.isDigitalInput = false → e.debounced = false ∧ e.timer = none) :
    ({ v with entries := v.entries.set t e } : Trm).Law := by
  have carries (j : TerminalIx) : (v.entries.set t e)[j].func = v.entries[j].func := by
    rw [getElem_set_ite]
    split
    · next same => rw [func, same]
    · rfl
  refine ⟨fun j f mem => law.mapped j f (carries j ▸ mem), fun c j mem => (carries j).trans (law.carried c j mem), ?_⟩
  exact forall_getElem_set (P := fun x : Terminal => x.isDigitalInput = false → x.debounced = false ∧ x.timer = none) t
    digital law.digital

/-- A function that no terminal carries, bound to a terminal that carries none. -/
theorem Trm.Law.bind {v : Trm} (law : v.Law) {t : TerminalIx} {f : Func} {e : Terminal} (free : v.entries[t].func = none)
    (unbound : v.map[f.slot] = none) (allowed : f.allowedOn t = true) (func : e.func = some f)
    (digital : e.isDigitalInput = false → e.debounced = false ∧ e.timer = none) :
    ({ v with entries := v.entries.set t e, map := v.map.set f.slot (some t) } : Trm).Law := by
  refine ⟨fun j g mem => ?_, fun c j mem => ?_, ?_⟩
  · simp only [getElem_set_ite] at mem ⊢
    split at mem
    · next here =>
      subst here
      obtain rfl : f = g := by simpa [func] using mem
      simp [allowed]
    · have mapped := law.mapped j g mem
      rw [if_neg fun same => ?_]
      · exact mapped
      · obtain rfl := Func.slot_injective same
        simp [mapped.1] at unbound
  · simp only [getElem_set_ite] at mem ⊢
    split at mem
    · next here =>
      subst here
      obtain rfl : t = j := by simpa using mem
      rw [if_pos rfl, func, f.ofCode_slot]
    · have carried := law.carried c j mem
      rw [if_neg fun same => ?_]
      · exact carried
      · obtain ⟨g, code, -⟩ := Func.ofCode_slot_surj c
        rw [← same, free, code] at carried
        cases carried
  · exact forall_getElem_set (P := fun x : Terminal => x.isDigitalInput = false → x.debounced = false ∧ x.timer = none) t
      digital law.digital

/-- A function unbound from the terminal that carries it. -/
theorem Trm.Law.unbind {v : Trm} (law : v.Law) {t : TerminalIx} {f : Func} (carries : v.entries[t].func = some f)
    (level : Bool) :
    ({ v with entries := v.entries.set t (terminalReset level), map := v.map.set f.slot none } : Trm).Law := by
  refine ⟨fun j g mem => ?_, fun c j mem => ?_, ?_⟩
  · simp only [getElem_set_ite] at mem ⊢
    split at mem
    · simp [terminalReset] at mem
    · next elsewhere =>
      have mapped := law.mapped j g mem
      rw [if_neg fun same => ?_]
      · exact mapped
      · obtain rfl := Func.slot_injective same
        have here := (law.mapped t f (Option.mem_def.mpr carries)).1
        exact elsewhere (Option.some.inj (here.symm.trans mapped.1))
  · simp only [getElem_set_ite] at mem ⊢
    split at mem
    · simp at mem
    · next other =>
      have carried := law.carried c j mem
      rw [if_neg fun same => ?_]
      · exact carried
      · obtain ⟨g, code, slot⟩ := Func.ofCode_slot_surj c
        rw [← same, carries, code] at carried
        exact other (by rw [Option.some.inj carried, slot])
  · refine forall_getElem_set (P := fun x : Terminal => x.isDigitalInput = false → x.debounced = false ∧ x.timer = none) t
      (fun _ => ⟨rfl, rfl⟩) law.digital

/-! ### What the operations leave of TRM -/

theorem State.flush_trm (s : State) (f : Func) : (s.flush f).trm = s.trm := s.touches_flush f .trm (by decide)

theorem State.levelEffect_trm (s : State) (f : Func) (on : Bool) : (s.levelEffect f on).trm = s.trm :=
  s.touches_levelEffect f on .trm (by decide)

theorem State.ownerBind_trm (s : State) (f : Func) : (s.ownerBind f).trm = s.trm :=
  s.touches_ownerBind_own f .trm (by decide)

theorem State.ownerUnbind_trm (s : State) (f : Func) : (s.ownerUnbind f).trm = s.trm :=
  s.touches_ownerUnbind_own f .trm (by decide)

/-- R160, R162: an entry with a function, the settings of a BIND, and its debounced state read at the pin. -/
def Terminal.bound (e : Terminal) (f : Func) (c : BindSettings) : Terminal :=
  { e.withSettings c with func := some f, debounced := f.isDigitalInput && (e.withSettings c).active }

theorem State.bindNew_trm (s : State) (t : TerminalIx) (f : Func) (c : BindSettings) :
    (s.bindNew t f c).trm =
      { s.trm with
        entries := s.trm.entries.set t (s.trm.entries[t].bound f c), map := s.trm.map.set f.slot (some t) } := by
  unfold State.bindNew
  dsimp only
  split <;> simp only [State.levelEffect_trm, State.ownerBind_trm, State.mapFunc_trm, State.putTerminal_trm, State.flush_trm] <;>
    rfl

theorem State.rebind_trm (s : State) (t : TerminalIx) (f : Func) (c : BindSettings) :
    (s.rebind t f c).trm =
      { s.trm with
        entries := s.trm.entries.set t { s.trm.entries[t].bound f c with func := s.trm.entries[t].func } } := by
  unfold State.rebind
  dsimp only
  split
  · split
    · rw [State.putTerminal_trm, State.flush_trm]; rfl
    · rw [State.touches_tachStart _ _ .trm (by decide), State.putTerminal_trm, State.flush_trm]; rfl
  all_goals first
    | (split <;> simp only [State.levelEffect_trm, State.putTerminal_trm, State.flush_trm] <;> rfl)
    | (rw [State.putTerminal_trm, State.flush_trm]; rfl)

theorem State.unbindTerminal_trm (s : State) (t : TerminalIx) (f : Func) :
    (s.unbindTerminal t f).trm =
      { s.trm with
        entries := s.trm.entries.set t (terminalReset s.trm.entries[t].level), map := s.trm.map.set f.slot none } := by
  unfold State.unbindTerminal
  dsimp only
  split <;> simp only [State.levelEffect_trm, State.ownerUnbind_trm, State.mapFunc_trm, State.putTerminal_trm,
    State.flush_trm] <;> rfl

theorem State.handLevel_trm (s : State) (f : Func) (on : Bool) : (s.handLevel f on).trm = s.trm := by
  unfold State.handLevel
  split <;> rfl

theorem State.takeLevel_trm (s : State) (t : TerminalIx) (f : Func) :
    (s.takeLevel t f).trm =
      { s.trm with
        entries := s.trm.entries.set t
          { s.trm.entries[t] with debounced := s.trm.entries[t].active, timer := none } } := by
  unfold State.takeLevel
  dsimp only
  split <;> simp only [State.handLevel_trm, State.putTerminal_trm] <;> rfl

/-! ### The operations under the law -/

theorem Terminal.bound_digital (e : Terminal) (f : Func) (c : BindSettings) {g : Option Func} (func : g = some f) :
    ({ e.bound f c with func := g } : Terminal).isDigitalInput = false →
      ({ e.bound f c with func := g } : Terminal).debounced = false ∧ ({ e.bound f c with func := g } : Terminal).timer = none := by
  subst func
  intro analog
  have analog : f.isDigitalInput = false := analog
  exact ⟨by simp [Terminal.bound, analog], rfl⟩

theorem Terminal.isDigitalInput_of_func {e : Terminal} {f : Func} (carries : e.func = some f) :
    e.isDigitalInput = f.isDigitalInput := by
  rw [Terminal.isDigitalInput, carries]

theorem State.trmLaw_takeLevel {s : State} (law : s.trm.Law) {t : TerminalIx}
    (digital : s.trm.entries[t].isDigitalInput = true) (f : Func) : (s.takeLevel t f).trm.Law := by
  rw [s.takeLevel_trm]
  refine law.setEntry t rfl fun analog => ?_
  exact absurd (digital.symm.trans analog) (by decide)

theorem State.trmLaw_debounce {s : State} (law : s.trm.Law) {t : TerminalIx}
    (digital : s.trm.entries[t].isDigitalInput = true) (f : Func) : (s.debounce t f).trm.Law := by
  unfold State.debounce
  dsimp only
  split
  · exact State.trmLaw_takeLevel law digital f
  · refine law.setEntry t rfl fun analog => ?_
    exact absurd (digital.symm.trans analog) (by decide)

theorem State.trmLaw_pinChanged {s : State} (law : s.trm.Law) (t : TerminalIx) (high : Bool) :
    (s.pinChanged t high).trm.Law := by
  have kept : (s.putTerminal t { s.terminal t with level := high }).trm.Law := law.setEntry t rfl (law.digital t)
  unfold State.pinChanged
  dsimp only
  split
  · exact kept
  · split <;> exact kept
  · next f _ carries =>
    split
    · next digital =>
      refine State.trmLaw_debounce kept ?_ f
      rw [State.putTerminal_terminal_self]
      exact (Terminal.isDigitalInput_of_func carries).trans digital
    · exact kept

theorem Trm.hardwareReset_law (v : Trm) : v.hardwareReset.Law := by
  refine ⟨fun t f mem => ?_, fun c t mem => ?_, fun t _ => ?_⟩
  · simp [Trm.hardwareReset, terminalReset] at mem
  · simp [Trm.hardwareReset] at mem
  · simp [Trm.hardwareReset, terminalReset]

section TerminalLaw

variable {s t : State} (law : s.trm.Law)
include law

theorem execBind_trmLaw {b0 b1 b2 b3 b4 : Byte} (h : execBind b0 b1 b2 b3 b4 s = .next t) : t.trm.Law := by
  refine State.take_keeps (P := fun s => s.trm.Law) h law fun s law => ?_
  split
  · split
    · exact law
    · next p f c _ =>
      split
      · exact law
      · next allowed =>
        have allowed : f.allowedOn p = true := by simpa using allowed
        split
        · next g carries =>
          split
          · next same =>
            subst same
            show (s.rebind p g c).trm.Law
            rw [s.rebind_trm]
            exact law.setEntry p rfl (Terminal.bound_digital _ g c carries)
          · exact law
        · next free =>
          split
          · exact law
          · next unbound =>
            show (s.bindNew p f c).trm.Law
            rw [s.bindNew_trm]
            refine law.bind free ?_ allowed rfl (Terminal.bound_digital _ f c rfl)
            simpa [State.bound, Trm.terminalOf] using unbound
  · exact law

theorem execUnbind_trmLaw {b : Byte} (h : execUnbind b s = .next t) : t.trm.Law := by
  refine State.take_keeps (P := fun s => s.trm.Law) h law fun s law => ?_
  split
  · exact law
  · split
    · exact law
    · next p _ =>
      split
      · exact law
      · next f carries =>
        show (s.unbindTerminal p f).trm.Law
        rw [s.unbindTerminal_trm]
        exact law.unbind carries _

theorem execPinChange_trmLaw {p : TerminalIx} {high : Bool} (h : execPinChange p high s = .next t) : t.trm.Law := by
  cases h
  split
  · exact law
  · exact State.trmLaw_pinChanged law p high

theorem execDebounceTimerExpiry_trmLaw {p : TerminalIx} (h : execDebounceTimerExpiry p s = .next t) : t.trm.Law := by
  refine State.own_keeps (P := fun s => s.trm.Law) h law fun s law => ?_
  split
  · next due f runs _ =>
    refine State.trmLaw_takeLevel law ?_ f
    by_contra analog
    have stopped := (law.digital p (by simpa using analog)).2
    have runs : s.trm.entries[p].timer = some due := runs
    cases stopped.symm.trans runs
  · exact law

end TerminalLaw

theorem exec_trmLaw (c : Instr) (s t : State) (law : s.trm.Law) (h : exec c s = .next t) : t.trm.Law := by
  have kept (trm : Command.leaves c .trm = true) : t.trm.Law :=
    (show t.trm = s.trm from exec_same h .trm trm).symm ▸ law
  cases c with
  | hardwareReset kind => cases h; exact s.trm.hardwareReset_law
  | bind b0 b1 b2 b3 b4 => exact execBind_trmLaw law h
  | unbind b => exact execUnbind_trmLaw law h
  | pinChange p high => exact execPinChange_trmLaw law h
  | debounceTimerExpiry p => exact execDebounceTimerExpiry_trmLaw law h
  | _ => exact kept rfl

end Sys2Proof.Machine

namespace Sys2Proof

open Sys2Proof.Machine

/-- Settles O12: a binding takes a free terminal and a free function, an unbinding frees both, and a level changes no
function. -/
theorem stepKeepsTheTerminalLaw : Obligations.StepKeepsTheTerminalLaw := by
  intro s t law h
  refine t.terminalLaw_iff.mpr ?_
  exact step_keeps (P := fun s => s.trm.Law) (fun _ _ law => law) (fun _ _ law => law) (fun c s t => exec_trmLaw c s t)
    (s.terminalLaw_iff.mp law) h

end Sys2Proof

/-! The sensor law: a channel under its events, the slots with the channels that they force, then every command. -/

namespace Sys2Proof.Machine

open State (Touches)

/-- R3, R7 to R12: one channel, `bound` saying that its function is bound. -/
structure Channel.Law (c : Channel) (bound : Bool) : Prop where
  absent : c.state = .absent ↔ bound = false
  forced : c.state = .forced ↔ c.slot.isSome = true
  hold : c.hold.isSome = true → c.state = .held ∨ c.state = .warming ∧ c.warmUp = .expired
  timed : c.warmUp.due.isSome = true → c.state = .warming
  warming : c.state = .warming → c.warmUp ≠ .stopped

/-- R15 to R18: the slots and the channels name each other, a channel with its slot's value. -/
structure Sns.Paired (v : Sns) : Prop where
  named : ∀ ch : ChannelIx, ∀ i ∈ v.channels[ch].slot, v.slots[i] = some ⟨ch, v.channels[ch].value⟩
  names : ∀ i : SlotIx, ∀ o ∈ v.slots[i], v.channels[o.channel].slot = some i

/-- The sensor law over SNS's records and the bindings. -/
structure State.SnsLaw (s : State) : Prop where
  channels : ∀ ch : ChannelIx, (s.channel ch).Law (s.bound (.sc ch))
  paired : s.sns.Paired

theorem State.sensorLaw_iff (s : State) : s.SensorLaw ↔ s.SnsLaw := by
  constructor
  · rintro ⟨channels, names⟩
    refine ⟨fun ch => ?_, fun ch => ?_, names⟩
    · obtain ⟨absent, forced, -, hold, timed, warming⟩ := channels ch
      exact ⟨absent, forced, hold, timed, warming⟩
    · obtain ⟨-, -, named, -⟩ := channels ch
      exact named
  · rintro ⟨channels, named, names⟩
    refine ⟨fun ch => ?_, names⟩
    obtain ⟨absent, forced, hold, timed, warming⟩ := channels ch
    exact ⟨absent, forced, named ch, hold, timed, warming⟩

/-! ### One channel -/

theorem Channel.Law.unforced {c : Channel} {bound : Bool} (law : c.Law bound) (state : c.state ≠ .forced) : c.slot = none := by
  cases slot : c.slot with
  | none => rfl
  | some i => exact absurd (law.forced.mpr (by simp [slot])) state

/-- A channel out of WARMING has no warm-up timer running. -/
theorem Channel.Law.untimed {c : Channel} {bound : Bool} (law : c.Law bound) (state : c.state ≠ .warming) :
    c.warmUp.due = none := by
  cases due : c.warmUp.due with
  | none => rfl
  | some t => exact absurd (law.timed (by simp [due])) state

/-- A bound channel that is neither ABSENT, WARMING nor FORCED. -/
theorem Channel.Law.settled {c : Channel} (slot : c.slot = none) (untimed : c.warmUp.due = none)
    (hold : c.hold.isSome = true → c.state = .held) (state : c.state = .valid ∨ c.state = .held ∨ c.state = .failed) :
    c.Law true := by
  refine ⟨?_, ?_, fun h => .inl (hold h), by simp [untimed], fun warming => ?_⟩
  · rcases state with h | h | h <;> simp [h]
  · rcases state with h | h | h <;> simp [h, slot]
  · rcases state with h | h | h <;> rw [h] at warming <;> cases warming

theorem Channel.toValid_law {c : Channel} (slot : c.slot = none) (untimed : c.warmUp.due = none) (v : Int) :
    (c.toValid v).Law true := Channel.Law.settled slot untimed nofun (.inl rfl)

theorem Channel.sample_law {c : Channel} (law : c.Law true) (now : Time) (raw : Nat) : (c.sample now raw).Law true := by
  have seen : ({ c with raw := raw } : Channel).Law true := { law with }
  unfold Channel.sample
  dsimp only
  split
  · exact seen
  · next warming =>
    have slot : c.slot = none := law.unforced (by rw [warming]; decide)
    split
    · exact { law with }
    · next stopped => exact absurd stopped (law.warming warming)
    · next expired =>
      unfold Channel.sampleWarm
      split
      · exact Channel.toValid_law (c := { c with raw := raw }) slot (by simp [expired, KeptTimer.due]) _
      · exact { law with hold := fun _ => .inr ⟨warming, expired⟩ }
  · next valid =>
    have slot : c.slot = none := law.unforced (by rw [valid]; decide)
    have untimed : c.warmUp.due = none := law.untimed (by rw [valid]; decide)
    unfold Channel.sampleValid
    split
    · exact Channel.toValid_law (c := { c with raw := raw }) slot untimed _
    · exact Channel.Law.settled slot untimed (fun _ => rfl) (.inr (.inl rfl))
  · next held =>
    have slot : c.slot = none := law.unforced (by rw [held]; decide)
    have untimed : c.warmUp.due = none := law.untimed (by rw [held]; decide)
    unfold Channel.sampleHeld
    split
    · exact Channel.toValid_law (c := { c with raw := raw }) slot untimed _
    · exact seen
  · next failed =>
    have slot : c.slot = none := law.unforced (by rw [failed]; decide)
    have untimed : c.warmUp.due = none := law.untimed (by rw [failed]; decide)
    unfold Channel.sampleFailed
    split
    · split
      · exact { Channel.toValid_law (c := { c with raw := raw }) slot untimed (scaledSample c.settings raw) with }
      · exact { law with }
    · exact { law with }
  · exact seen

/-- A sample leaves the slot, and a FORCED channel's value. -/
theorem Channel.sample_slot (c : Channel) (now : Time) (raw : Nat) :
    (c.sample now raw).slot = c.slot ∧ (c.state = .forced → (c.sample now raw).value = c.value) := by
  unfold Channel.sample Channel.sampleWarming Channel.sampleWarm Channel.sampleValid Channel.sampleHeld Channel.sampleFailed
    Channel.toValid
  dsimp only
  constructor
  · split <;> (repeat' split) <;> rfl
  · intro forced
    rw [forced]

theorem Channel.bind_law {c : Channel} (law : c.Law false) (now : Time) : (c.bind now).Law true := by
  have slot : c.slot = none := law.unforced (by rw [law.absent.mpr rfl]; decide)
  refine ⟨by simp [Channel.bind], by simp [Channel.bind, slot], nofun, fun _ => rfl, fun _ => ?_⟩
  show (if _ then _ else _) ≠ _
  split <;> simp

theorem Channel.unbind_law (c : Channel) : c.unbind.Law false :=
  ⟨by simp [Channel.unbind], by simp [Channel.unbind], nofun, nofun, nofun⟩

theorem Channel.fail_law {c : Channel} (law : c.Law true) (holds : c.hold.isSome = true) : c.fail.Law true := by
  have state := law.hold holds
  refine Channel.Law.settled (law.unforced ?_) ?_ nofun (.inr (.inr rfl))
  · rcases state with held | warming
    · simp [held]
    · simp [warming.1]
  · rcases state with held | warming
    · exact law.untimed (by simp [held])
    · show c.warmUp.due = none
      rw [warming.2]
      rfl

theorem Channel.force_law (c : Channel) (i : SlotIx) (v : Int) : (c.force i v).Law true :=
  ⟨by simp [Channel.force], by simp [Channel.force], nofun, nofun, nofun⟩

theorem Channel.release_law {c : Channel} {bound : Bool} (law : c.Law bound) (forced : c.state = .forced) (now : Time)
    (v : Int) : (c.release now v).Law true :=
  Channel.Law.settled rfl (law.untimed (by rw [forced]; decide)) (fun _ => rfl) (.inr (.inl rfl))

theorem Channel.settle_law {c : Channel} {bound : Bool} (law : c.Law bound) (set : ChannelSettings) :
    (c.settle set).Law bound := by
  unfold Channel.settle
  split <;> exact { law with }

theorem Channel.settle_slot (c : Channel) (set : ChannelSettings) :
    (c.settle set).slot = c.slot ∧ (c.state = .forced → (c.settle set).value = c.value) := by
  unfold Channel.settle
  split
  · next failed => exact ⟨rfl, fun forced => by rw [failed] at forced; cases forced⟩
  · exact ⟨rfl, fun _ => rfl⟩

/-! ### The law of the part -/

theorem State.bound_eq (s : State) (f : Func) : s.bound f = (s.trm.map[f.slot]).isSome := rfl

theorem State.bound_congr {s t : State} (map : t.trm.map = s.trm.map) (f : Func) : t.bound f = s.bound f := by
  simp only [State.bound_eq, map]

theorem State.snsLaw_of_bound {s t : State} (law : s.SnsLaw) (sns : t.sns = s.sns)
    (bound : ∀ ch, t.bound (.sc ch) = s.bound (.sc ch)) : t.SnsLaw := by
  refine ⟨fun ch => ?_, sns ▸ law.paired⟩
  have channel := law.channels ch
  simpa only [State.channel, sns, bound] using channel

theorem State.snsLaw_congr {s t : State} (law : s.SnsLaw) (sns : t.sns = s.sns) (map : t.trm.map = s.trm.map) : t.SnsLaw :=
  State.snsLaw_of_bound law sns fun _ => State.bound_congr map _

theorem State.snsLaw_of_touches {l : List Item} {s t : State} (law : s.SnsLaw) (touched : Touches l s t)
    (sns : Item.sns ∉ l) (trm : Item.trm ∉ l) : t.SnsLaw :=
  State.snsLaw_congr law (touched .sns sns) (congrArg Trm.map (touched .trm trm))

theorem State.snsLaw_raise {s : State} (law : s.SnsLaw) (i : SourceIx) (d : Nat) : (s.raise i d).SnsLaw := { law with }

theorem State.snsLaw_status {s : State} (law : s.SnsLaw) (r : Req) (code : StatusCode) : (s.status r code).SnsLaw := { law with }

theorem State.snsLaw_report {s : State} (law : s.SnsLaw) (ch : ChannelIx) : (s.report ch).SnsLaw := by
  rw [s.report_eq]
  exact { law with }

/-- A channel replaced, its slot as it was and its value too where it is forced. -/
theorem Sns.Paired.putChannel {v : Sns} (law : v.Paired) (ch : ChannelIx) {c : Channel} (slot : c.slot = v.channels[ch].slot)
    (value : c.slot.isSome = true → c.value = v.channels[ch].value) :
    ({ v with channels := v.channels.set ch c } : Sns).Paired := by
  have slots (j : ChannelIx) : (v.channels.set ch c)[j].slot = v.channels[j].slot := by
    rw [getElem_set_ite]
    split
    · next same => rw [← same, slot]
    · rfl
  refine ⟨fun j i mem => ?_, fun i o mem => (slots _).trans (law.names i o mem)⟩
  have named := law.named j i (slots j ▸ mem)
  rw [getElem_set_ite]
  rw [getElem_set_ite] at mem
  split at mem
  · next same =>
    rw [if_pos same, value (Option.isSome_of_mem mem), named, same]
  · next other => rw [if_neg other, named]

theorem State.channels_putChannel {s : State} (law : ∀ ch : ChannelIx, (s.channel ch).Law (s.bound (.sc ch)))
    (ch : ChannelIx) {c : Channel} (channel : c.Law (s.bound (.sc ch))) (j : ChannelIx) : ((s.putChannel ch c).channel j).Law (s.bound (.sc j)) := by
  simp only [State.channel, State.putChannel_sns, getElem_set_ite]
  split
  · next same => rw [← same]; exact channel
  · exact law j

theorem State.snsLaw_putChannel {s : State} (law : s.SnsLaw) (ch : ChannelIx) {c : Channel}
    (channel : c.Law (s.bound (.sc ch))) (slot : c.slot = (s.channel ch).slot)
    (value : c.slot.isSome = true → c.value = (s.channel ch).value) : (s.putChannel ch c).SnsLaw :=
  ⟨State.channels_putChannel law.channels ch channel, law.paired.putChannel ch slot value⟩

/-! ### The slots -/

/-- A slot emptied, and its channel left by it. -/
theorem Sns.Paired.empty {v : Sns} (law : v.Paired) {i : SlotIx} {ch : ChannelIx} (names : v.channels[ch].slot = some i)
    {c : Channel} (slot : c.slot = none) :
    ({ v with slots := v.slots.set i none, channels := v.channels.set ch c } : Sns).Paired := by
  refine ⟨fun j k mem => ?_, fun k o mem => ?_⟩
  · simp only [getElem_set_ite] at mem ⊢
    split at mem
    · simp [slot] at mem
    · next other =>
      have named := law.named j k mem
      rw [if_neg fun same => ?_]
      · rw [if_neg other, named]
      · have own := law.named ch i names
        rw [same] at own
        exact other (congrArg Override.channel (Option.some.inj (own.symm.trans named)))
  · simp only [getElem_set_ite] at mem ⊢
    split at mem
    · simp at mem
    · next other =>
      rw [if_neg fun same => ?_]
      · exact law.names k o mem
      · obtain ⟨channel, value⟩ := o
        obtain rfl : ch = channel := same
        exact other (Option.some.inj (names.symm.trans (law.names k _ mem)))

/-- A slot filled, and its channel forced by it: the slot names no other channel, the channel no other slot. -/
theorem Sns.Paired.fill {v : Sns} (law : v.Paired) {i : SlotIx} {ch : ChannelIx}
    (slot : ∀ o ∈ v.slots[i], o.channel = ch) (channel : ∀ k ∈ v.channels[ch].slot, k = i) {c : Channel}
    (forced : c.slot = some i) :
    ({ v with slots := v.slots.set i (some ⟨ch, c.value⟩), channels := v.channels.set ch c } : Sns).Paired := by
  refine ⟨fun j k mem => ?_, fun k o mem => ?_⟩
  · simp only [getElem_set_ite] at mem ⊢
    split at mem
    · next same =>
      obtain rfl : i = k := by simpa [forced] using mem
      rw [if_pos rfl, if_pos same, same]
    · next other =>
      have named := law.named j k mem
      rw [if_neg fun same => ?_]
      · rw [if_neg other, named]
      · rw [← same] at named
        exact other (slot _ named).symm
  · simp only [getElem_set_ite] at mem ⊢
    split at mem
    · next same =>
      obtain rfl : (⟨ch, c.value⟩ : Override) = o := by simpa using mem
      rw [if_pos rfl, forced, same]
    · next other =>
      rw [if_neg fun same => ?_]
      · exact law.names k o mem
      · obtain ⟨own, value⟩ := o
        obtain rfl : ch = own := same
        exact other (channel k (law.names k _ mem)).symm

theorem State.releaseSlot_trm (s : State) (i : SlotIx) : (s.releaseSlot i).trm = s.trm :=
  s.touches_releaseSlot i .trm (by decide)

theorem State.settleChannel_trm (s : State) (ch : ChannelIx) (set : ChannelSettings) : (s.settleChannel ch set).trm = s.trm :=
  s.touches_settleChannel ch set .trm (by decide)

/-- R18: a released channel is HELD, its slot empty. -/
theorem State.snsLaw_releaseSlot {s : State} (law : s.SnsLaw) (i : SlotIx) : (s.releaseSlot i).SnsLaw := by
  unfold State.releaseSlot
  split
  · exact law
  · next o names =>
    have slot : (s.channel o.channel).slot = some i := law.paired.names i o names
    have channel := law.channels o.channel
    have forced := channel.forced.mpr (by rw [slot]; rfl)
    have bound : s.bound (.sc o.channel) = true := by
      by_contra unbound
      have absent := channel.absent.mpr (by simpa using unbound)
      rw [forced] at absent
      cases absent
    refine State.snsLaw_report ⟨?_, law.paired.empty slot rfl⟩ _
    refine State.channels_putChannel (s := s.putSlot i none) law.channels o.channel ?_
    show Channel.Law _ (s.bound (.sc o.channel))
    rw [bound]
    exact Channel.release_law channel forced _ _

/-- A channel that is not ABSENT is bound. -/
theorem State.SnsLaw.bound {s : State} (law : s.SnsLaw) {ch : ChannelIx} (present : (s.channel ch).state ≠ .absent) :
    s.bound (.sc ch) = true := by
  by_contra unbound
  exact present ((law.channels ch).absent.mpr (by simpa using unbound))

theorem State.releaseSlot_slots (s : State) (i : SlotIx) : (s.releaseSlot i).sns.slots[i] = none := by
  unfold State.releaseSlot
  split
  · next empty => exact empty
  · simp [State.report_eq]

/-- A release leaves the channels that the slot does not name. -/
theorem State.releaseSlot_channel (s : State) (i : SlotIx) {ch : ChannelIx}
    (other : ∀ o ∈ s.sns.slots[i], o.channel ≠ ch) : (s.releaseSlot i).channel ch = s.channel ch := by
  unfold State.releaseSlot
  split
  · rfl
  · next o names =>
    simp only [State.report_eq, State.channel, State.putChannel_sns, getElem_set_ite, State.putSlot_sns]
    rw [if_neg (other o names)]

/-- R16: a slot forces a bound channel that no other slot forces. -/
theorem State.snsLaw_force {s : State} (law : s.SnsLaw) (i : SlotIx) {ch : ChannelIx}
    (present : (s.channel ch).state ≠ .absent) (free : ∀ k ∈ (s.channel ch).slot, k = i) (v : Int) :
    (s.force i ch v).SnsLaw := by
  have bound := law.bound present
  have filled {s : State} (law : s.SnsLaw) (bound : s.bound (.sc ch) = true) (free : ∀ k ∈ (s.channel ch).slot, k = i)
      (names : ∀ o ∈ s.sns.slots[i], o.channel = ch) :
      (((s.putSlot i (some ⟨ch, v⟩)).putChannel ch ((s.channel ch).force i v)).report ch).SnsLaw := by
    refine State.snsLaw_report ⟨?_, law.paired.fill names free (c := (s.channel ch).force i v) rfl⟩ _
    refine State.channels_putChannel (s := s.putSlot i _) law.channels ch ?_
    show Channel.Law _ (s.bound (.sc ch))
    rw [bound]
    exact Channel.force_law _ i v
  unfold State.force
  dsimp only
  split
  · next empty => exact filled law bound free (by simp [empty])
  · next o names =>
    split
    · next same => exact filled law bound free (by simpa [names] using same)
    · next other =>
      have kept : (s.releaseSlot i).channel ch = s.channel ch := s.releaseSlot_channel i (by simpa [names] using other)
      refine filled (State.snsLaw_releaseSlot law i) ?_ (by rwa [kept]) (by simp [s.releaseSlot_slots i])
      rw [State.bound_congr (congrArg Trm.map (s.releaseSlot_trm i)), bound]

theorem State.snsLaw_settleChannel {s : State} (law : s.SnsLaw) (ch : ChannelIx) (set : ChannelSettings) :
    (s.settleChannel ch set).SnsLaw := by
  obtain ⟨slot, value⟩ := (s.channel ch).settle_slot set
  have put : (s.putChannel ch ((s.channel ch).settle set)).SnsLaw :=
    State.snsLaw_putChannel law ch (Channel.settle_law (law.channels ch) set) slot fun forced =>
      value ((law.channels ch).forced.mpr (slot ▸ forced))
  unfold State.settleChannel
  dsimp only
  split
  · exact State.snsLaw_report put ch
  · exact put

/-! ### Binding and unbinding -/

/-- R7: a sensor function bound: SNS's part, once the map carries it. -/
theorem State.snsLaw_bindChannel {s t : State} (law : s.SnsLaw) (ch : ChannelIx) (unbound : s.bound (.sc ch) = false)
    (sns : t.sns = s.sns) (bound : t.bound (.sc ch) = true) (others : ∀ f, f ≠ .sc ch → t.bound f = s.bound f) :
    (t.bindChannel ch).SnsLaw := by
  have channel (j : ChannelIx) : t.channel j = s.channel j := by simp only [State.channel, sns]
  have paired : t.sns.Paired := sns ▸ law.paired
  have own := law.channels ch
  rw [unbound] at own
  have slot : (s.channel ch).slot = none := own.unforced (by rw [own.absent.mpr rfl]; decide)
  have none : ((t.channel ch).bind t.now).slot = none := by rw [channel]; exact slot
  refine State.snsLaw_report ⟨fun j => ?_, paired.putChannel ch ?_ ?_⟩ _
  · simp only [State.channel, State.putChannel_sns, getElem_set_ite]
    split
    · next same =>
      show Channel.Law _ (t.bound (.sc j))
      rw [← same, bound]
      rw [← channel] at own
      exact Channel.bind_law own _
    · next other =>
      show Channel.Law _ (t.bound (.sc j))
      rw [others (.sc j) (by simpa using fun same => other same.symm)]
      have kept := law.channels j
      rwa [← channel] at kept
  · exact none.trans (by rw [← slot, ← channel]; rfl)
  · exact fun some => by rw [none] at some; cases some

/-- R7: a sensor function unbound: SNS's part, and the map without it. -/
theorem State.snsLaw_unbindChannel {s t : State} (law : s.SnsLaw) (ch : ChannelIx) (sns : t.sns = (s.unbindChannel ch).sns)
    (unbound : t.bound (.sc ch) = false) (others : ∀ f, f ≠ .sc ch → t.bound f = s.bound f) : t.SnsLaw := by
  have slot : (s.channel ch).unbind.slot = none := rfl
  have channels (v : State) (same : v.sns.channels = s.sns.channels.set ch (s.channel ch).unbind) (j : ChannelIx)
      (kept : t.sns = v.sns) : (t.channel j).Law (t.bound (.sc j)) := by
    simp only [State.channel, kept, same, getElem_set_ite]
    split
    · next here =>
      rw [← here, unbound]
      exact Channel.unbind_law _
    · next other =>
      rw [others (.sc j) (by simpa using fun same => other same.symm)]
      exact law.channels j
  unfold State.unbindChannel at sns
  dsimp only at sns
  rw [State.report_eq] at sns
  split at sns
  · next unforced =>
    refine ⟨fun j => channels (s.putChannel ch _) rfl j sns, ?_⟩
    rw [sns]
    exact law.paired.putChannel ch (slot.trans unforced.symm) nofun
  · next i names =>
    refine ⟨fun j => channels ((s.putSlot i none).putChannel ch _) rfl j sns, ?_⟩
    rw [sns]
    exact law.paired.empty names slot

theorem State.bound_mapFunc (s : State) (f g : Func) (p : Option TerminalIx) :
    (s.mapFunc f p).bound g = if f = g then p.isSome else s.bound g := by
  simp only [State.bound_eq, State.mapFunc_trm, getElem_set_ite]
  by_cases same : f = g
  · simp [same]
  · rw [if_neg same, if_neg fun slot => same (Func.slot_injective slot)]

theorem State.levelEffect_sns (s : State) (f : Func) (on : Bool) : (s.levelEffect f on).sns = s.sns :=
  s.touches_levelEffect f on .sns (by decide)

theorem State.flush_sns (s : State) (f : Func) : (s.flush f).sns = s.sns := s.touches_flush f .sns (by decide)

theorem State.ownerBind_sns (s : State) {f : Func} (other : ∀ ch, f ≠ .sc ch) : (s.ownerBind f).sns = s.sns := by
  cases f with
  | sc ch => exact absurd rfl (other ch)
  | home d | sel d | step l | dir l =>
    exact (Touches.ite (l := driveItems) (fun _ => s.touches_drive _) fun _ => .refl _ _) .sns (by decide)
  | tach m => rfl
  | _ => rfl

theorem State.ownerUnbind_sns (s : State) {f : Func} (other : ∀ ch, f ≠ .sc ch) : (s.ownerUnbind f).sns = s.sns := by
  cases f with
  | sc ch => exact absurd rfl (other ch)
  | home d | sel d | step l | dir l =>
    exact (Touches.ite (l := driveItems) (fun _ => s.touches_drive _) fun _ => .refl _ _) .sns (by decide)
  | tach m => rfl
  | _ => rfl

/-- What a binding has of bound functions. -/
theorem State.bound_bindNew (s : State) (p : TerminalIx) (f g : Func) (c : BindSettings) :
    (s.bindNew p f c).bound g = if f = g then true else s.bound g := by
  refine (State.bound_congr (t := s.bindNew p f c) (s := s.mapFunc f (some p)) ?_ g).trans (s.bound_mapFunc f g (some p))
  rw [s.bindNew_trm]
  rfl

theorem State.bound_unbindTerminal (s : State) (p : TerminalIx) (f g : Func) :
    (s.unbindTerminal p f).bound g = if f = g then false else s.bound g := by
  refine (State.bound_congr (t := s.unbindTerminal p f) (s := s.mapFunc f none) ?_ g).trans (s.bound_mapFunc f g none)
  rw [s.unbindTerminal_trm]
  rfl

theorem State.bound_rebind (s : State) (p : TerminalIx) (f g : Func) (c : BindSettings) :
    (s.rebind p f c).bound g = s.bound g := by
  refine State.bound_congr ?_ g
  rw [s.rebind_trm]

/-- SNS hears of the binding of a sensor function only. -/
theorem State.bindNew_sns (s : State) (p : TerminalIx) {f : Func} (other : ∀ ch, f ≠ .sc ch) (c : BindSettings) :
    (s.bindNew p f c).sns = s.sns := by
  unfold State.bindNew
  dsimp only
  split <;> simp only [State.levelEffect_sns, State.ownerBind_sns _ other, State.mapFunc_sns, State.putTerminal_sns,
    State.flush_sns]

theorem State.unbindTerminal_sns (s : State) (p : TerminalIx) {f : Func} (other : ∀ ch, f ≠ .sc ch) :
    (s.unbindTerminal p f).sns = s.sns := by
  unfold State.unbindTerminal
  dsimp only
  split <;> simp only [State.levelEffect_sns, State.ownerUnbind_sns _ other, State.mapFunc_sns, State.putTerminal_sns,
    State.flush_sns]

theorem State.rebind_sns (s : State) (p : TerminalIx) (f : Func) (c : BindSettings) : (s.rebind p f c).sns = s.sns := by
  have put (e : Terminal) : ((s.flush f).putTerminal p e).sns = s.sns := s.flush_sns f
  unfold State.rebind
  dsimp only
  split
  · split
    · exact put _
    · exact (State.touches_tachStart _ _ .sns (by decide)).trans (put _)
  all_goals first
    | exact put _
    | (split
       · exact put _
       · exact (State.levelEffect_sns _ _ _).trans (put _))

theorem State.snsLaw_bindNew {s : State} (law : s.SnsLaw) (p : TerminalIx) {f : Func} (unbound : s.bound f = false)
    (c : BindSettings) : (s.bindNew p f c).SnsLaw := by
  by_cases sensor : ∃ ch, f = .sc ch
  · obtain ⟨ch, rfl⟩ := sensor
    let entry : Terminal := (s.terminal p).bound (.sc ch) c
    let mapped : State := ((s.flush (.sc ch)).putTerminal p entry).mapFunc (.sc ch) (some p)
    have flushed (f : Func) : ((s.flush (.sc ch)).putTerminal p entry).bound f = s.bound f :=
      State.bound_congr (congrArg Trm.map (s.flush_trm _)) f
    have told : (mapped.bindChannel ch).SnsLaw := by
      refine State.snsLaw_bindChannel law ch unbound (s.flush_sns _) ?_ fun g other => ?_
      · exact (State.bound_mapFunc _ _ _ _).trans (if_pos rfl)
      · exact (State.bound_mapFunc _ _ _ _).trans ((if_neg other.symm).trans (flushed g))
    have undigital : s.bindNew p (.sc ch) c = mapped.bindChannel ch := rfl
    exact undigital ▸ told
  · have other : ∀ ch, f ≠ .sc ch := fun ch same => sensor ⟨ch, same⟩
    exact State.snsLaw_of_bound law (s.bindNew_sns p other c) fun ch => by rw [s.bound_bindNew, if_neg (other ch)]

theorem State.snsLaw_unbindTerminal {s : State} (law : s.SnsLaw) (p : TerminalIx) (f : Func) : (s.unbindTerminal p f).SnsLaw := by
  by_cases sensor : ∃ ch, f = .sc ch
  · obtain ⟨ch, rfl⟩ := sensor
    let before : State := if (s.terminal p).debounced then (s.flush (.sc ch)).levelEffect (.sc ch) false else s.flush (.sc ch)
    have told : (s.unbindTerminal p (.sc ch)).sns = (before.unbindChannel ch).sns := rfl
    have flushed : before.SnsLaw := by
      show (if _ then _ else _ : State).SnsLaw
      split <;> exact State.snsLaw_congr law (s.flush_sns _) (congrArg Trm.map (s.flush_trm _))
    have bound (g : Func) : before.bound g = s.bound g := by
      show (if _ then _ else _ : State).bound g = _
      split <;> exact State.bound_congr (congrArg Trm.map (s.flush_trm _)) g
    refine State.snsLaw_unbindChannel flushed ch told ?_ fun g other => ?_
    · rw [s.bound_unbindTerminal, if_pos rfl]
    · rw [s.bound_unbindTerminal, if_neg other.symm, bound]
  · have other : ∀ ch, f ≠ .sc ch := fun ch same => sensor ⟨ch, same⟩
    exact State.snsLaw_of_bound law (s.unbindTerminal_sns p other) fun ch => by rw [s.bound_unbindTerminal, if_neg (other ch)]

/-! ### The part-wide event -/

theorem Block.resetItems_sns {b : Block} (other : b ≠ .sns) : Item.sns ∉ b.resetItems := by
  revert other; cases b <;> decide

theorem Block.resetItems_trm (b : Block) : Item.trm ∉ b.resetItems := by cases b <;> decide

theorem State.snsLaw_snsLinkReset {s : State} (law : s.SnsLaw) : s.snsLinkReset.SnsLaw := by
  unfold State.snsLinkReset
  refine foldl_keeps State.SnsLaw (fun t i law => State.snsLaw_releaseSlot law i) allSlots ?_
  split
  · exact law
  · exact foldl_keeps State.SnsLaw (fun t ch law => State.snsLaw_settleChannel law ch _) allChannels law

theorem State.snsLaw_linkReset {s : State} (law : s.SnsLaw) : s.linkReset.SnsLaw := by
  refine State.snsLaw_of_touches (s := s.blockOrder.foldl State.resetBlock _) ?_ (State.touches_linkAfterLinkReset _)
    (by decide) (by decide)
  refine foldl_keeps State.SnsLaw (fun t b law => ?_) s.blockOrder { law with }
  by_cases own : b = .sns
  · subst own
    rw [State.resetBlock]
    exact State.snsLaw_snsLinkReset law
  · exact State.snsLaw_of_touches law (t.touches_resetBlock_own b) (Block.resetItems_sns own) b.resetItems_trm

/-! ### The commands -/

theorem State.debounce_map (s : State) (p : TerminalIx) (f : Func) : (s.debounce p f).trm.map = s.trm.map := by
  unfold State.debounce
  dsimp only
  split
  · rw [s.takeLevel_trm]
  · rfl

/-- A change of level binds nothing. -/
theorem State.pinChanged_map (s : State) (p : TerminalIx) (high : Bool) : (s.pinChanged p high).trm.map = s.trm.map := by
  unfold State.pinChanged
  dsimp only
  split
  · rfl
  · split <;> rfl
  · split
    · exact State.debounce_map _ _ _
    · rfl

theorem snsLaw_hardwareReset (s : State) (kind : ResetKind) : (s.hardwareReset kind).SnsLaw := by
  have bound (f : Func) : (s.hardwareReset kind).bound f = false := by
    simp [State.bound_eq, State.hardwareReset, Trm.hardwareReset]
  have channels : ∀ ch : ChannelIx, (snsReset.channels[ch]).Law false := fun ch => by
    constructor <;> revert ch <;> decide
  have slots : ∀ i : SlotIx, snsReset.slots[i] = none := by decide
  have slot : ∀ ch : ChannelIx, snsReset.channels[ch].slot = none := by decide
  refine ⟨fun ch => ?_, fun ch i mem => ?_, fun i o mem => ?_⟩
  · rw [bound]
    exact channels ch
  · have mem : i ∈ snsReset.channels[ch].slot := mem
    rw [slot ch] at mem
    cases mem
  · have mem : o ∈ snsReset.slots[i] := mem
    rw [slots i] at mem
    cases mem

section SensorLaw

variable {s t : State} (law : s.SnsLaw)
include law

theorem execLinkResetEffect_snsLaw (h : execLinkResetEffect s = .next t) : t.SnsLaw := by
  refine State.take_keeps h { law with } fun s law => ?_
  split
  · exact State.snsLaw_linkReset law
  · exact law

theorem execBind_snsLaw {b0 b1 b2 b3 b4 : Byte} (h : execBind b0 b1 b2 b3 b4 s = .next t) : t.SnsLaw := by
  refine State.take_keeps h { law with } fun s law => ?_
  split
  · split
    · exact State.snsLaw_status law _ _
    · next p f c _ =>
      split
      · exact State.snsLaw_status law _ _
      · split
        · split
          · refine State.snsLaw_status ?_ _ _
            exact State.snsLaw_of_bound law (s.rebind_sns p f c) fun ch => s.bound_rebind p f _ c
          · exact State.snsLaw_status law _ _
        · split
          · exact State.snsLaw_status law _ _
          · next unbound => exact State.snsLaw_status (State.snsLaw_bindNew law p (by simpa using unbound) c) _ _
  · exact State.snsLaw_status law _ _

theorem execUnbind_snsLaw {b : Byte} (h : execUnbind b s = .next t) : t.SnsLaw := by
  refine State.take_keeps h { law with } fun s law => ?_
  split
  · exact State.snsLaw_status law _ _
  · split
    · exact State.snsLaw_status law _ _
    · split
      · exact State.snsLaw_status law _ _
      · exact State.snsLaw_status (State.snsLaw_unbindTerminal law _ _) _ _

theorem execPinChange_snsLaw {p : TerminalIx} {high : Bool} (h : execPinChange p high s = .next t) : t.SnsLaw := by
  cases h
  split
  · exact law
  · exact State.snsLaw_congr law (s.touches_pinChanged p high .sns (by decide)) (s.pinChanged_map p high)

theorem execDebounceTimerExpiry_snsLaw {p : TerminalIx} (h : execDebounceTimerExpiry p s = .next t) : t.SnsLaw := by
  refine State.own_keeps h law fun s law => ?_
  split
  · refine State.snsLaw_congr law (s.touches_takeLevel _ _ .sns (by decide)) ?_
    rw [s.takeLevel_trm]
  · exact law

theorem execSampleArrival_snsLaw {ch : ChannelIx} {raw : BitVec 12} (h : execSampleArrival ch raw s = .next t) : t.SnsLaw := by
  refine State.own_keeps h law fun s law => ?_
  split
  · exact law
  · next present =>
    have bound := law.bound present
    obtain ⟨slot, value⟩ := (s.channel ch).sample_slot s.now raw.toNat
    refine State.snsLaw_report (State.snsLaw_putChannel law ch ?_ slot fun forced => ?_) ch
    · have channel := law.channels ch
      rw [bound] at channel ⊢
      exact Channel.sample_law channel _ _
    · exact value ((law.channels ch).forced.mpr (slot ▸ forced))

theorem execWarmUpExpiry_snsLaw {ch : ChannelIx} (h : execWarmUpExpiry ch s = .next t) : t.SnsLaw := by
  refine State.own_keeps h law fun s law => ?_
  split
  · next due runs =>
    have channel := law.channels ch
    have warming := channel.timed (by rw [runs]; rfl)
    refine State.snsLaw_putChannel law ch ?_ rfl fun _ => rfl
    refine { channel with hold := fun holds => ?_, timed := nofun, warming := fun _ => nofun }
    exact .inr ⟨warming, rfl⟩
  · exact law
  · exact law

theorem execChannelHoldExpiry_snsLaw {ch : ChannelIx} (h : execChannelHoldExpiry ch s = .next t) : t.SnsLaw := by
  refine State.own_keeps h law fun s law => ?_
  dsimp only
  split
  · exact law
  · next due runs =>
    have channel := law.channels ch
    have holds : (s.channel ch).hold.isSome = true := by rw [runs]; rfl
    have state := channel.hold holds
    have present : (s.channel ch).state ≠ .absent := by
      rcases state with held | warming
      · rw [held]; decide
      · rw [warming.1]; decide
    have unforced : (s.channel ch).slot = none := channel.unforced (by
      rcases state with held | warming
      · rw [held]; decide
      · rw [warming.1]; decide)
    refine State.snsLaw_report (State.snsLaw_raise ?_ _ _) ch
    refine State.snsLaw_putChannel law ch ?_ rfl fun forced => ?_
    · rw [law.bound present] at channel ⊢
      exact Channel.fail_law channel holds
    · have forced : (s.channel ch).slot.isSome = true := forced
      rw [unforced] at forced
      cases forced

theorem execSetChannel_snsLaw {b0 b8 : Byte} {h1 h2 h3 h4 h5 h6 h7 : Half}
    (h : execSetChannel b0 h1 h2 h3 h4 h5 h6 h7 b8 s = .next t) : t.SnsLaw := by
  refine State.take_keeps h { law with } fun s law => ?_
  split
  · exact State.snsLaw_status law _ _
  · split
    · exact State.snsLaw_status law _ _
    · dsimp only
      split
      · exact State.snsLaw_status law _ _
      · exact State.snsLaw_status (State.snsLaw_settleChannel law _ _) _ _

theorem execSetOverride_snsLaw {b0 b1 : Byte} {h2 : Half} (h : execSetOverride b0 b1 h2 s = .next t) : t.SnsLaw := by
  refine State.take_keeps h { law with } fun s law => ?_
  split
  · next i ch _ _ =>
    dsimp only
    split
    · exact State.snsLaw_status law _ _
    · next present =>
      split
      · exact State.snsLaw_status law _ _
      · next free =>
        refine State.snsLaw_status (State.snsLaw_force law i present (fun k mem => ?_) _) _ _
        by_contra other
        exact free ⟨by rw [Option.mem_def.mp mem]; nofun, by rw [Option.mem_def.mp mem]; simpa using other⟩
  · exact State.snsLaw_status law _ _

theorem execClearOverride_snsLaw {b : Byte} (h : execClearOverride b s = .next t) : t.SnsLaw := by
  refine State.take_keeps h { law with } fun s law => ?_
  split
  · exact State.snsLaw_status law _ _
  · exact State.snsLaw_status (State.snsLaw_releaseSlot law _) _ _

end SensorLaw

theorem exec_snsLaw (c : Instr) (s t : State) (law : s.SnsLaw) (h : exec c s = .next t) : t.SnsLaw := by
  have kept (sns : Command.leaves c .sns = true) (trm : Command.leaves c .trm = true) : t.SnsLaw :=
    State.snsLaw_congr law (exec_same h .sns sns) (congrArg Trm.map (exec_same h .trm trm))
  cases c with
  | hardwareReset kind => cases h; exact snsLaw_hardwareReset s kind
  | linkResetEffect => exact execLinkResetEffect_snsLaw law h
  | bind b0 b1 b2 b3 b4 => exact execBind_snsLaw law h
  | unbind b => exact execUnbind_snsLaw law h
  | pinChange p high => exact execPinChange_snsLaw law h
  | debounceTimerExpiry p => exact execDebounceTimerExpiry_snsLaw law h
  | sampleArrival ch raw => exact execSampleArrival_snsLaw law h
  | warmUpExpiry ch => exact execWarmUpExpiry_snsLaw law h
  | channelHoldExpiry ch => exact execChannelHoldExpiry_snsLaw law h
  | setChannel b0 h1 h2 h3 h4 h5 h6 h7 b8 => exact execSetChannel_snsLaw law h
  | setOverride b0 b1 h2 => exact execSetOverride_snsLaw law h
  | clearOverride b => exact execClearOverride_snsLaw law h
  | _ => exact kept rfl rfl

end Sys2Proof.Machine

namespace Sys2Proof

open Sys2Proof.Machine

/-- Settles O10: each channel event keeps the channel's law, the slots and the channels that they force change together, and
a sensor function is bound and unbound in the map and at SNS alike. -/
theorem stepKeepsTheSensorLaw : Obligations.StepKeepsTheSensorLaw := by
  intro s t law h
  refine t.sensorLaw_iff.mpr ?_
  exact step_keeps (P := State.SnsLaw) (fun _ _ law => { law with }) (fun _ _ law => { law with })
    (fun c s t => exec_snsLaw c s t) (s.sensorLaw_iff.mp law) h

end Sys2Proof

/-! The percent law: each block hands and keeps percents in 0 to 100. -/

namespace Sys2Proof.Machine

open State (Touches)

/-! ### The blocks -/

/-- The five outputs of ZON. -/
structure ZonOutputs.Percents (o : ZonOutputs) : Prop where
  fresh : o.fresh ≤ 100
  front : o.front ≤ 100
  rear : o.rear ≤ 100
  heat : o.heat ≤ 100

/-- What a zone record brings to the outputs. -/
structure Zone.Percents (z : Zone) : Prop where
  fresh : z.fresh ≤ 100
  blower : z.blower ≤ 100
  demand : z.demand ≤ 100 ∧ -100 ≤ z.demand

/-- ZON's records. -/
structure Zon.Percents (v : Zon) : Prop where
  out : v.out.Percents
  zones : ∀ z : ZoneIx, v.zones[z].Percents
  floor : v.tuning.minBlower ≤ 100

/-- ADM's press fraction and the fresh demand that it has taken. -/
structure Adm.Percents (a : Adm) : Prop where
  press : a.settings.pressFraction ≤ 100
  fresh : a.fresh ≤ 100

/-- One mover. -/
structure Mover.Percents (r : Mover) : Prop where
  demand : r.demand ≤ 100
  duty : r.duty ≤ 100

/-- MOV's records. -/
structure Mov.Percents (v : Mov) : Prop where
  breach : v.pressure.breachDuty ≤ 100
  front : v.front ≤ 100
  rear : v.rear ≤ 100
  loop : v.loop.duty ≤ 100
  movers : ∀ m : MoverIx, v.movers[m].Percents

/-- The percent law but for the commands that wait outside. -/
structure State.Percents (s : State) : Prop where
  handed : s.PercentsHanded
  zon : s.zon.Percents
  adm : s.adm.Percents
  mov : s.mov.Percents
  heu : s.heu.demand ≤ 100

theorem State.percentLaw_iff (s : State) : s.PercentLaw ↔ (∀ c ∈ s.pending, percentEvent c = true) ∧ s.Percents := by
  constructor
  · rintro ⟨pending, handed, oFresh, oFront, oRear, oHeat, zones, floor, press, breach, front, rear, loop, movers, fresh, heu⟩
    refine ⟨pending, handed, ⟨⟨oFresh, oFront, oRear, oHeat⟩, fun z => ?_, floor⟩, ⟨press, fresh⟩,
      ⟨breach, front, rear, loop, fun m => ⟨(movers m).1, (movers m).2⟩⟩, heu⟩
    obtain ⟨zFresh, blower, high, low⟩ := zones z
    exact ⟨zFresh, blower, high, low⟩
  · rintro ⟨pending, handed, ⟨⟨oFresh, oFront, oRear, oHeat⟩, zones, floor⟩, ⟨press, fresh⟩,
      ⟨breach, front, rear, loop, movers⟩, heu⟩
    exact ⟨pending, handed, oFresh, oFront, oRear, oHeat,
      fun z => ⟨(zones z).fresh, (zones z).blower, (zones z).demand.1, (zones z).demand.2⟩, floor, press, breach, front, rear,
      loop, fun m => ⟨(movers m).demand, (movers m).duty⟩, fresh, heu⟩

theorem State.percents_of_same {s t : State} (law : s.Percents) (handed : s.Same t .percents) (zon : s.Same t .zon)
    (adm : s.Same t .adm) (mov : s.Same t .mov) (heu : s.Same t .heu) : t.Percents := by
  simp only [State.Same] at handed zon adm mov heu
  exact ⟨handed law.handed, zon ▸ law.zon, adm ▸ law.adm, mov ▸ law.mov, heu ▸ law.heu⟩

/-- An operation that touches none of the percents. -/
theorem State.percents_of_touches {l : List Item} {s t : State} (law : s.Percents) (touched : Touches l s t)
    (none : covers [.pending, .handed, .now, .free, .blockOrder, .sns, .asr, .ddr, .trm, .sources, .fault, .partState,
      .partRest, .receive, .reply, .attention] l = true) : t.Percents := by
  have left (i : Item) (out : i ∉ [Item.pending, .handed, .now, .free, .blockOrder, .sns, .asr, .ddr, .trm, .sources,
      .fault, .partState, .partRest, .receive, .reply, .attention]) : s.Same t i :=
    touched i fun mem => out (mem_of_covers none mem)
  exact State.percents_of_same law (left _ (by decide)) (left _ (by decide)) (left _ (by decide)) (left _ (by decide))
    (left _ (by decide))

theorem State.percents_status {s : State} (law : s.Percents) (r : Req) (code : StatusCode) : (s.status r code).Percents :=
  { law with }

theorem State.percents_raise {s : State} (law : s.Percents) (i : SourceIx) (d : Nat) : (s.raise i d).Percents :=
  { law with }

theorem State.percents_strike {s : State} (law : s.Percents) (c : Instr) : (s.strike c).Percents :=
  State.percents_of_touches law (s.touches_strike c) rfl

/-! ### ZON -/

theorem foldl_max_le {α : Type} {l : List α} {f : α → Nat} {n : Nat} (h : ∀ a ∈ l, f a ≤ n) {m : Nat} (hm : m ≤ n) :
    l.foldl (fun m a => max m (f a)) m ≤ n := by
  induction l generalizing m with
  | nil => exact hm
  | cons a l ih =>
    exact ih (fun b mem => h b (List.mem_cons_of_mem a mem)) (max_le hm (h a List.mem_cons_self))

theorem largest_le {zs : List Zone} {f : Zone → Nat} {n : Nat} (h : ∀ z ∈ zs, f z ≤ n) : largest zs f ≤ n :=
  foldl_max_le h (Nat.zero_le n)

theorem Zon.mem_enabledZones {v : Zon} {r : Zone} (mem : r ∈ v.enabledZones) :
    ∃ z : ZoneIx, r = v.zones[z] ∧ v.zones[z].enabled = true := by
  obtain ⟨listed, enabled⟩ := List.mem_filter.mp mem
  obtain ⟨i, lt, rfl⟩ := List.getElem_of_mem listed
  have lt : i < 4 := by simpa using lt
  exact ⟨⟨i, lt⟩, by simp, by simpa using enabled⟩

theorem Zon.mem_groupZones {v : Zon} {g : Group} {r : Zone} (mem : r ∈ v.groupZones g) :
    ∃ z : ZoneIx, zoneGroup z = g ∧ r = v.zones[z] ∧ v.zones[z].enabled = true := by
  cases g <;> simp only [Zon.groupZones, List.mem_filter, List.mem_cons, List.not_mem_nil, or_false] at mem
  · obtain ⟨rfl | rfl, enabled⟩ := mem
    · exact ⟨0, rfl, rfl, enabled⟩
    · exact ⟨1, rfl, rfl, enabled⟩
  · obtain ⟨rfl | rfl, enabled⟩ := mem
    · exact ⟨2, rfl, rfl, enabled⟩
    · exact ⟨3, rfl, rfl, enabled⟩

theorem Zon.groupDemand_le {v : Zon} (zones : ∀ z : ZoneIx, v.zones[z].Percents) (g : Group) : v.groupDemand g ≤ 100 := by
  have le : largest (v.groupZones g) (fun z => z.blower) ≤ 100 := largest_le fun r mem => by
    obtain ⟨z, -, rfl, -⟩ := Zon.mem_groupZones mem
    exact (zones z).blower
  unfold Zon.groupDemand
  cases g with
  | front =>
    dsimp only
    split
    · exact max_le (by decide) le
    · exact le
  | rear => exact le

theorem Zon.outputs_percents {v : Zon} (zones : ∀ z : ZoneIx, v.zones[z].Percents) : v.outputs.Percents where
  fresh := largest_le fun r mem => by
    obtain ⟨z, rfl, -⟩ := Zon.mem_enabledZones mem
    exact (zones z).fresh
  front := Zon.groupDemand_le zones .front
  rear := Zon.groupDemand_le zones .rear
  heat := largest_le fun r mem => by
    obtain ⟨z, rfl, -⟩ := Zon.mem_enabledZones mem
    have := (zones z).demand.1
    omega

theorem zonOutputsZero_percents : zonOutputsZero.Percents := by constructor <;> decide

theorem percentEvent_outputEvents {old new : ZonOutputs} (law : new.Percents) :
    ∀ c ∈ outputEvents old new, percentEvent c = true := by
  intro c mem
  obtain ⟨fresh, front, rear, heat⟩ := law
  simp only [outputEvents, List.mem_append] at mem
  have one {p : Prop} [Decidable p] {e : Instr} (mem : c ∈ (if p then [] else [e])) : c = e := by
    split at mem
    · cases mem
    · simpa using mem
  obtain (((mem | mem) | mem) | mem) | mem := mem <;> obtain rfl := one mem <;> simp [percentEvent, percentFits, *]

/-- R79 to R82: outputs in range are handed in range. -/
theorem State.percents_setOutputs {s : State} (law : s.Percents) {o : ZonOutputs} (out : o.Percents) :
    (s.setOutputs o).Percents := by
  refine ⟨?_, { law.zon with out := out }, law.adm, law.mov, law.heu⟩
  intro c mem
  obtain waits | told := List.mem_append.mp mem
  · exact law.handed c waits
  · exact percentEvent_outputEvents out c told

theorem State.percents_recompute {s : State} (law : s.Percents) : s.recompute.Percents := by
  refine State.percents_setOutputs law ?_
  split
  · exact Zon.outputs_percents law.zon.zones
  · exact zonOutputsZero_percents

theorem State.percents_recomputeGroups {s : State} (law : s.Percents) : s.recomputeGroups.Percents := by
  have demand (g : Group) : (if s.inRun = true then s.zon.groupDemand g else 0) ≤ 100 := by
    split
    · exact Zon.groupDemand_le law.zon.zones g
    · exact Nat.zero_le _
  exact State.percents_setOutputs law { law.zon.out with front := demand .front, rear := demand .rear }

theorem Zone.step_percents {z : Zone} (law : z.Percents) {c : Tuning} (floor : c.minBlower ≤ 100) (i : ZoneInputs) :
    (z.step c i).Percents := by
  have demand := clampInt_range (lo := -100) (hi := 100) (by decide)
    (rha (zoneError z.setpoint i.temperature.2 * c.kp) 64 + z.nextIntegral c i (zoneError z.setpoint i.temperature.2))
  have moded : (if i.temperature.1 = .usable then z.control c i else { z with mode := .hold }).Percents := by
    split
    · refine ⟨law.fresh, ?_, demand.2, demand.1⟩
      show max _ (z.control c i).demand.natAbs ≤ 100
      have low : -100 ≤ (z.control c i).demand := demand.1
      have high : (z.control c i).demand ≤ 100 := demand.2
      omega
    · exact { law with }
  exact { moded with fresh := min_le_left _ _ }

theorem State.percents_putZone {s : State} (law : s.Percents) (z : ZoneIx) {r : Zone} (zone : r.Percents) :
    (s.putZone z r).Percents :=
  ⟨law.handed, { law.zon with zones := forall_getElem_set (P := Zone.Percents) z zone law.zon.zones }, law.adm, law.mov, law.heu⟩

theorem State.percents_order {s : State} (law : s.Percents) (d : DamperIx) (n : Nat) (k : OrderClass) (src : OrderSource) :
    (s.order d n k src).Percents := State.percents_of_touches law (s.touches_order d n k src) rfl

theorem State.Percents.zone {s : State} (law : s.Percents) (z : ZoneIx) : (s.zone z).Percents := law.zon.zones z

theorem State.percents_orderBlend {s : State} (law : s.Percents) (z : ZoneIx) : (s.orderBlend z).Percents := by
  unfold State.orderBlend
  dsimp only
  split
  · exact law
  · refine State.percents_order ?_ _ _ _ _
    exact State.percents_putZone law z { law.zone z with }

theorem State.percents_stepZone {s : State} (law : s.Percents) (z : ZoneIx) : (s.stepZone z).Percents := by
  have updated := Zone.step_percents (law.zone z) law.zon.floor (s.zoneInputs z)
  unfold State.stepZone
  refine State.percents_orderBlend ?_ z
  unfold State.raiseHold
  split
  · refine State.percents_raise ?_ _ _
    exact State.percents_putZone law z { updated with }
  · exact State.percents_putZone law z { updated with }

theorem State.percents_startZone {s : State} (law : s.Percents) (z : ZoneIx) : (s.startZone z).Percents := by
  refine State.percents_stepZone ?_ z
  exact State.percents_putZone law z { law.zone z with }

theorem State.percents_stopZone {s : State} (law : s.Percents) (z : ZoneIx) : (s.stopZone z).Percents := by
  refine State.percents_order ?_ _ _ _ _
  exact State.percents_putZone law z ⟨Nat.zero_le _, Nat.zero_le _, by simp⟩

theorem State.percents_orderDefrost {s : State} (law : s.Percents) : s.orderDefrost.Percents := by
  refine State.percents_order ?_ _ _ _ _
  exact { law with zon := { law.zon with } }

theorem State.percents_setZone {s : State} (law : s.Percents) (z : ZoneIx) (enabled : Bool) (setpoint : Nat) :
    (s.setZone z enabled setpoint).Percents := by
  have put : (s.putZone z { s.zone z with enabled := enabled, setpoint := setpoint }).Percents :=
    State.percents_putZone law z { law.zone z with }
  unfold State.setZone
  dsimp only
  split
  · refine State.percents_recompute ?_
    split
    · refine State.percents_startZone ?_ z
      exact State.percents_putZone put z { put.zone z with }
    · exact State.percents_stopZone put z
  · exact put

theorem State.percents_setDefrost {s : State} (law : s.Percents) (flag : Bool) : (s.setDefrost flag).Percents := by
  have put : ({ s with zon := { s.zon with defrost := flag } } : State).Percents := { law with zon := { law.zon with } }
  unfold State.setDefrost
  dsimp only
  split
  · refine State.percents_recomputeGroups ?_
    split
    · exact put
    · exact State.percents_orderDefrost put
  · exact put

theorem State.percents_zonEnterRun {s : State} (law : s.Percents) : s.zonEnterRun.Percents := by
  rw [s.zonEnterRun_eq]
  refine State.percents_recompute (State.percents_orderDefrost ?_)
  refine foldl_keeps State.Percents (fun t z law => ?_) allZones law
  unfold State.enterZone
  split
  · exact State.percents_startZone law z
  · exact law

theorem State.percents_zonLeaveRun {s : State} (law : s.Percents) : s.zonLeaveRun.Percents := by
  refine State.percents_setOutputs ?_ zonOutputsZero_percents
  refine ⟨law.handed, ⟨law.zon.out, fun z => ?_, law.zon.floor⟩, law.adm, law.mov, law.heu⟩
  simp only [Fin.getElem_fin, tableMap_getElem]
  exact ⟨Nat.zero_le _, Nat.zero_le _, by simp [Zone.leave]⟩

theorem State.percents_zonLinkReset {s : State} (law : s.Percents) : s.zonLinkReset.Percents := by
  have left := State.percents_zonLeaveRun law
  unfold State.zonLinkReset
  dsimp only
  split
  · exact left
  · refine ⟨left.handed, ⟨left.zon.out, fun z => ?_, (by decide : tuningDefaults.minBlower ≤ 100)⟩, left.adm, left.mov, left.heu⟩
    have zone := left.zon.zones z
    simp only [Fin.getElem_fin, tableMap_getElem]
    exact { zone with }

/-! ### ADM -/

/-- R48 to R50: acceptance changes the accepted state and its hold timer. -/
theorem Adm.accept_shape (a : Adm) (now : Time) (immediate : Bool) :
    ∃ state hold, a.accept now immediate = { a with accepted := state, hold := hold } := by
  unfold Adm.accept
  split
  · exact ⟨_, _, rfl⟩
  · split
    · split <;> exact ⟨_, _, rfl⟩
    · exact ⟨_, _, rfl⟩

/-- R57 to R59: the purge stage changes the purge. -/
theorem Adm.judgePurge_shape (a : Adm) (now : Time) (started : Bool) :
    ∃ p, a.judgePurge now started = { a with purge := p } := by
  unfold Adm.judgePurge
  split
  · exact ⟨_, rfl⟩
  · split
    · exact ⟨_, rfl⟩
    · split
      · split <;> exact ⟨_, rfl⟩
      · exact ⟨_, rfl⟩

/-- R44: the stages up to the purge change the demanded and accepted state, hold, breach, purge and the two conditions. -/
theorem State.admDecide_shape (s : State) (c : AdmCause) (before : Adm) :
    ∃ state hold b p, (s.admDecide c before).1 =
      { s.adm.form (s.levelAt c 0) (s.levelAt c 1) (s.levelAt c 2) with
        accepted := state, hold := hold, breach := b, purge := p } := by
  let formed := s.adm.form (s.levelAt c 0) (s.levelAt c 1) (s.levelAt c 2)
  obtain ⟨state, hold, accepted⟩ := formed.accept_shape s.now c.immediate
  obtain ⟨b, breached, -⟩ := (formed.accept s.now c.immediate).judgeBreach_breach s.now
  obtain ⟨p, purged⟩ := Adm.judgePurge_shape ((formed.accept s.now c.immediate).judgeBreach s.now).1 s.now
    (s.admDecide c before).2
  refine ⟨state, hold, b, p, purged.trans ?_⟩
  rw [breached, accepted]

/-- R44: the stages leave the settings and the fresh demand taken. -/
theorem State.admStages_inputs (s : State) (c : AdmCause) (before : Adm) :
    (s.admStages c before).adm.settings = s.adm.settings ∧ (s.admStages c before).adm.fresh = s.adm.fresh := by
  obtain ⟨⟨chk, adm⟩, -⟩ := s.admStages_adm c before
  obtain ⟨state, hold, b, p, decided⟩ := s.admDecide_shape c before
  rw [adm, State.admJudged, decided]
  exact ⟨rfl, rfl⟩

theorem State.percents_admStages {s : State} (law : s.Percents) (c : AdmCause) (before : Adm) :
    (s.admStages c before).Percents := by
  obtain ⟨settings, fresh⟩ := s.admStages_inputs c before
  have touched := s.touches_admStages c before
  exact ⟨touched .percents (by decide) law.handed, (touched .zon (by decide)).symm ▸ law.zon,
    ⟨settings.symm ▸ law.adm.press, fresh.symm ▸ law.adm.fresh⟩, (touched .mov (by decide)).symm ▸ law.mov,
    (touched .heu (by decide)).symm ▸ law.heu⟩

/-- ADM's record replaced by one with percents in range. -/
theorem State.percents_withAdm {s : State} (law : s.Percents) {a : Adm} (adm : a.Percents) :
    ({ s with adm := a } : State).Percents := { law with adm := adm }

theorem State.percents_admEvent {s : State} {f : State → State} (law : s.Percents) (h : (f s).Percents) :
    (s.admEvent f).Percents := by
  unfold State.admEvent
  split
  · exact h
  · exact law

theorem State.percents_doorEffect {s : State} (law : s.Percents) (d : DoorIx) (on : Bool) : (s.doorEffect d on).Percents := by
  refine State.percents_admEvent law (State.percents_admStages ?_ _ _)
  exact State.percents_withAdm law { law.adm with }

theorem State.percents_sealEffect {s : State} (law : s.Percents) (on : Bool) : (s.sealEffect on).Percents := by
  unfold State.sealEffect
  split
  · refine State.percents_admStages ?_ _ _
    exact State.percents_withAdm law { law.adm with }
  · split
    · unfold State.sealConfigOrder
      split
      · exact State.percents_order law _ _ _ _
      · exact law
    · exact law

theorem State.percents_admEnterRun {s : State} (law : s.Percents) : s.admEnterRun.Percents := by
  refine State.percents_admStages ?_ _ _
  exact State.percents_withAdm law ⟨law.adm.press, law.zon.out.fresh⟩

theorem State.percents_admLeaveRun {s : State} (law : s.Percents) : s.admLeaveRun.Percents := by
  refine State.percents_of_touches (s := { s with adm := s.adm.leave }) (State.percents_withAdm law { law.adm with })
    ((State.touches_judgeFault _).andThen (State.touches_handPicture _ _ _) (l' := [.fault, .handed]) rfl rfl) rfl

theorem State.percents_admLinkReset {s : State} (law : s.Percents) : s.admLinkReset.Percents := by
  have left := State.percents_admLeaveRun law
  unfold State.admLinkReset
  dsimp only
  split
  · exact left
  · exact State.percents_withAdm left ⟨(by decide : admDefaults.pressFraction ≤ 100), left.adm.fresh⟩

/-! ### MOV -/

theorem State.percents_withMov {s : State} (law : s.Percents) {v : Mov} (mov : v.Percents) :
    ({ s with mov := v } : State).Percents := { law with mov := mov }

theorem State.percents_putMover {s : State} (law : s.Percents) (m : MoverIx) {r : Mover} (mover : r.Percents) :
    (s.putMover m r).Percents :=
  State.percents_withMov law { law.mov with movers := forall_getElem_set (P := Mover.Percents) m mover law.mov.movers }

theorem State.Percents.mover {s : State} (law : s.Percents) (m : MoverIx) : (s.mover m).Percents := law.mov.movers m

theorem State.percents_setDemand {s : State} (law : s.Percents) (m : MoverIx) {n : Nat} (le : n ≤ 100) :
    (s.setDemand m n).Percents := State.percents_putMover law m ⟨le, (law.mover m).duty⟩

theorem Picture.purgeDemand_le (p : Picture) : p.purgeDemand ≤ 100 := by
  unfold Picture.purgeDemand
  split <;> decide

theorem pressDemand_le (run : Bool) (p : Picture) {loop breach : Nat} (hl : loop ≤ 100) (hb : breach ≤ 100) :
    pressDemand run p loop breach ≤ 100 := by
  unfold pressDemand
  split
  · decide
  · split
    · decide
    · decide
    · decide
    · split
      · split
        · exact hb
        · exact hl
      · decide

theorem State.percents_formFront {s : State} (law : s.Percents) : s.formFront.Percents :=
  State.percents_setDemand law 0 (max_le law.mov.front (Picture.purgeDemand_le _))

theorem State.percents_formRear {s : State} (law : s.Percents) : s.formRear.Percents :=
  State.percents_setDemand law 1 (max_le law.mov.rear (Picture.purgeDemand_le _))

theorem State.percents_formPress {s : State} (law : s.Percents) : s.formPress.Percents :=
  State.percents_setDemand law 2 (pressDemand_le _ _ law.mov.loop law.mov.breach)

theorem State.percents_formDemands {s : State} (law : s.Percents) : s.formDemands.Percents :=
  State.percents_formPress (State.percents_formRear (State.percents_formFront law))

theorem Loop.enter_duty_le {l : Loop} (le : l.duty ≤ 100) (now : Time) {press : Nat} (hp : press ≤ 100) (p : LoopPhase) :
    (l.enter now press p).duty ≤ 100 := by
  unfold Loop.enter
  split
  · exact le
  · exact le
  · exact le
  · exact hp
  · exact le
  · exact le
  · exact Nat.zero_le _

theorem Loop.step_duty_le {l : Loop} (le : l.duty ≤ 100) (now : Time) (c : PressureSettings) (cpd : Status × Int) :
    (l.step now c cpd).duty ≤ 100 := by
  unfold Loop.step
  dsimp only
  split
  · have range := clampInt_range (lo := 0) (hi := 100) (by decide) (l.duty + loopStep c.gain (loopError c.target cpd.2))
    exact Int.toNat_le.mpr range.2
  · exact le

theorem State.percents_judgePhase {s : State} (law : s.Percents) : s.judgePhase.Percents :=
  State.percents_withMov law { law.mov with loop := Loop.enter_duty_le law.mov.loop _ law.adm.press _ }

theorem rampStep_le {limit duty demand n : Nat} (hd : duty ≤ n) (hm : demand ≤ n) : rampStep limit duty demand ≤ n := by
  unfold rampStep
  split <;> omega

theorem Mover.measured_percents {r : Mover} (law : r.Percents) (now : Time) (watched : Bool) (speed : Nat) :
    (r.measured now watched speed).Percents := by
  unfold Mover.measured
  split
  · exact law
  · exact { law with }

theorem Mover.step_percents {r : Mover} (law : r.Percents) (now : Time) (watched : Bool) : (r.step now watched).Percents := by
  unfold Mover.step
  dsimp only
  split
  · unfold Mover.updateOff
    split
    · exact ⟨law.demand, rampStep_le (Nat.zero_le _) law.demand⟩
    · exact { law with }
  · unfold Mover.updateRunning
    dsimp only
    split
    · exact ⟨law.demand, Nat.zero_le _⟩
    · exact ⟨law.demand, rampStep_le law.duty law.demand⟩
  · exact ⟨law.demand, Nat.zero_le _⟩
  · exact ⟨law.demand, Nat.zero_le _⟩

theorem State.percents_tachEffect {s : State} (law : s.Percents) (m : MoverIx) : (s.tachEffect m).Percents := by
  unfold State.tachEffect
  split
  · refine State.percents_of_touches (State.percents_putMover law m ?_) (State.touches_spendFree _ _) rfl
    exact { Mover.measured_percents (law.mover m) s.now (s.stallWatched m) _ with }
  · exact law

theorem State.percents_tachStart {s : State} (law : s.Percents) (m : MoverIx) : (s.tachStart m).Percents :=
  State.percents_putMover law m { law.mover m with }

theorem Mover.leave_percents (r : Mover) : r.leave.Percents := by
  unfold Mover.leave
  dsimp only
  split <;> exact ⟨Nat.zero_le _, Nat.zero_le _⟩

theorem State.percents_movEnterRun {s : State} (law : s.Percents) : s.movEnterRun.Percents := by
  refine State.percents_formDemands (State.percents_judgePhase (State.percents_withMov law ?_))
  refine ⟨law.mov.breach, law.zon.out.front, law.zon.out.rear, law.mov.loop, fun m => ?_⟩
  simp only [Fin.getElem_fin, tableMap_getElem]
  exact { law.mov.movers m with }

theorem State.percents_movLeaveRun {s : State} (law : s.Percents) : s.movLeaveRun.Percents := by
  refine State.percents_withMov law ⟨law.mov.breach, Nat.zero_le _, Nat.zero_le _, Nat.zero_le _, fun m => ?_⟩
  simp only [Fin.getElem_fin, tableMap_getElem]
  exact Mover.leave_percents _

theorem State.percents_movLinkReset {s : State} (law : s.Percents) : s.movLinkReset.Percents := by
  have left := State.percents_movLeaveRun law
  unfold State.movLinkReset
  dsimp only
  split
  · exact left
  · refine State.percents_withMov left { left.mov with breach := (by decide : pressureDefaults.breachDuty ≤ 100), movers := fun m => ?_ }
    simp only [Fin.getElem_fin, tableMap_getElem]
    exact { left.mov.movers m with }

/-! ### HEU -/

theorem Heu.judgeValve_demand (h : Heu) (now : Time) : (h.judgeValve now).demand = h.demand := by
  unfold Heu.judgeValve Heu.valveIdle
  split
  · split
    · rfl
    · split
      · split
        · rfl
        · rfl
        · split <;> rfl
      · rfl
  · split <;> rfl

theorem Heu.judgeAux_demand (h : Heu) (now : Time) (run : Bool) : (h.judgeAux now run).demand = h.demand := by
  unfold Heu.judgeAux
  dsimp only
  split
  · split <;> rfl
  · rfl

theorem Heu.judgeRelease_demand (h : Heu) (now : Time) : (h.judgeRelease now).demand = h.demand := by
  unfold Heu.judgeRelease
  split <;> rfl

theorem Heu.judge_demand (h : Heu) (now : Time) (run : Bool) : (h.judge now run).demand = h.demand := by
  unfold Heu.judge
  rw [Heu.judgeRelease_demand, Heu.judgeAux_demand]
  split
  · exact h.judgeValve_demand now
  · rfl

theorem Heu.takeFlame_demand (h : Heu) (now : Time) (on : Bool) : (h.takeFlame now on).1.demand = h.demand := by
  unfold Heu.takeFlame
  dsimp only
  split
  · exact Heu.judgeRelease_demand _ _
  · rfl
  · rfl

theorem Heu.cooldownEnd_demand (h : Heu) (now : Time) (run : Bool) : (h.cooldownEnd now run).1.demand = h.demand := by
  unfold Heu.cooldownEnd
  dsimp only
  split
  · exact h.judgeAux_demand now run
  · split <;> exact h.judgeAux_demand now run

theorem Heu.setInhibit_demand (h : Heu) (now : Time) : (h.setInhibit now).demand = h.demand := by
  unfold Heu.setInhibit
  dsimp only
  split <;> rfl

theorem Heu.leave_demand (h : Heu) (now : Time) : (h.leave now).demand = 0 := by
  unfold Heu.leave
  dsimp only
  split <;> rfl

theorem State.percents_putHeu {s : State} (law : s.Percents) {h : Heu} (demand : h.demand ≤ 100) : (s.putHeu h).Percents :=
  { law with heu := demand }

/-- HEU's record replaced by one with the demand as it was. -/
theorem State.percents_putHeu_of_eq {s : State} (law : s.Percents) {h : Heu} (demand : h.demand = s.heu.demand) :
    (s.putHeu h).Percents := State.percents_putHeu law (demand.trans_le law.heu)

theorem State.percents_heuJudge {s : State} (law : s.Percents) : s.heuJudge.Percents :=
  State.percents_putHeu_of_eq law (Heu.judge_demand _ _ _)

theorem State.percents_flameEffect {s : State} (law : s.Percents) (on : Bool) : (s.flameEffect on).Percents := by
  have taken := State.percents_putHeu_of_eq law (Heu.takeFlame_demand s.heu s.now on)
  unfold State.flameEffect
  dsimp only
  split
  · exact State.percents_raise taken _ _
  · exact taken

theorem State.percents_heuEnterRun {s : State} (law : s.Percents) : s.heuEnterRun.Percents := by
  refine State.percents_putHeu law ?_
  rw [Heu.judgeAux_demand, Heu.judgeValve_demand]
  exact law.zon.out.heat

theorem State.percents_heuLeaveRun {s : State} (law : s.Percents) : s.heuLeaveRun.Percents :=
  State.percents_putHeu law ((Heu.leave_demand _ _).trans_le (Nat.zero_le _))

theorem State.percents_heuLinkReset {s : State} (law : s.Percents) : s.heuLinkReset.Percents := by
  refine State.percents_heuLeaveRun ?_
  split
  · exact law
  · exact State.percents_putHeu_of_eq law rfl

/-! ### The part-wide events -/

theorem State.percents_enterBlock {s : State} (law : s.Percents) (b : Block) : (s.enterBlock b).Percents := by
  cases b <;> rw [State.enterBlock]
  case adm => exact State.percents_admEnterRun law
  case zon => exact State.percents_zonEnterRun law
  case ddr => exact State.percents_of_touches law (s.touches_drive _) rfl
  case mov => exact State.percents_movEnterRun law
  case heu => exact State.percents_heuEnterRun law
  all_goals exact law

theorem State.percents_leaveBlock {s : State} (law : s.Percents) (b : Block) : (s.leaveBlock b).Percents := by
  cases b <;> rw [State.leaveBlock]
  case adm => exact State.percents_admLeaveRun law
  case zon => exact State.percents_zonLeaveRun law
  case ddr => exact State.percents_of_touches law (s.touches_drive _) rfl
  case mov => exact State.percents_movLeaveRun law
  case heu => exact State.percents_heuLeaveRun law
  all_goals exact law

theorem State.percents_resetBlock {s : State} (law : s.Percents) (b : Block) : (s.resetBlock b).Percents := by
  cases b <;> rw [State.resetBlock]
  case sns => exact State.percents_of_touches law s.touches_snsLinkReset rfl
  case asr => exact State.percents_of_touches law s.touches_asrLinkReset rfl
  case adm => exact State.percents_admLinkReset law
  case zon => exact State.percents_zonLinkReset law
  case ddr => exact State.percents_of_touches law (s.touches_drive _) rfl
  case mov => exact State.percents_movLinkReset law
  case heu => exact State.percents_heuLinkReset law
  case atn => exact State.percents_of_touches law s.touches_atnLinkReset rfl

theorem State.percents_enterRun {s : State} (law : s.Percents) : s.enterRun.Percents :=
  foldl_keeps State.Percents (fun _ b law => State.percents_enterBlock law b) s.blockOrder { law with }

theorem State.percents_leaveRun {s : State} (law : s.Percents) : s.leaveRun.Percents :=
  foldl_keeps State.Percents (fun _ b law => State.percents_leaveBlock law b) s.blockOrder { law with }

theorem State.percents_linkReset {s : State} (law : s.Percents) : s.linkReset.Percents := by
  refine State.percents_of_touches (l := [.reply, .handed]) ?_ (State.touches_linkAfterLinkReset _) rfl
  exact foldl_keeps State.Percents (fun _ b law => State.percents_resetBlock law b) s.blockOrder { law with }

theorem percentEvents_reset {s : State} {kind : ResetKind} : (s.hardwareReset kind).PercentsHanded :=
  fun _ mem => absurd mem List.not_mem_nil

theorem State.percents_hardwareReset (s : State) (kind : ResetKind) : (s.hardwareReset kind).Percents := by
  have zones : ∀ z : ZoneIx, zonReset.zones[z].Percents := fun z => by constructor <;> revert z <;> decide
  have movers : ∀ m : MoverIx, movReset.movers[m].Percents := fun m => by constructor <;> revert m <;> decide
  exact ⟨percentEvents_reset, ⟨zonOutputsZero_percents, zones, (by decide : zonReset.tuning.minBlower ≤ 100)⟩,
    ⟨(by decide : admReset.settings.pressFraction ≤ 100), (by decide : admReset.fresh ≤ 100)⟩,
    ⟨(by decide : movReset.pressure.breachDuty ≤ 100), (by decide : movReset.front ≤ 100), (by decide : movReset.rear ≤ 100),
      (by decide : movReset.loop.duty ≤ 100), movers⟩, (by decide : heuReset.demand ≤ 100)⟩

/-! ### Levels and bindings -/

theorem State.percents_levelEffect {s : State} (f : Func) (on : Bool) (law : s.Percents) : (s.levelEffect f on).Percents := by
  cases f with
  | home d => exact State.percents_of_touches law (s.touches_homeEffect d on) rfl
  | door d => exact State.percents_doorEffect law d on
  | laneFlt l => exact State.percents_of_touches law (s.touches_laneFltEffect l on) rfl
  | sealReq => exact State.percents_sealEffect law on
  | auxFlame => exact State.percents_flameEffect law on
  | tach m => exact State.percents_tachEffect law m
  | _ => exact law

theorem State.percents_bindingKeeps : State.BindingKeeps State.Percents where
  frame touched law := State.percents_of_touches law touched rfl
  level _ f on law := State.percents_levelEffect f on law
  bind s f law := by
    cases f with
    | tach m => exact State.percents_tachStart law m
    | sc ch => exact State.percents_of_touches law (s.touches_bindChannel ch) rfl
    | home d | sel d | step l | dir l =>
      exact State.percents_of_touches (l := driveItems) law (.ite (fun _ => s.touches_drive _) fun _ => .refl _ _) rfl
    | _ => exact law
  unbind s f law := by
    cases f with
    | tach m => exact State.percents_tachStart law m
    | sc ch => exact State.percents_of_touches law (s.touches_unbindChannel ch) rfl
    | home d | sel d | step l | dir l =>
      exact State.percents_of_touches (l := driveItems) law (.ite (fun _ => s.touches_drive _) fun _ => .refl _ _) rfl
    | _ => exact law
  tach _ m law := State.percents_tachStart law m

/-! ### The commands -/

/-- An event that ADM records with percents in range. -/
theorem State.percents_recorded {s : State} (law : s.Percents) (c : AdmCause) (before : Adm) {a : Adm} (adm : a.Percents) :
    ({ s with adm := a }.admStages c before).Percents :=
  State.percents_admStages (State.percents_withAdm law adm) c before

section PercentLaw

variable {s t : State} (law : s.Percents)
include law

theorem execSetState_percents {b : Byte} (h : execSetState b s = .next t) : t.Percents := by
  refine State.take_keeps h (State.percents_strike law _) fun s law => ?_
  split
  · exact State.percents_status law _ _
  · split
    · exact State.percents_status law _ _
    · split
      · split
        · exact State.percents_status law _ _
        · exact State.percents_status (State.percents_enterRun law) _ _
      · exact State.percents_status (State.percents_leaveRun law) _ _

theorem execLinkResetEffect_percents (h : execLinkResetEffect s = .next t) : t.Percents := by
  refine State.take_keeps h (State.percents_strike law _) fun s law => ?_
  split
  · exact State.percents_linkReset law
  · exact law

theorem execAdmLevelReport_percents {a : AssessorIx} {l : Level} (h : execAdmLevelReport a l s = .next t) : t.Percents :=
  State.take_keeps h (State.percents_strike law _) fun _ law =>
    State.percents_admEvent law (State.percents_admStages law _ _)

theorem execOatReport_percents {st : Status} {v : Int} (h : execOatReport st v s = .next t) : t.Percents := by
  refine State.take_keeps h (State.percents_strike law _) fun s law => State.percents_admEvent law ?_
  exact State.percents_recorded law _ _ { law.adm with }

theorem execSealReqChange_percents {on : Bool} (h : execSealReqChange on s = .next t) : t.Percents :=
  State.take_keeps h (State.percents_strike law _) fun _ law => State.percents_sealEffect law on

theorem execDoorChange_percents {d : DoorIx} {on : Bool} (h : execDoorChange d on s = .next t) : t.Percents :=
  State.take_keeps h (State.percents_strike law _) fun _ law => State.percents_doorEffect law d on

theorem execZonOutputChange_percents {c : ZonChange} (fits : percentEvent (.zonOutputChange c) = true)
    (h : execZonOutputChange c s = .next t) : t.Percents := by
  refine State.take_keeps h (State.percents_strike law _) fun s law => State.percents_admEvent law ?_
  refine State.percents_recorded law _ _ ?_
  cases c with
  | fresh n => exact ⟨law.adm.press, of_decide_eq_true fits⟩
  | breathing b => exact { law.adm with }

theorem execDamperStateReport_percents {r : DriveReport} (h : execDamperStateReport r s = .next t) : t.Percents :=
  State.take_keeps h (State.percents_strike law _) fun _ law =>
    State.percents_admEvent law (State.percents_admStages law _ _)

theorem execAdmHoldTimerExpiry_percents (h : execAdmHoldTimerExpiry s = .next t) : t.Percents := by
  refine State.own_keeps h law fun s law => State.percents_admEvent law ?_
  split
  · exact law
  · exact State.percents_recorded law _ _ { law.adm with }

theorem execPurgeTimerExpiry_percents (h : execPurgeTimerExpiry s = .next t) : t.Percents := by
  refine State.own_keeps h law fun s law => State.percents_admEvent law ?_
  split
  · refine State.percents_admStages (State.percents_raise ?_ _ _) _ _
    exact State.percents_withAdm law { law.adm with }
  · exact law
  · exact law

theorem execSetDirective_percents {b : Byte} (h : execSetDirective b s = .next t) : t.Percents := by
  refine State.take_keeps h (State.percents_strike law _) fun s law => ?_
  split
  · split
    · exact State.percents_status law _ _
    · split
      · exact State.percents_status law _ _
      · refine State.percents_status ?_ _ _
        exact State.percents_recorded law _ _ { law.adm with }
  · exact State.percents_status law _ _

theorem execSetAdmission_percents {b0 b1 b6 : Byte} {h2 h3 h4 h5 : Half}
    (h : execSetAdmission b0 b1 h2 h3 h4 h5 b6 s = .next t) : t.Percents := by
  refine State.take_keeps h (State.percents_strike law _) fun s law => ?_
  have set : ({ s.adm with settings := (admSettingsOf b0 b1 h2 h3 h4 h5 b6).clamp } : Adm).Percents :=
    ⟨(clampNat_range (by decide) _).2, law.adm.fresh⟩
  refine State.percents_status ?_ _ _
  split
  · exact State.percents_recorded law _ _ set
  · exact State.percents_withAdm law set

theorem execZoneUpdate_percents {z : ZoneIx} (h : execZoneUpdate z s = .next t) : t.Percents := by
  refine State.own_keeps h law fun s law => ?_
  split
  · exact law
  · exact State.percents_recompute (State.percents_stepZone law z)

theorem execSetZone_percents {b0 b1 : Byte} {h2 : Half} (h : execSetZone b0 b1 h2 s = .next t) : t.Percents := by
  refine State.take_keeps h (State.percents_strike law _) fun s law => ?_
  split
  · exact State.percents_status law _ _
  · split
    · exact State.percents_status law _ _
    · exact State.percents_status (State.percents_setZone law _ _ _) _ _

theorem execSetZoneTuning_percents {h0 h1 h3 h4 h5 h7 : Half} {b2 b6 : Byte}
    (h : execSetZoneTuning h0 h1 b2 h3 h4 h5 b6 h7 s = .next t) : t.Percents := by
  refine State.take_keeps h (State.percents_strike law _) fun s law => ?_
  dsimp only
  split
  · exact State.percents_status law _ _
  · have tuned : ({ s with zon := { s.zon with tuning := (tuningOf h0 h1 b2 h3 h4 h5 b6 h7).clamp } } : State).Percents :=
      { law with zon := { law.zon with floor := (clampNat_range (by decide) _).2 } }
    refine State.percents_status ?_ _ _
    split
    · exact State.percents_recomputeGroups tuned
    · exact tuned

theorem execSetCrew_percents {b0 b1 : Byte} (h : execSetCrew b0 b1 s = .next t) : t.Percents := by
  refine State.take_keeps h (State.percents_strike law _) fun s law => ?_
  split
  · exact State.percents_status law _ _
  · next z _ =>
    refine State.percents_status ?_ _ _
    exact State.percents_putZone law z { law.zone z with }

theorem execSetDefrost_percents {b : Byte} (h : execSetDefrost b s = .next t) : t.Percents := by
  refine State.take_keeps h (State.percents_strike law _) fun s law => ?_
  split
  · exact State.percents_status law _ _
  · exact State.percents_status (State.percents_setDefrost law _) _ _

theorem execMoverUpdate_percents {m : MoverIx} (h : execMoverUpdate m s = .next t) : t.Percents := by
  refine State.own_keeps h law fun s law => ?_
  split
  · exact law
  · exact State.percents_putMover law m (Mover.step_percents (law.mover m) _ _)

theorem execTachEdge_percents {m : MoverIx} (h : execTachEdge m s = .next t) : t.Percents :=
  State.take_keeps h (State.percents_strike law _) fun _ law => State.percents_tachEffect law m

theorem execEdgeTimerExpiry_percents {m : MoverIx} (h : execEdgeTimerExpiry m s = .next t) : t.Percents := by
  refine State.own_keeps h law fun s law => ?_
  dsimp only
  split
  · exact law
  · exact State.percents_putMover law m { Mover.measured_percents (law.mover m) s.now (s.stallWatched m) 0 with }

theorem execStallTimerExpiry_percents {m : MoverIx} (h : execStallTimerExpiry m s = .next t) : t.Percents := by
  refine State.own_keeps h law fun s law => ?_
  dsimp only
  split
  · exact law
  · exact State.percents_putMover law m ⟨(law.mover m).demand, Nat.zero_le _⟩

theorem execRestartTimerExpiry_percents {m : MoverIx} (h : execRestartTimerExpiry m s = .next t) : t.Percents := by
  refine State.own_keeps h law fun s law => ?_
  split
  · exact law
  · unfold State.restartMover
    dsimp only
    split
    · refine State.percents_raise ?_ _ _
      exact State.percents_putMover law m ⟨(law.mover m).demand, Nat.zero_le _⟩
    · exact State.percents_putMover law m ⟨(law.mover m).demand, Nat.zero_le _⟩

theorem execCleanRunTimerExpiry_percents {m : MoverIx} (h : execCleanRunTimerExpiry m s = .next t) : t.Percents := by
  refine State.own_keeps h law fun s law => ?_
  split
  · exact law
  · exact State.percents_putMover law m { law.mover m with }

theorem execGroupDemandChange_percents {g : Group} {n : Nat} (fits : percentEvent (.groupDemandChange g n) = true)
    (h : execGroupDemandChange g n s = .next t) : t.Percents := by
  have le : n ≤ 100 := of_decide_eq_true fits
  refine State.take_keeps h (State.percents_strike law _) fun s law => ?_
  cases g with
  | front =>
    refine State.percents_formFront ?_
    exact State.percents_withMov law { law.mov with front := le }
  | rear =>
    refine State.percents_formRear ?_
    exact State.percents_withMov law { law.mov with rear := le }

theorem execAdmissionReport_percents {p : Picture} (h : execAdmissionReport p s = .next t) : t.Percents := by
  refine State.take_keeps h (State.percents_strike law _) fun s law => ?_
  refine State.percents_formDemands (State.percents_judgePhase ?_)
  exact State.percents_withMov law { law.mov with }

theorem execLoopUpdate_percents (h : execLoopUpdate s = .next t) : t.Percents := by
  refine State.own_keeps h law fun s law => ?_
  dsimp only
  split
  · exact law
  · refine State.percents_formPress ?_
    exact State.percents_withMov law { law.mov with loop := Loop.step_duty_le law.mov.loop _ _ _ }

theorem execCpdReport_percents {st : Status} {v : Int} (h : execCpdReport st v s = .next t) : t.Percents :=
  State.take_keeps h (State.percents_strike law _) fun _ law => State.percents_withMov law { law.mov with }

theorem execPressureLostExpiry_percents (h : execPressureLostExpiry s = .next t) : t.Percents := by
  refine State.own_keeps h law fun s law => ?_
  split
  · exact law
  · refine State.percents_raise ?_ _ _
    exact State.percents_withMov law { law.mov with }

theorem execFpdReport_percents {st : Status} {v : Int} (h : execFpdReport st v s = .next t) : t.Percents :=
  State.take_keeps h (State.percents_strike law _) fun _ law => State.percents_withMov law { law.mov with }

theorem execFilterTimerExpiry_percents (h : execFilterTimerExpiry s = .next t) : t.Percents := by
  refine State.own_keeps h law fun s law => ?_
  split
  · exact law
  · refine State.percents_raise ?_ _ _
    exact State.percents_withMov law { law.mov with }

theorem execSetMover_percents {b0 b1 b4 b6 : Byte} {h2 h3 h5 : Half} (h : execSetMover b0 b1 h2 h3 b4 h5 b6 s = .next t) :
    t.Percents := by
  refine State.take_keeps h (State.percents_strike law _) fun s law => ?_
  split
  · exact State.percents_status law _ _
  · next m _ =>
    refine State.percents_status ?_ _ _
    exact State.percents_putMover law m { law.mover m with }

theorem execSetPressure_percents {h0 h3 : Half} {b1 b2 : Byte} (h : execSetPressure h0 b1 b2 h3 s = .next t) : t.Percents := by
  refine State.take_keeps h (State.percents_strike law _) fun s law => ?_
  refine State.percents_status (State.percents_formPress ?_) _ _
  exact State.percents_withMov law { law.mov with breach := (clampNat_range (by decide) _).2 }

theorem execMoverRestart_percents {b : Byte} (h : execMoverRestart b s = .next t) : t.Percents := by
  refine State.take_keeps h (State.percents_strike law _) fun s law => ?_
  split
  · exact State.percents_status law _ _
  · next m _ =>
    dsimp only
    split
    · refine State.percents_status ?_ _ _
      exact State.percents_putMover law m ⟨(law.mover m).demand, Nat.zero_le _⟩
    · exact State.percents_status law _ _

theorem execHeatDemandChange_percents {n : Nat} (fits : percentEvent (.heatDemandChange n) = true)
    (h : execHeatDemandChange n s = .next t) : t.Percents := by
  refine State.take_keeps h (State.percents_strike law _) fun s law => State.percents_heuJudge ?_
  exact State.percents_putHeu law (of_decide_eq_true fits)

theorem execCltReport_percents {st : Status} {v : Int} (h : execCltReport st v s = .next t) : t.Percents := by
  refine State.take_keeps h (State.percents_strike law _) fun s law => State.percents_heuJudge ?_
  exact State.percents_putHeu_of_eq law rfl

theorem execAuxFlameChange_percents {on : Bool} (h : execAuxFlameChange on s = .next t) : t.Percents :=
  State.take_keeps h (State.percents_strike law _) fun _ law => State.percents_flameEffect law on

theorem execValveHoldTimerExpiry_percents (h : execValveHoldTimerExpiry s = .next t) : t.Percents := by
  refine State.own_keeps h law fun s law => ?_
  split
  · refine State.percents_putHeu_of_eq law ?_
    split <;> rfl
  · exact law
  · exact law

theorem execIgnitionTimerExpiry_percents (h : execIgnitionTimerExpiry s = .next t) : t.Percents := by
  refine State.own_keeps h law fun s law => ?_
  split
  · exact law
  · refine State.percents_raise ?_ _ _
    exact State.percents_putHeu_of_eq law rfl

theorem execCooldownTimerExpiry_percents (h : execCooldownTimerExpiry s = .next t) : t.Percents := by
  refine State.own_keeps h law fun s law => ?_
  split
  · exact law
  · have ended := State.percents_putHeu_of_eq law (Heu.cooldownEnd_demand s.heu s.now s.inRun)
    dsimp only
    split
    · exact State.percents_raise ended _ _
    · exact ended

theorem execCoolantReleaseExpiry_percents (h : execCoolantReleaseExpiry s = .next t) : t.Percents := by
  refine State.own_keeps h law fun s law => ?_
  split
  · exact law
  · exact State.percents_putHeu_of_eq law rfl

theorem execDemandReleaseExpiry_percents (h : execDemandReleaseExpiry s = .next t) : t.Percents := by
  refine State.own_keeps h law fun s law => ?_
  split
  · exact law
  · exact State.percents_putHeu_of_eq law rfl

theorem execSetHeat_percents {h0 h1 h4 h5 h6 h7 : Half} {b2 b3 : Byte} (h : execSetHeat h0 h1 b2 b3 h4 h5 h6 h7 s = .next t) :
    t.Percents := by
  refine State.take_keeps h (State.percents_strike law _) fun s law => ?_
  dsimp only
  split
  · exact State.percents_status law _ _
  · refine State.percents_status (State.percents_heuJudge ?_) _ _
    exact State.percents_putHeu_of_eq law rfl

theorem execAuxInhibit_percents {b : Byte} (h : execAuxInhibit b s = .next t) : t.Percents := by
  refine State.take_keeps h (State.percents_strike law _) fun s law => ?_
  split
  · exact State.percents_status law _ _
  · refine State.percents_status ?_ _ _
    unfold State.changeInhibit
    split
    · exact law
    · split
      · exact State.percents_putHeu_of_eq law ((Heu.judgeAux_demand _ _ _).trans (Heu.setInhibit_demand _ _))
      · exact State.percents_putHeu_of_eq law (Heu.judgeAux_demand _ _ _)

theorem execAuxClearLock_percents (h : execAuxClearLock s = .next t) : t.Percents := by
  refine State.take_keeps h (State.percents_strike law _) fun s law => ?_
  split
  · refine State.percents_status ?_ _ _
    exact State.percents_putHeu_of_eq law (Heu.judgeAux_demand _ _ _)
  · exact State.percents_status law _ _

end PercentLaw

theorem exec_percents (c : Instr) (s t : State) (fits : percentEvent c = true) (law : s.Percents) (h : exec c s = .next t) :
    t.Percents := by
  have kept (none : covers [.pending, .handed, .now, .free, .blockOrder, .sns, .asr, .ddr, .trm, .sources, .fault, .partState,
      .partRest, .receive, .reply, .attention] (Command.items c) = true) : t.Percents :=
    State.percents_of_touches law (exec_touches c s t h) none
  cases c with
  | hardwareReset kind => cases h; exact State.percents_hardwareReset s kind
  | setState b => exact execSetState_percents law h
  | linkResetEffect => exact execLinkResetEffect_percents law h
  | bind b0 b1 b2 b3 b4 => exact State.percents_bindingKeeps.execBind law h
  | unbind b => exact State.percents_bindingKeeps.execUnbind law h
  | admLevelReport a l => exact execAdmLevelReport_percents law h
  | oatReport st v => exact execOatReport_percents law h
  | sealReqChange on => exact execSealReqChange_percents law h
  | doorChange d on => exact execDoorChange_percents law h
  | zonOutputChange c => exact execZonOutputChange_percents law fits h
  | damperStateReport r => exact execDamperStateReport_percents law h
  | admHoldTimerExpiry => exact execAdmHoldTimerExpiry_percents law h
  | purgeTimerExpiry => exact execPurgeTimerExpiry_percents law h
  | setDirective b => exact execSetDirective_percents law h
  | setAdmission b0 b1 h2 h3 h4 h5 b6 => exact execSetAdmission_percents law h
  | zoneUpdate z => exact execZoneUpdate_percents law h
  | setZone b0 b1 h2 => exact execSetZone_percents law h
  | setZoneTuning h0 h1 b2 h3 h4 h5 b6 h7 => exact execSetZoneTuning_percents law h
  | setCrew b0 b1 => exact execSetCrew_percents law h
  | setDefrost b => exact execSetDefrost_percents law h
  | moverUpdate m => exact execMoverUpdate_percents law h
  | tachEdge m => exact execTachEdge_percents law h
  | edgeTimerExpiry m => exact execEdgeTimerExpiry_percents law h
  | stallTimerExpiry m => exact execStallTimerExpiry_percents law h
  | restartTimerExpiry m => exact execRestartTimerExpiry_percents law h
  | cleanRunTimerExpiry m => exact execCleanRunTimerExpiry_percents law h
  | groupDemandChange g n => exact execGroupDemandChange_percents law fits h
  | admissionReport p => exact execAdmissionReport_percents law h
  | loopUpdate => exact execLoopUpdate_percents law h
  | cpdReport st v => exact execCpdReport_percents law h
  | pressureLostExpiry => exact execPressureLostExpiry_percents law h
  | fpdReport st v => exact execFpdReport_percents law h
  | filterTimerExpiry => exact execFilterTimerExpiry_percents law h
  | setMover b0 b1 h2 h3 b4 h5 b6 => exact execSetMover_percents law h
  | setPressure h0 b1 b2 h3 => exact execSetPressure_percents law h
  | moverRestart b => exact execMoverRestart_percents law h
  | heatDemandChange n => exact execHeatDemandChange_percents law fits h
  | cltReport st v => exact execCltReport_percents law h
  | auxFlameChange on => exact execAuxFlameChange_percents law h
  | valveHoldTimerExpiry => exact execValveHoldTimerExpiry_percents law h
  | ignitionTimerExpiry => exact execIgnitionTimerExpiry_percents law h
  | cooldownTimerExpiry => exact execCooldownTimerExpiry_percents law h
  | coolantReleaseExpiry => exact execCoolantReleaseExpiry_percents law h
  | demandReleaseExpiry => exact execDemandReleaseExpiry_percents law h
  | setHeat h0 h1 b2 b3 h4 h5 h6 h7 => exact execSetHeat_percents law h
  | auxInhibit b => exact execAuxInhibit_percents law h
  | auxClearLock => exact execAuxClearLock_percents law h
  | _ => exact kept rfl

/-! ### The commands of one step -/

/-- No expiry carries a percent. -/
theorem percentEvent_timers {s : State} {e : TimerEntry} (mem : e ∈ s.timers) : percentEvent e.2 = true := by
  simp only [State.timers, List.mem_cons, List.mem_append] at mem
  obtain rfl | ((((mem | mem) | mem) | mem) | mem) | mem := mem
  · rfl
  · obtain ⟨p, -, rfl⟩ := List.mem_map.mp mem
    rfl
  · obtain ⟨ch, -, mem⟩ := List.mem_flatMap.mp mem
    simp only [List.mem_cons, List.not_mem_nil, or_false] at mem
    obtain rfl | rfl := mem <;> rfl
  · simp only [State.airTimers, List.mem_append, List.mem_cons, List.not_mem_nil, or_false, List.mem_map] at mem
    obtain (rfl | rfl) | ⟨z, -, rfl⟩ := mem <;> rfl
  · simp only [State.driveTimers, List.mem_append, List.mem_flatMap, List.mem_cons, List.not_mem_nil, or_false] at mem
    obtain ⟨d, -, rfl | rfl⟩ | ⟨l, -, rfl | rfl⟩ := mem <;> rfl
  · simp only [State.moverTimers, List.mem_append, List.mem_flatMap, List.mem_cons, List.not_mem_nil, or_false] at mem
    obtain ⟨m, -, rfl | rfl | rfl | rfl | rfl⟩ | rfl | rfl | rfl := mem <;> rfl
  · simp only [State.heatTimers, List.mem_cons, List.not_mem_nil, or_false] at mem
    obtain rfl | rfl | rfl | rfl | rfl := mem <;> rfl

theorem percentEvent_dueEvent {s : State} {c : Instr} (due : s.dueEvent = some c) : percentEvent c = true := by
  obtain ⟨e, found, rfl⟩ := Option.map_eq_some_iff.mp due
  exact percentEvent_timers (List.mem_of_find?_eq_some found)

theorem step_percentLaw {s t : State} (law : s.PercentLaw) (h : step s = .next t) : t.PercentLaw := by
  obtain ⟨pending, percents⟩ := s.percentLaw_iff.mp law
  refine t.percentLaw_iff.mpr ?_
  obtain ⟨c, rest, waits, h⟩ | ⟨c, rest, waits, h⟩ | ⟨c, due, h⟩ | rfl := step_cases h
  · have left : t.pending = rest := exec_pending h
    refine ⟨fun e mem => pending e ?_, exec_percents c { s with pending := rest } t (pending c ?_) ?_ h⟩
    · rw [waits]
      exact List.mem_cons_of_mem c (left ▸ mem)
    · rw [waits]
      exact List.mem_cons_self
    · exact { percents with }
  · have left : t.pending = s.pending := exec_pending h
    refine ⟨left ▸ pending, exec_percents c s t (percents.handed c ?_) percents h⟩
    rw [waits]
    exact List.mem_cons_self
  · have left : t.pending = s.pending := exec_pending h
    exact ⟨left ▸ pending, exec_percents c s t (percentEvent_dueEvent due) percents h⟩
  · exact ⟨pending, { percents with }⟩

end Sys2Proof.Machine

namespace Sys2Proof

open Sys2Proof.Machine

/-- Settles O15: each block hands what it clamps, and takes into its records what the events that wait carry. -/
theorem stepKeepsThePercentLaw : Obligations.StepKeepsThePercentLaw :=
  fun _ _ _ law h => step_percentLaw law h

end Sys2Proof

/-! What a step does with its commands and its clock, the state after reset, and INIT. -/

namespace Sys2Proof
open Sys2Proof.Machine

/-- Settles O1: the queue's front is what `step` reads. -/
theorem stepTakesTheFrontCommand : Obligations.StepTakesTheFrontCommand := fun _ _ _ => rfl

end Sys2Proof

namespace Sys2Proof.Machine

/-- The first due entry of a list is the one behind entries that are not due. -/
theorem find?_isDue {now : Time} {before after : List TimerEntry} {e : TimerEntry}
    (early : ∀ e' ∈ before, e'.isDue now = false) (due : e.isDue now = true) :
    (before ++ e :: after).find? (TimerEntry.isDue now) = some e := by
  have none : before.find? (TimerEntry.isDue now) = none :=
    List.find?_eq_none.mpr fun e' he => by simp [early e' he]
  rw [List.find?_append, none, Option.none_or, List.find?_cons_of_pos due]

theorem step_idle {s : State} (idle : s.pending = []) : step s = s.tick := by
  rw [step, idle]

theorem State.tick_handed {s : State} {c : Instr} {cs : List Instr} (waits : s.handed = c :: cs) : s.tick = exec c s := by
  rw [State.tick, waits]

theorem State.tick_due {s : State} {c : Instr} (quiet : s.handed = []) (due : s.dueEvent = some c) :
    s.tick = exec c s := by
  rw [State.tick, quiet]; simp only [due]

theorem State.tick_clock {s : State} (quiet : s.handed = []) (due : s.dueEvent = none) :
    s.tick = .next { s with now := s.now + 1 } := by
  rw [State.tick, quiet]; simp only [due]

/-! ### The laws of the reset state -/

theorem reset_attentionLaw : State.reset.AttentionLaw := by
  unfold State.AttentionLaw; decide

theorem reset_admissionLaw : State.reset.AdmissionLaw :=
  ⟨fun h => absurd h (by decide), fun _ => show State.reset.adm.RestLaw by unfold Adm.RestLaw; decide⟩

theorem reset_heatLaw : State.reset.HeatLaw := by
  unfold State.HeatLaw; decide

theorem reset_moverLaw : State.reset.MoverLaw := by
  unfold State.MoverLaw; decide

theorem reset_zoneLaw : State.reset.ZoneLaw := by
  unfold State.ZoneLaw; decide

theorem reset_sensorLaw : State.reset.SensorLaw := by
  unfold State.SensorLaw; decide

theorem reset_assessorLaw : State.reset.AssessorLaw := by
  unfold State.AssessorLaw; decide

theorem reset_entry (t : TerminalIx) : State.reset.trm.entries[t] = terminalReset false := Vector.getElem_replicate ..

theorem reset_map (c : Fin 51) : State.reset.trm.map[c] = none := Vector.getElem_replicate ..

/-- No terminal carries a function. -/
theorem reset_terminalLaw : State.reset.TerminalLaw := by
  unfold State.TerminalLaw
  simp only [reset_entry, reset_map]
  exact ⟨fun _ _ => nofun, fun _ _ => nofun, fun _ _ => ⟨rfl, rfl⟩⟩

theorem reset_driveLaw : State.reset.DriveLaw :=
  ⟨by decide, by decide, List.nodup_nil, by decide, List.Pairwise.nil, fun _ => rfl⟩

theorem reset_receiveLaw : State.reset.ReceiveLaw := by
  unfold State.ReceiveLaw; decide

theorem reset_percentLaw : State.reset.PercentLaw := by
  unfold State.PercentLaw; decide

/-! ### INIT -/

/-- The commands that INIT does not drop (R178): the reset and its end, and what the outside does to the pins. -/
def Command.actsInInit : Instr → Bool
  | .hardwareReset _ | .initEnd | .resetNegation | .pinChange _ _ => true
  | _ => false

/-- In INIT every other command leaves the state as it stands, but that a request or a handed event waits no longer. -/
theorem exec_init {s : State} (init : s.part.state = .init) (c : Instr) (dropped : Command.actsInInit c = false) :
    exec c s = .next s ∨ exec c s = .next { s with handed := s.handed.erase c } := by
  have inside : s.inInit = true := decide_eq_true init
  cases c <;> first
    | exact absurd (show true = false from dropped) Bool.noConfusion
    | exact .inl (congrArg Host.Outcome.next (if_pos inside))
    | exact .inr (congrArg Host.Outcome.next (if_pos inside))

theorem Trm.hardwareReset_entry (t : Trm) (i : TerminalIx) :
    t.hardwareReset.entries[i] = terminalReset t.entries[i].level := by
  simp [Trm.hardwareReset]

theorem Trm.hardwareReset_map (t : Trm) (f : Fin 51) : t.hardwareReset.map[f] = none := by
  simp [Trm.hardwareReset]

theorem execInitEnd_config {s : State} (init : s.part.state = .init) (free : s.part.resetAsserted = false) :
    execInitEnd s =
      .next { s with part := { s.part with state := .config }, atn := s.atn.raise asRestart s.part.cause.detail } := by
  rw [execInitEnd, State.inInit, init, free]; rfl

theorem execInitEnd_stays {s : State} (stays : s.part.resetAsserted = true ∨ s.part.state ≠ .init) :
    execInitEnd s = .next s := by
  rcases stays with asserted | elsewhere
  · simp [execInitEnd, asserted]
  · simp [execInitEnd, State.inInit, elsewhere]

end Sys2Proof.Machine

namespace Sys2Proof
open Sys2Proof.Machine

/-- Settles O2: `tick` by the handed events and by the first due entry. -/
theorem stepOnAnEmptyQueue : Obligations.StepOnAnEmptyQueue := by
  intro s idle
  refine ⟨fun c cs waits => ?_, fun quiet before after e split early due => ?_, fun quiet none => ?_⟩
  · rw [step_idle idle, State.tick_handed waits]
  · have found : s.dueEvent = some e.2 := by rw [State.dueEvent, split, find?_isDue early due]; rfl
    rw [step_idle idle, State.tick_due quiet found]
  · have nothing : s.dueEvent = .none := by
      rw [State.dueEvent, List.find?_eq_none.mpr fun e he => by simp [none e he]]; rfl
    rw [step_idle idle, State.tick_clock quiet nothing]

/-- Settles O3: each law evaluated on the reset records. -/
theorem resetMeetsEveryLaw : Obligations.ResetMeetsEveryLaw :=
  ⟨reset_attentionLaw, reset_admissionLaw, reset_heatLaw, reset_moverLaw, reset_zoneLaw, reset_sensorLaw,
    reset_assessorLaw, reset_terminalLaw, reset_driveLaw, reset_receiveLaw, reset_percentLaw, List.Perm.refl _⟩

/-- Settles O16: the reset state by definition, INIT_END by its two cases, and every other command of INIT by its shape. -/
theorem hardwareResetAndInit : Obligations.HardwareResetAndInit := by
  intro kind c s cause detail
  have sameCause : cause = kind.cause := by cases kind <;> rfl
  have sameDetail : detail = s.part.cause.detail := rfl
  refine ⟨⟨s.hardwareReset kind, rfl, ?_, rfl, rfl, rfl, rfl, rfl, rfl, rfl, rfl, rfl, s.trm.hardwareReset_entry,
    s.trm.hardwareReset_map, rfl, rfl, rfl, rfl, rfl⟩, fun init free => ?_, fun stays => execInitEnd_stays stays, rfl,
    fun init dropped => exec_init init c ?_⟩
  · rw [sameCause]; rfl
  · rw [sameDetail]; exact execInitEnd_config init free
  · cases c <;> first | rfl | exact dropped.symm

end Sys2Proof

/-! The fast filter and the baseline (02), and the frames of the link (11). -/

namespace Sys2Proof.Machine

/-! ### A weighted step toward a goal -/

@[simp] theorem rha_zero (d : Nat) : rha 0 d = 0 := by simp [rha]

theorem rha_scaled_nonneg {x : Int} (nonneg : 0 ≤ x) (k d : Nat) : 0 ≤ rha (x * k) d := by
  rw [rha_of_nonneg (Int.mul_nonneg nonneg (Int.natCast_nonneg k))]
  exact Int.ediv_nonneg (Int.add_nonneg (Int.mul_nonneg nonneg (Int.natCast_nonneg k)) (Int.natCast_nonneg _))
    (Int.natCast_nonneg d)

/-- A weight of at most the divisor never carries past the whole difference. -/
theorem rha_scaled_le {x : Int} (nonneg : 0 ≤ x) {k d : Nat} (weight : k ≤ d) (pos : 0 < d) : rha (x * k) d ≤ x := by
  have scaled : x * k ≤ x * d := Int.mul_le_mul_of_nonneg_left (Int.ofNat_le.mpr weight) nonneg
  have half : ((d / 2 : Nat) : Int) < d := Int.ofNat_lt.mpr (Nat.div_lt_self pos (by omega))
  rw [rha_of_nonneg (Int.mul_nonneg nonneg (Int.natCast_nonneg k))]
  refine Int.lt_add_one_iff.mp (Int.ediv_lt_of_lt_mul (by omega) ?_)
  rw [Int.add_mul, Int.one_mul]
  omega

/-- R35: the step from a value to a goal, as the filter and the baseline weigh it. -/
def weightedStep (k d start goal : Nat) : Int := stepToward (rha (((goal : Int) - start) * k) d) start goal

theorem weightedStep_self (k d n : Nat) : weightedStep k d n n = 0 := by
  simp [weightedStep, stepToward]

/-- Upward the step is at least one and stays short of the goal or on it. -/
theorem weightedStep_up {k d start goal : Nat} (weight : k ≤ d) (pos : 0 < d) (up : start < goal) :
    1 ≤ weightedStep k d start goal ∧ weightedStep k d start goal ≤ (goal : Int) - start := by
  have low := rha_scaled_nonneg (x := (goal : Int) - start) (by omega) k d
  have high := rha_scaled_le (x := (goal : Int) - start) (by omega) weight pos
  unfold weightedStep stepToward
  split <;> omega

/-- Downward it is the mirror image. -/
theorem weightedStep_down {k d start goal : Nat} (weight : k ≤ d) (pos : 0 < d) (down : goal < start) :
    weightedStep k d start goal ≤ -1 ∧ (goal : Int) - start ≤ weightedStep k d start goal := by
  have mirrored : rha (((goal : Int) - start) * k) d = -rha (((start : Int) - goal) * k) d := by
    rw [← rha_neg, ← Int.neg_mul, Int.neg_sub]
  have low := rha_scaled_nonneg (x := (start : Int) - goal) (by omega) k d
  have high := rha_scaled_le (x := (start : Int) - goal) (by omega) weight pos
  unfold weightedStep stepToward
  rw [mirrored]
  split <;> omega

/-- With the full weight the step is the whole difference. -/
theorem weightedStep_full {d : Nat} (pos : 0 < d) (start goal : Nat) : weightedStep d d start goal = (goal : Int) - start := by
  have whole : rha (((goal : Int) - start) * d) d = (goal : Int) - start := by
    obtain ⟨near, -⟩ := rha_nearest (((goal : Int) - start) * d) pos
    rw [← Int.sub_mul, Int.natAbs_mul, Int.natAbs_natCast] at near
    by_contra differs
    have apart : 1 ≤ (rha (((goal : Int) - start) * d) d - ((goal : Int) - start)).natAbs := by omega
    have := Nat.mul_le_mul_right d apart
    omega
  unfold weightedStep stepToward
  rw [whole]
  split
  · split <;> omega
  · rfl

theorem fastFilter_eq (alpha f v : Nat) : fastFilter alpha f v = ((f : Int) + weightedStep alpha 64 f v).toNat := rfl

theorem baselineUpdate_eq {beta : Nat} (learns : beta ≠ 0) (ceiling b f : Nat) :
    baselineUpdate beta ceiling b f = min ((b : Int) + weightedStep beta 256 b f).toNat ceiling := by
  simp only [baselineUpdate, weightedStep, if_neg learns]

theorem baselineUpdate_zero (ceiling b f : Nat) : baselineUpdate 0 ceiling b f = min b ceiling := by
  simp [baselineUpdate]

/-- A step never leaves the naturals. -/
theorem weightedStep_nonneg {k d : Nat} (weight : k ≤ d) (pos : 0 < d) (start goal : Nat) :
    0 ≤ (start : Int) + weightedStep k d start goal := by
  rcases Nat.lt_trichotomy start goal with up | rfl | down
  · have := weightedStep_up weight pos up
    omega
  · rw [weightedStep_self]; omega
  · have := weightedStep_down weight pos down
    omega

end Sys2Proof.Machine

namespace Sys2Proof
open Sys2Proof.Machine

/-- Settles O23: both stages are a weighted step, up or down or none. -/
theorem filterStages : Obligations.FilterStages := by
  intro alpha beta ceiling f b v _ alphaMax betaMax
  have weight : beta ≤ 256 := by omega
  have filterStep : (fastFilter alpha f v : Int) = f + weightedStep alpha 64 f v := by
    rw [fastFilter_eq, Int.toNat_of_nonneg (weightedStep_nonneg alphaMax (by decide) f v)]
  refine ⟨?_, ?_, fun up => ?_, fun down => ?_, ?_, ?_, fun low => ?_, Nat.min_le_right .., fun learns up room => ?_,
    fun learns down _ => ?_⟩
  · rw [filterStep]
    simp only [weightedStep, stepToward, ne_eq, ite_not]
  · by_cases learns : beta = 0
    · subst learns; simp [baselineUpdate_zero]
    · rw [baselineUpdate_eq learns, Nat.cast_min, Int.toNat_of_nonneg (weightedStep_nonneg weight (by decide) b f)]
      simp only [weightedStep, stepToward, ne_eq, learns, or_false, ite_not]
  · have := weightedStep_up alphaMax (by decide) up
    omega
  · have := weightedStep_down alphaMax (by decide) down
    omega
  · rw [fastFilter_eq, weightedStep_self]; omega
  · rw [fastFilter_eq, weightedStep_full (by decide)]; omega
  · rw [baselineUpdate_zero]; omega
  · have := weightedStep_up weight (by decide) up
    rw [baselineUpdate_eq (by omega)]; omega
  · have := weightedStep_down weight (by decide) down
    rw [baselineUpdate_eq (by omega)]; omega

end Sys2Proof

namespace Sys2Proof.Machine

/-! ### Requests and their bytes -/

theorem Req.ofCode_code (r : Req) : Req.ofCode r.code = some r := by
  cases r <;> rfl

theorem Req.code_lt (r : Req) : r.code.msb = false := by
  cases r <;> rfl

/-- The body of a request is of the length that the table gives, and is read back as the request. -/
theorem request_parse (i : Instr) (r : Req) (body : List Byte) (request : i.request? = some (r, body)) :
    body.length = r.bodyLength ∧ r.parse body = some i := by
  cases i <;> cases request
  case setLevels v => exact ⟨v.size_toArray, by simp [Req.parse, levelsOfBody]; rfl⟩
  all_goals exact ⟨rfl, congrArg some (by simp only [Half.ofBytes_lo_hi])⟩

theorem dispatch_request {i : Instr} {r : Req} {body : List Byte} (request : i.request? = some (r, body)) :
    dispatch r.code body = .request i := by
  obtain ⟨fits, reads⟩ := request_parse i r body request
  simp only [dispatch, Req.ofCode_code, fits, reads, if_true]

theorem Req.bodyLength_le (r : Req) : r.bodyLength ≤ 16 := by
  cases r <;> decide

end Sys2Proof.Machine

namespace Sys2Proof
open Sys2Proof.Machine

/-- Settles O24, by the request table. -/
theorem requestsDecodeAsEncoded : Obligations.RequestsDecodeAsEncoded := by
  rintro i ⟨r, body⟩ request
  exact ⟨dispatch_request request, (request_parse i r body request).1⟩

end Sys2Proof

namespace Sys2Proof.Machine

/-! ### A frame received byte by byte (R185 to R188) -/

/-- The bytes of a frame taken one after another, none with a framing error. -/
def State.receive (s : State) (bytes : List Byte) : State := bytes.foldl (fun u b => u.rxByte b false) s

theorem State.receive_append (s : State) (l₁ l₂ : List Byte) : s.receive (l₁ ++ l₂) = (s.receive l₁).receive l₂ :=
  List.foldl_append

/-- R186: the bytes of KIND and BODY gather in DATA; the last of them opens CHECK. -/
theorem State.receive_data (bytes : List Byte) {s : State} (phase : s.link.phase = .data) (some' : bytes ≠ [])
    (fits : s.link.data.length + bytes.length = s.link.len.toNat) :
    s.receive bytes =
      { s with link := { s.link with data := s.link.data ++ bytes, gap := gapDue s.now, phase := .check } } := by
  induction bytes generalizing s with
  | nil => exact absurd rfl some'
  | cons b rest ih =>
    have first : s.receive (b :: rest) = (s.rxData b).receive rest := by
      rw [State.receive, List.foldl_cons, State.rxByte_data b phase]; rfl
    rw [List.length_cons] at fits
    rw [first, State.rxData_eq]
    cases rest with
    | nil =>
      rw [if_pos (show s.link.len.toNat ≤ s.link.data.length + 1 by simp at fits; omega)]
      rfl
    | cons c rest =>
      rw [List.length_cons] at fits
      rw [if_neg (show ¬ s.link.len.toNat ≤ s.link.data.length + 1 by omega),
        ih rfl (List.cons_ne_nil c rest) (by simp only [List.length_append, List.length_cons, List.length_nil]; omega)]
      simp only [List.append_assoc, List.singleton_append]

/-- SYNC, a length in range and as many bytes leave the record in CHECK with the bytes gathered. -/
theorem State.receive_body {s : State} (hunting : s.link.phase = .hunt) (len : Byte) (data : List Byte) (some' : data ≠ [])
    (fits : len.toNat = data.length) (short : data.length ≤ 57) :
    s.receive ([syncByte, len] ++ data) =
      { s with link := { s.link.hunt with phase := .check, len := len, data := data, gap := gapDue s.now } } := by
  have pos : 1 ≤ data.length := List.length_pos_iff.mpr some'
  rw [State.receive_append]
  have opened : s.receive [syncByte, len] =
      { s with link := { s.link.hunt with phase := .data, len := len, gap := gapDue s.now } } := by
    simp only [State.receive, List.foldl_cons, List.foldl_nil]
    rw [State.rxByte_hunt_sync hunting, State.rxByte_length _ rfl, State.rxLength_inRange (by omega) (by omega)]
  rw [opened, State.receive_data data rfl some' (by simp [Link.hunt, fits])]
  simp [Link.hunt]

/-- The two CHECK bytes complete the frame. -/
theorem State.receive_check {s : State} (phase : s.link.phase = .check) (none : s.link.check = []) (lo hi : Byte) :
    s.receive [lo, hi] =
      { s with link := s.link.hunt }.frameComplete ⟨s.link.len, s.link.data, lo, hi⟩ := by
  simp only [State.receive, List.foldl_cons, List.foldl_nil]
  rw [State.rxByte_check lo phase, State.rxCheck_first lo none]
  exact State.rxByte_check hi phase

/-- A frame with a right CHECK that dispatches to a request hands that request (R188). -/
theorem State.takeFrame_request (s : State) {kind lo hi len : Byte} {body : List Byte} {i : Instr}
    (right : Half.ofBytes lo hi = crc (len :: kind :: body)) (request : dispatch kind body = .request i) :
    s.takeFrame ⟨len, kind :: body, lo, hi⟩ =
      { s with link := { s.link with busy := true }, handed := s.handed ++ [i] } := by
  simp only [State.takeFrame, right, if_true, request, State.hand]

theorem State.frameComplete_free {s : State} (f : Frame) (free : s.link.busy = false) (none : s.link.held = none)
    (quiet : s.link.resetting = false) : s.frameComplete f = s.takeFrame f := by
  simp [State.frameComplete, free, none, quiet]

/-- The state that a command answers, where it answers one. -/
def nextOf (o : Out) : Option State :=
  match o with
  | .next v => some v
  | .fault _ => none
  | .refused _ => none

theorem rxByte_partState (s : State) (outside : s.part.state ≠ .init) (b : Byte) :
    (s.rxByte b false).part.state ≠ .init := by
  have same := exec_same (c := .linkByteReceived b false) (execLinkByteReceived_eq outside b false) .partState rfl
  exact fun init => outside (same ▸ init)

/-- Bytes received as commands are bytes at the receive record. -/
theorem receive_commands (bytes : List Byte) {s : State} (outside : s.part.state ≠ .init) :
    bytes.foldl (fun t b => t.bind fun u => nextOf (exec (.linkByteReceived b false) u)) (some s) =
      some (s.receive bytes) := by
  induction bytes generalizing s with
  | nil => rfl
  | cons b rest ih =>
    have received : exec (.linkByteReceived b false) s = .next (s.rxByte b false) := execLinkByteReceived_eq outside b false
    rw [List.foldl_cons, Option.bind_some, received]
    exact ih (rxByte_partState s outside b)

/-- R185 to R188: the frame of a request, received in HUNT while LNK is free, hands the request. -/
theorem receive_request {i : Instr} {r : Req} {body : List Byte} (request : i.request? = some (r, body)) {s : State}
    (hunting : s.link.phase = .hunt) (free : s.link.busy = false) (none : s.link.held = none)
    (quiet : s.link.resetting = false) :
    s.receive (frameBytes r.code body) =
      { s with link := { s.link.hunt with busy := true }, handed := s.handed ++ [i] } := by
  have length := (request_parse i r body request).1
  have short := Req.bodyLength_le r
  have fits : (BitVec.ofNat 8 (body.length + 1) : Byte).toNat = (r.code :: body).length := by
    rw [BitVec.toNat_ofNat, List.length_cons]; omega
  have split : frameBytes r.code body =
      ([syncByte, BitVec.ofNat 8 (body.length + 1)] ++ (r.code :: body)) ++
        [Half.lo (crc (BitVec.ofNat 8 (body.length + 1) :: r.code :: body)),
          Half.hi (crc (BitVec.ofNat 8 (body.length + 1) :: r.code :: body))] := by
    simp [frameBytes]
  rw [split, State.receive_append, State.receive_body hunting _ _ (List.cons_ne_nil _ _) fits (by simp; omega),
    State.receive_check rfl rfl]
  exact (State.frameComplete_free (s := { s with link := s.link.hunt }) _ free none quiet).trans
    (State.takeFrame_request _ (Half.ofBytes_lo_hi _) (dispatch_request request))

/-! ### Complete frames and the end of a reply (R180, R187) -/

theorem State.frameTaken_eq (s : State) (free : Link) (clear : s.link = free) (f : Frame) (some' : f.data ≠ []) :
    s.takeFrame f = s.frameTaken free f := by
  subst clear
  obtain ⟨len, data, lo, hi⟩ := f
  obtain ⟨kind, body, rfl⟩ := List.exists_cons_of_ne_nil some'
  by_cases right : hi ++ lo = crc (len :: kind :: body)
  · have right' : Half.ofBytes lo hi = crc (len :: kind :: body) := right
    simp only [State.takeFrame, State.frameTaken, List.headD_cons, List.tail_cons, if_pos right, if_pos right']
    cases dispatch kind body <;> rfl
  · have wrong : ¬ Half.ofBytes lo hi = crc (len :: kind :: body) := right
    simp only [State.takeFrame, State.frameTaken, List.headD_cons, List.tail_cons, if_neg right, if_neg wrong]
    rfl

end Sys2Proof.Machine

namespace Sys2Proof
open Sys2Proof.Machine

/-- Settles O25: the frame's bytes gathered phase by phase, and its right CHECK. -/
theorem framesHandTheirRequest : Obligations.FramesHandTheirRequest := by
  intro i s bytes framed outside hunting free none quiet take
  obtain ⟨⟨r, body⟩, request, rfl⟩ := Option.map_eq_some_iff.mp framed
  have commands : take = fun t b => t.bind fun u => nextOf (exec (.linkByteReceived b false) u) := rfl
  rw [commands, receive_commands _ outside, receive_request request hunting free none quiet]
  simp only [Link.hunt, ← hunting]

/-- Settles O27: `frameComplete` by its three cases, and the end of a reply by whether a reset is due. -/
theorem completeFramesAndReplies : Obligations.CompleteFramesAndReplies := by
  intro hi s outside free
  refine ⟨fun lo first phase some' => ?_, fun f held quiet some' => ?_, fun sends notDue => ?_, fun sends due => ?_⟩
  · obtain ⟨rest, gathered⟩ : ∃ rest, s.link.check = lo :: rest := by
      cases gathered : s.link.check with
      | nil => rw [gathered] at first; cases first
      | cons c rest => rw [gathered] at first; cases first; exact ⟨rest, rfl⟩
    have completes : exec (.linkByteReceived hi false) s =
        .next (({ s with link := free } : State).frameComplete ⟨s.link.len, s.link.data, lo, hi⟩) := by
      refine (execLinkByteReceived_eq outside hi false).trans (congrArg _ ?_)
      rw [State.rxByte_check hi phase]
      simp only [State.rxCheck, gathered]
      rfl
    rw [completes]
    refine ⟨fun taken => ?_, fun idle none resets => ?_, fun idle none quiet => ?_⟩
    · have overrun : (free.busy || free.held.isSome) = true := by simpa [free] using taken
      simp only [State.frameComplete, overrun, if_true]
      rfl
    · have room : (free.busy || free.held.isSome) = false := by simp [free, idle, none]
      have resets : free.resetting = true := resets
      simp only [State.frameComplete, room, Bool.false_eq_true, if_false, resets, if_true]
    · have taken := State.frameComplete_free (s := { s with link := free }) ⟨s.link.len, s.link.data, lo, hi⟩ idle none quiet
      rw [taken, State.frameTaken_eq _ free rfl _ some']
      rfl
  · show execHeldFrameTaken s = _
    refine (State.take_next s _ _ outside).trans (congrArg _ ?_)
    have held : s.link.held = some f := held
    simp only [State.strike, held, quiet, Bool.false_eq_true, if_false]
    exact State.frameTaken_eq _ _ rfl f some'
  · refine (State.own_next s _ outside).trans (congrArg _ ?_)
    simp only [sends, if_true, State.endReply, notDue, Bool.false_eq_true, if_false]
  · refine (State.own_next s _ outside).trans (congrArg _ ?_)
    simp only [sends, if_true, State.endReply, due]
    rfl

end Sys2Proof

/-! The timers and settings of the channels (01) and the settings of the assessors (02). -/

namespace Sys2Proof.Machine

/-- R13, R14: a report carries the record, whatever source has been raised meanwhile. -/
theorem State.putChannel_raise_report (s : State) (ch : ChannelIx) (c : Channel) (i : SourceIx) (detail : Nat) :
    ((s.putChannel ch c).raise i detail).report ch =
      { s.channelReports ch c with atn := s.atn.raise i detail } := by
  rw [State.report_eq, State.channelReports_eq]
  simp [State.raise]

/-! ### The expiries of a channel -/

section ChannelExpiries

variable {s : State} (outside : s.part.state ≠ .init) (ch : ChannelIx)
include outside

/-- R8: the expiry of a timer that has expired already finds nothing to change. -/
theorem execWarmUpExpiry_eq (started : s.sns.channels[ch].warmUp ≠ .stopped) :
    execWarmUpExpiry ch s = .next (s.putChannel ch { s.sns.channels[ch] with warmUp := .expired }) := by
  have bound := ch.isLt
  refine (State.own_next s _ outside).trans (congrArg _ ?_)
  cases timer : s.sns.channels[ch].warmUp with
  | stopped => exact absurd timer started
  | running due => simp only [State.channel_eq, timer]
  | expired =>
    have same : ({ s.sns.channels[ch] with warmUp := .expired } : Channel) = s.sns.channels[ch] := by rw [← timer]
    have kept : s.sns.channels.set ch s.sns.channels[ch] = s.sns.channels := Vector.set_getElem_self ..
    simp only [State.channel_eq, timer, State.putChannel, same, kept]

theorem execChannelHoldExpiry_eq (runs : s.sns.channels[ch].hold.isSome = true) :
    execChannelHoldExpiry ch s =
      .next { s.channelReports ch s.sns.channels[ch].fail with
        atn := s.atn.raise asSensor (ch.val + 256 * (if s.sns.channels[ch].state = .held then 1 else 2)) } := by
  obtain ⟨due, timer⟩ := Option.isSome_iff_exists.mp runs
  refine (State.own_next s _ outside).trans (congrArg _ ?_)
  simp only [State.channel_eq, timer, State.putChannel_raise_report]
  rfl

end ChannelExpiries

/-! ### SET_CHANNEL -/

/-- R19: the ranges. A natural number needs no lower end at 0. -/
theorem ChannelSettings.clamp_eq (c : ChannelSettings) :
    c.clamp =
      { c with warmUp := min 300 c.warmUp, hold := max 100 (min 30000 c.hold), recovery := max 1 (min 15 c.recovery) } := by
  simp only [ChannelSettings.clamp, clampNat, Nat.zero_max]

theorem ChannelSettings.clamp_eq_self_iff (c : ChannelSettings) :
    c.clamp = c ↔ c.clamp.warmUp = c.warmUp ∧ c.clamp.hold = c.hold ∧ c.clamp.recovery = c.recovery := by
  refine ⟨fun same => by rw [same]; exact ⟨rfl, rfl, rfl⟩, fun ⟨warmUp, hold, recovery⟩ => ?_⟩
  calc c.clamp = { c with warmUp := c.clamp.warmUp, hold := c.clamp.hold, recovery := c.clamp.recovery } := rfl
    _ = c := by rw [warmUp, hold, recovery]

theorem ChannelSettings.refusable_iff (c : ChannelSettings) : c.refusable = true ↔ 32767 < c.gain ∨ c.high < c.low := by
  simp only [ChannelSettings.refusable, Bool.or_eq_true, decide_eq_true_eq]

/-- R20: what new settings do at a channel: a FAILED one takes the failsafe value, and reports it where it is another. -/
theorem State.settleChannel_eq (s : State) (ch : ChannelIx) (set : ChannelSettings) :
    s.settleChannel ch set =
      if s.sns.channels[ch].state = .failed then
        if s.sns.channels[ch].settings.failsafe = set.failsafe then
          s.putChannel ch { s.sns.channels[ch] with settings := set, value := set.failsafe }
        else s.channelReports ch { s.sns.channels[ch] with settings := set, value := set.failsafe }
      else s.putChannel ch { s.sns.channels[ch] with settings := set } := by
  have bound := ch.isLt
  by_cases failed : s.sns.channels[ch].state = .failed
  · by_cases same : s.sns.channels[ch].settings.failsafe = set.failsafe
    · simp only [State.settleChannel, State.channel_eq, Channel.settle, failed, same, ne_eq, not_true_eq_false, and_false,
        if_true, if_false]
    · simp only [State.settleChannel, State.channel_eq, Channel.settle, failed, same, ne_eq, not_false_eq_true, and_self,
        if_true, if_false, State.putChannel_report]
  · simp only [State.settleChannel, State.channel_eq, Channel.settle, failed, false_and, if_false]

theorem State.putChannel_status (s : State) (ch : ChannelIx) (c : Channel) (r : Req) (status : StatusCode) :
    (s.putChannel ch c).status r status = (s.status r status).putChannel ch c := rfl

theorem State.settleChannel_status (s : State) (ch : ChannelIx) (set : ChannelSettings) (r : Req) (status : StatusCode) :
    (s.settleChannel ch set).status r status = (s.status r status).settleChannel ch set := by
  have same : (s.status r status).sns = s.sns := rfl
  simp only [State.settleChannel_eq, same]
  split
  · split <;> rfl
  · rfl

section SetChannel

variable {s : State} (outside : s.part.state ≠ .init) (gain offset low high warmUp hold failsafe : Half) (recovery : Byte)
include outside

theorem execSetChannel_run (channel : Byte) (run : s.part.state = .run) :
    execSetChannel channel gain offset low high warmUp hold failsafe recovery s =
      .next (s.replied (.setChannel channel gain offset low high warmUp hold failsafe recovery) 0x90#8 [20#8]) := by
  have inRun : (s.strike (.setChannel channel gain offset low high warmUp hold failsafe recovery)).inRun = true :=
    (State.inRun_iff _).mpr run
  simp only [execSetChannel, State.take_next _ _ _ outside, inRun, if_true, State.strike_status]
  rfl

theorem execSetChannel_config (channel : Byte) (config : s.part.state = .config) :
    execSetChannel channel gain offset low high warmUp hold failsafe recovery s =
      .next (match indexOf 15 channel with
        | none => s.replied (.setChannel channel gain offset low high warmUp hold failsafe recovery) 0x90#8 [19#8]
        | some ch =>
          let sent := channelSettingsOf gain offset low high warmUp hold failsafe recovery
          if sent.refusable then
            s.replied (.setChannel channel gain offset low high warmUp hold failsafe recovery) 0x90#8 [19#8]
          else
            (s.replied (.setChannel channel gain offset low high warmUp hold failsafe recovery) 0x90#8
              [if sent.clamp = sent then 0#8 else 1#8]).settleChannel ch sent.clamp) := by
  have noRun : (s.strike (.setChannel channel gain offset low high warmUp hold failsafe recovery)).inRun = false := by
    simp [State.inRun, config]
  simp only [execSetChannel, State.take_next _ _ _ outside, noRun, Bool.false_eq_true, if_false, State.settleChannel_status,
    State.strike_status, clampStatus_code, bne_iff_ne, ne_eq, ite_not]
  rfl

end SetChannel

/-! ### SET_ASSESS -/

/-- R37: the ranges of a SET_ASSESS; a byte needs no upper end at 255. -/
theorem assessorSettingsOf_inRange_iff (alpha beta n : Byte) (ceiling low high abs h : Half) (p d : Byte) :
    (assessorSettingsOf alpha beta n ceiling low high abs h p d).inRange = true ↔
      1 ≤ alpha.toNat ∧ alpha.toNat ≤ 64 ∧ 1 ≤ n.toNat ∧ ceiling.toNat ≤ 32767 ∧ 1 ≤ abs.toNat ∧ abs.toNat ≤ 32767 ∧
        1 ≤ p.toNat ∧ p.toNat ≤ 15 ∧ 1 ≤ d.toNat ∧ 1 ≤ low.toNat ∧ low.toNat ≤ high.toNat ∧ high.toNat ≤ 32767 := by
  have := beta.isLt
  have := n.isLt
  have := d.isLt
  simp only [AssessorSettings.inRange, Bool.and_eq_true, decide_eq_true_eq]
  simp only [assessorSettingsOf]
  omega

/-- R37, R189: the hysteresis is the one setting that is clamped. -/
theorem AssessorSettings.clamp_eq_self_iff (c : AssessorSettings) (low : 1 ≤ c.low) : c.clamp = c ↔ ¬ c.low ≤ c.h := by
  rw [AssessorSettings.clamp, AssessorSettings.mk.injEq]
  simp only [true_and, and_true]
  omega

theorem State.putAssessor_status (s : State) (i : AssessorIx) (a : Assessor) (r : Req) (status : StatusCode) :
    (s.putAssessor i a).status r status = (s.status r status).putAssessor i a := rfl

section SetAssess

variable {s : State} (outside : s.part.state ≠ .init) (alpha beta n : Byte) (ceiling low high abs h : Half) (p d : Byte)
include outside

theorem execSetAssess_noIndex (index : Byte) (above : 2 < index.toNat) :
    execSetAssess index alpha beta n ceiling low high abs h p d s =
      .next (s.replied (.setAssess index alpha beta n ceiling low high abs h p d) 0x98#8 [19#8]) := by
  simp only [execSetAssess, State.take_next _ _ _ outside, indexOf_none 3 index above, State.strike_status]
  rfl

theorem execSetAssess_eq (i : AssessorIx) :
    let cmd : Instr := .setAssess (BitVec.ofNat 8 i.val) alpha beta n ceiling low high abs h p d
    let sent := assessorSettingsOf alpha beta n ceiling low high abs h p d
    execSetAssess (BitVec.ofNat 8 i.val) alpha beta n ceiling low high abs h p d s =
      .next (if sent.inRange then
        (s.replied cmd 0x98#8 [if sent.clamp = sent then 0#8 else 1#8]).putAssessor i (s.asr[i].settle sent.clamp)
      else s.replied cmd 0x98#8 [19#8]) := by
  simp only [execSetAssess, State.take_next _ _ _ outside, indexOf_ofNat 3 i (by decide), State.putAssessor_status,
    State.strike_status, clampStatus_code, bne_iff_ne, ne_eq, ite_not]
  rfl

end SetAssess

end Sys2Proof.Machine

namespace Sys2Proof
open Sys2Proof.Machine

/-- Settles O34, by the timer that runs out. -/
theorem channelTimers : Obligations.ChannelTimers := fun ch _ outside =>
  ⟨execWarmUpExpiry_eq outside ch, execChannelHoldExpiry_eq outside ch⟩

/-- Settles O35: the refusals in order, then the channel by whether it is FAILED and its failsafe value another. -/
theorem setChannel : Obligations.SetChannel := by
  intro channel ch gain offset low high warmUp hold failsafe recovery s outside c raw cmd set same u
  let sent := channelSettingsOf gain offset low high warmUp hold failsafe recovery
  have clamped : sent.clamp = set := ChannelSettings.clamp_eq sent
  have status : (if sent.clamp = sent then 0#8 else 1#8 : Byte) = if same then 0#8 else 1#8 :=
    if_congr ((ChannelSettings.clamp_eq_self_iff sent).trans (by rw [clamped]; exact Iff.rfl)) rfl rfl
  refine ⟨execSetChannel_run outside gain offset low high warmUp hold failsafe recovery channel, fun config => ?_⟩
  have answers := execSetChannel_config outside gain offset low high warmUp hold failsafe recovery
  have accepted (inGain : gain.toNat ≤ 32767) (inRange : low.toInt ≤ high.toInt) :
      exec cmd s = .next (u.settleChannel ch set) := by
    have fine : sent.refusable = false := by
      rw [Bool.eq_false_iff, ne_eq, ChannelSettings.refusable_iff]
      exact fun bad => bad.elim (fun above => absurd inGain (by exact Nat.not_le.mpr above)) fun below =>
        absurd inRange (Int.not_le.mpr below)
    refine (answers _ config).trans (congrArg _ ?_)
    rw [indexOf_ofNat 15 ch (by decide)]
    simp only
    rw [if_neg (by rw [fine]; decide), status, clamped]
  refine ⟨fun above => ?_, fun bad => ?_, fun inGain inRange => ⟨fun failed other => ?_, fun failed equal => ?_, fun well => ?_⟩⟩
  · refine (answers channel config).trans (congrArg _ ?_)
    rw [indexOf_none 15 channel above]
  · refine (answers _ config).trans (congrArg _ ?_)
    rw [indexOf_ofNat 15 ch (by decide)]
    exact if_pos ((ChannelSettings.refusable_iff sent).mpr bad)
  · refine (accepted inGain inRange).trans (congrArg _ ((u.settleChannel_eq ch set).trans ?_))
    exact (if_pos failed).trans (if_neg other)
  · refine (accepted inGain inRange).trans (congrArg _ ((u.settleChannel_eq ch set).trans ?_))
    exact (if_pos failed).trans (if_pos equal)
  · refine (accepted inGain inRange).trans (congrArg _ ((u.settleChannel_eq ch set).trans ?_))
    exact if_neg well

/-- Settles O38: the refusals, then the baseline against the new ceiling. -/
theorem setAssess : Obligations.SetAssess := by
  intro index i alpha beta n ceiling low high abs h p d s outside a raw cmd inRange set
  let sent := assessorSettingsOf alpha beta n ceiling low high abs h p d
  have ranged : sent.inRange = true ↔ inRange := assessorSettingsOf_inRange_iff alpha beta n ceiling low high abs h p d
  have answers := execSetAssess_eq outside alpha beta n ceiling low high abs h p d i
  refine ⟨execSetAssess_noIndex outside alpha beta n ceiling low high abs h p d index, fun bad => ?_, fun good => ?_⟩
  · exact answers.trans (congrArg _ (if_neg fun fine => bad (ranged.mp fine)))
  · have positive : 1 ≤ low.toNat := by obtain ⟨-, -, -, -, -, -, -, -, -, positive, -⟩ := good; exact positive
    have status : (if sent.clamp = sent then 0#8 else 1#8 : Byte) = if low.toNat ≤ h.toNat then 1#8 else 0#8 := by
      rw [if_congr (AssessorSettings.clamp_eq_self_iff sent positive) rfl rfl, ite_not]
      rfl
    refine answers.trans (congrArg _ ((if_pos (ranged.mpr good)).trans ?_))
    rw [status]
    rfl

end Sys2Proof

/-! The outputs of ZON (04), and the movers, the pressure loop and the filter watch (06) in the words of their rules. -/

namespace Sys2Proof.Machine

/-! ### The largest demand of a list of zones -/

theorem le_foldl_max {α : Type} (f : α → Nat) (l : List α) (n : Nat) :
    n ≤ l.foldl (fun m a => max m (f a)) n ∧ ∀ a ∈ l, f a ≤ l.foldl (fun m a => max m (f a)) n := by
  induction l generalizing n with
  | nil => exact ⟨Nat.le_refl n, nofun⟩
  | cons b l ih =>
    obtain ⟨start, each⟩ := ih (max n (f b))
    refine ⟨Nat.le_trans (Nat.le_max_left ..) start, fun a mem => ?_⟩
    rcases List.mem_cons.mp mem with rfl | mem
    · exact Nat.le_trans (Nat.le_max_right ..) start
    · exact each a mem

theorem foldl_max_attained {α : Type} (f : α → Nat) (l : List α) (n : Nat) :
    l.foldl (fun m a => max m (f a)) n = n ∨ ∃ a ∈ l, l.foldl (fun m a => max m (f a)) n = f a := by
  induction l generalizing n with
  | nil => exact .inl rfl
  | cons b l ih =>
    rcases ih (max n (f b)) with kept | ⟨a, mem, found⟩
    · rcases Nat.le_total n (f b) with le | le
      · exact .inr ⟨b, List.mem_cons_self, kept.trans (Nat.max_eq_right le)⟩
      · exact .inl (kept.trans (Nat.max_eq_left le))
    · exact .inr ⟨a, List.mem_cons_of_mem b mem, found⟩

theorem le_largest {zs : List Zone} {r : Zone} (mem : r ∈ zs) (f : Zone → Nat) : f r ≤ largest zs f :=
  (le_foldl_max f zs 0).2 r mem

theorem largest_attained (zs : List Zone) (f : Zone → Nat) : largest zs f = 0 ∨ ∃ r ∈ zs, largest zs f = f r :=
  foldl_max_attained f zs 0

/-! ### The zones that count (R79, R81) -/

theorem Zon.mem_enabledZones_of {v : Zon} {z : ZoneIx} (enabled : v.zones[z].enabled = true) :
    v.zones[z] ∈ v.enabledZones :=
  List.mem_filter.mpr ⟨by simp, enabled⟩

theorem Zon.mem_frontZones_of {v : Zon} {z : ZoneIx} (enabled : v.zones[z].enabled = true) (front : z.val < 2) :
    v.zones[z] ∈ v.groupZones .front := by
  refine List.mem_filter.mpr ⟨?_, enabled⟩
  obtain rfl | rfl : z = 0 ∨ z = 1 := (show z.val = 0 ∨ z.val = 1 by omega).imp Fin.ext Fin.ext
  · exact List.mem_cons_self
  · exact List.mem_cons_of_mem _ List.mem_cons_self

theorem Zon.mem_rearZones_of {v : Zon} {z : ZoneIx} (enabled : v.zones[z].enabled = true) (rear : 2 ≤ z.val) :
    v.zones[z] ∈ v.groupZones .rear := by
  refine List.mem_filter.mpr ⟨?_, enabled⟩
  obtain rfl | rfl : z = 2 ∨ z = 3 := (show z.val = 2 ∨ z.val = 3 by omega).imp Fin.ext Fin.ext
  · exact List.mem_cons_self
  · exact List.mem_cons_of_mem _ List.mem_cons_self

theorem Zon.of_mem_pair {v : Zon} {x y : ZoneIx} {r : Zone}
    (mem : r ∈ [v.zones[x], v.zones[y]].filter fun z => z.enabled) :
    ∃ z, (z = x ∨ z = y) ∧ r = v.zones[z] ∧ v.zones[z].enabled = true := by
  obtain ⟨listed, enabled⟩ := List.mem_filter.mp mem
  rcases List.mem_pair.mp listed with rfl | rfl
  · exact ⟨x, .inl rfl, rfl, enabled⟩
  · exact ⟨y, .inr rfl, rfl, enabled⟩

/-- A largest demand of 0, or of an enabled zone. -/
theorem Zon.largest_enabled (v : Zon) (f : Zone → Nat) :
    largest v.enabledZones f = 0 ∨
      ∃ z : ZoneIx, v.zones[z].enabled = true ∧ largest v.enabledZones f = f v.zones[z] :=
  (largest_attained v.enabledZones f).imp_right fun ⟨_, mem, found⟩ => by
    obtain ⟨z, rfl, enabled⟩ := Zon.mem_enabledZones mem
    exact ⟨z, enabled, found⟩

theorem Zon.largest_front (v : Zon) (f : Zone → Nat) :
    largest (v.groupZones .front) f = 0 ∨
      ∃ z : ZoneIx, z.val < 2 ∧ v.zones[z].enabled = true ∧ largest (v.groupZones .front) f = f v.zones[z] :=
  (largest_attained (v.groupZones .front) f).imp_right fun ⟨_, mem, found⟩ => by
    obtain ⟨z, place, rfl, enabled⟩ := Zon.of_mem_pair (x := 0) (y := 1) mem
    exact ⟨z, by rcases place with rfl | rfl <;> decide, enabled, found⟩

theorem Zon.largest_rear (v : Zon) (f : Zone → Nat) :
    largest (v.groupZones .rear) f = 0 ∨
      ∃ z : ZoneIx, 2 ≤ z.val ∧ v.zones[z].enabled = true ∧ largest (v.groupZones .rear) f = f v.zones[z] :=
  (largest_attained (v.groupZones .rear) f).imp_right fun ⟨_, mem, found⟩ => by
    obtain ⟨z, place, rfl, enabled⟩ := Zon.of_mem_pair (x := 2) (y := 3) mem
    exact ⟨z, by rcases place with rfl | rfl <;> decide, enabled, found⟩

/-- R81, R83: the front demand is that of its zones, with the defrost floor. -/
theorem Zon.outputs_front (v : Zon) :
    v.outputs.front =
      if v.defrost then max 80 (largest (v.groupZones .front) fun z => z.blower)
      else largest (v.groupZones .front) fun z => z.blower := rfl

theorem Zon.groupZones_le_front (v : Zon) : largest (v.groupZones .front) (fun z => z.blower) ≤ v.outputs.front := by
  rw [Zon.outputs_front]
  split
  · exact Nat.le_max_right ..
  · exact Nat.le_refl _

end Sys2Proof.Machine

namespace Sys2Proof
open Sys2Proof.Machine

/-- Settles O42: each output bounds its zones and is one of theirs, or 0, or the defrost floor. -/
theorem zoneOutputs : Obligations.ZoneOutputs := by
  intro v out
  refine ⟨fun z enabled => ⟨?_, ?_, ?_, ?_, ?_⟩, v.largest_enabled _, ?_, ?_, v.largest_rear _, ?_, ?_⟩
  · exact le_largest (Zon.mem_enabledZones_of enabled) fun z => z.fresh
  · have le : v.zones[z].demand.toNat ≤ out.heat :=
      le_largest (Zon.mem_enabledZones_of enabled) fun z => z.demand.toNat
    omega
  · exact fun breathing => List.any_eq_true.mpr ⟨_, Zon.mem_enabledZones_of enabled, breathing⟩
  · exact fun front =>
      Nat.le_trans (le_largest (Zon.mem_frontZones_of enabled front) fun z => z.blower) v.groupZones_le_front
  · exact fun rear => le_largest (Zon.mem_rearZones_of enabled rear) fun z => z.blower
  · have attained : out.heat = 0 ∨ ∃ z : ZoneIx, v.zones[z].enabled = true ∧ out.heat = v.zones[z].demand.toNat :=
      v.largest_enabled _
    rcases attained with zero | ⟨z, enabled, found⟩
    · exact .inl zero
    · rcases Int.le_total 0 v.zones[z].demand with pos | neg
      · exact .inr ⟨z, enabled, by omega⟩
      · exact .inl (by omega)
  · intro breathing
    obtain ⟨r, mem, breathes⟩ := List.any_eq_true.mp breathing
    obtain ⟨z, rfl, enabled⟩ := Zon.mem_enabledZones mem
    exact ⟨z, enabled, breathes⟩
  · intro defrost
    show 80 ≤ v.outputs.front
    rw [Zon.outputs_front, if_pos defrost]
    exact Nat.le_max_left ..
  · show v.outputs.front = 0 ∨ v.defrost = true ∧ v.outputs.front = 80 ∨ ∃ z : ZoneIx, z.val < 2 ∧
      v.zones[z].enabled = true ∧ v.outputs.front = v.zones[z].blower
    rw [Zon.outputs_front]
    have attained := v.largest_front fun z => z.blower
    by_cases defrost : v.defrost = true
    · rw [if_pos defrost]
      rcases Nat.le_total (largest (v.groupZones .front) fun z => z.blower) 80 with low | high
      · exact .inr (.inl ⟨defrost, Nat.max_eq_left low⟩)
      · rw [Nat.max_eq_right high]
        exact attained.imp_right .inr
    · rw [if_neg defrost]
      exact attained.imp_right .inr

end Sys2Proof

namespace Sys2Proof.Machine

/-! ### The stall condition and the update of a mover (R123, R126) -/

theorem startIfStopped_eq (t : Option Time) (due : Time) : startIfStopped t due = some (t.getD due) := by
  cases t <;> rfl

theorem State.stallWatched_iff (s : State) (m : MoverIx) :
    s.stallWatched m = true ↔ s.part.state = .run ∧ s.bound (.pwm m) = true ∧ s.bound (.tach m) = true := by
  rw [State.stallWatched, Bool.and_eq_true, Bool.and_eq_true, s.inRun_iff, and_assoc]

section Watched

variable {watched : Bool} {holds : Prop} [Decidable holds] (isWatched : watched = true ↔ holds)
include isWatched

/-- R126: a judgement starts the stall timer, or lets it run on, exactly while the condition holds. -/
theorem Mover.judgeStall_eq (r : Mover) (now : Time) :
    r.judgeStall now watched =
      { r with
        stall :=
          if holds ∧ r.state = .running ∧ r.settings.minStallDuty ≤ r.duty ∧ r.speed < r.settings.stallSpeed then
            some (r.stall.getD (now + r.settings.stallTime * 1000))
          else none } := by
  have condition : r.stallHolds watched = true ↔
      holds ∧ r.state = .running ∧ r.settings.minStallDuty ≤ r.duty ∧ r.speed < r.settings.stallSpeed := by
    simp only [Mover.stallHolds, Bool.and_eq_true, decide_eq_true_eq, isWatched, and_assoc]
  simp only [Mover.judgeStall, condition, startIfStopped_eq, inMs]

/-- R125, R126: a speed that is another is judged. -/
theorem Mover.measured_eq (r : Mover) (now : Time) (speed : Nat) :
    r.measured now watched speed =
      { r with
        speed := speed
        stall := if speed = r.speed then r.stall
          else if holds ∧ r.state = .running ∧ r.settings.minStallDuty ≤ r.duty ∧ speed < r.settings.stallSpeed then
            some (r.stall.getD (now + r.settings.stallTime * 1000))
          else none } := by
  by_cases same : speed = r.speed
  · subst same
    simp only [Mover.measured, if_true]
  · simp only [Mover.measured, if_neg same, Mover.judgeStall_eq isWatched]

end Watched

theorem execMoverUpdate_eq {s : State} (outside : s.part.state ≠ .init) {m : MoverIx}
    (runs : s.mov.movers[m].update.isSome = true) :
    execMoverUpdate m s = .next (s.putMover m (s.mov.movers[m].step s.now (s.stallWatched m))) := by
  obtain ⟨due, timer⟩ := Option.isSome_iff_exists.mp runs
  simp only [execMoverUpdate, State.own_next s _ outside, State.mover_eq, timer]

theorem Mover.step_off {r : Mover} (off : r.state = .off) (now : Time) (watched : Bool) :
    r.step now watched = ({ r with update := some (now + 100000) } : Mover).updateOff now := by
  simp only [Mover.step, off]
  rfl

theorem Mover.step_running {r : Mover} (running : r.state = .running) (now : Time) (watched : Bool) :
    r.step now watched = ({ r with update := some (now + 100000) } : Mover).updateRunning now watched := by
  simp only [Mover.step, running]
  rfl

theorem Mover.step_stopped {r : Mover} (stopped : r.state = .stalled ∨ r.state = .failed) (now : Time) (watched : Bool) :
    r.step now watched = { r with update := some (now + 100000), duty := 0 } := by
  rcases stopped with state | state <;> simp only [Mover.step, state] <;> rfl

end Sys2Proof.Machine

namespace Sys2Proof
open Sys2Proof.Machine

/-- Settles O52, by the state of the mover. -/
theorem moverUpdates : Obligations.MoverUpdates := by
  intro m s outside runs r limit duty stalls becomes
  have becomes_of {r' : Mover} (stepped : s.mov.movers[m].step s.now (s.stallWatched m) = r') : becomes r' :=
    (execMoverUpdate_eq outside runs).trans (by rw [stepped]; rfl)
  refine ⟨fun off still => ?_, fun off starts => ?_, fun running stops idle => ?_, fun running goes => ?_,
    fun stopped => becomes_of (Mover.step_stopped stopped _ _)⟩
  · exact becomes_of ((Mover.step_off off _ _).trans (if_neg (by simp [still])))
  · refine becomes_of ((Mover.step_off off _ _).trans ((if_pos starts).trans ?_))
    have step : rampStep limit 0 r.demand = min limit r.demand := by rw [rampStep, if_pos starts]; simp
    show ({ r with state := _, retry := _, cleanRun := _, duty := rampStep limit 0 r.demand } : Mover) = _
    rw [step]
    rfl
  · exact becomes_of ((Mover.step_running running _ _).trans (if_pos ⟨stops, idle⟩))
  · refine becomes_of ((Mover.step_running running _ _).trans ((if_neg goes).trans ?_))
    refine (Mover.judgeStall_eq (s.stallWatched_iff m) _ _).trans ?_
    have stalls_iff : (s.part.state = .run ∧ s.bound (.pwm m) = true ∧ s.bound (.tach m) = true) ∧ r.state = .running ∧
        r.settings.minStallDuty ≤ duty ∧ r.speed < r.settings.stallSpeed ↔ stalls :=
      ⟨fun ⟨⟨run, pwm, tach⟩, _, enough, slow⟩ => ⟨run, pwm, tach, enough, slow⟩,
        fun ⟨run, pwm, tach, enough, slow⟩ => ⟨⟨run, pwm, tach⟩, running, enough, slow⟩⟩
    exact congrArg (fun t => ({ r with duty := duty, stall := t } : Mover)) (if_congr stalls_iff rfl rfl)

end Sys2Proof

namespace Sys2Proof.Machine

/-! ### The speed that edges measure (R125) -/

theorem execTachEdge_eq {s : State} (outside : s.part.state ≠ .init) (m : MoverIx) :
    execTachEdge m s = .next ((s.strike (.tachEdge m)).tachEffect m) :=
  State.take_next s _ _ outside

theorem execEdgeTimerExpiry_eq {s : State} (outside : s.part.state ≠ .init) {m : MoverIx}
    (runs : s.mov.movers[m].edge.isSome = true) :
    execEdgeTimerExpiry m s =
      .next (s.putMover m
        { s.mov.movers[m].measured s.now (s.stallWatched m) 0 with edge := none, lastEdge := none }) := by
  obtain ⟨due, timer⟩ := Option.isSome_iff_exists.mp runs
  simp only [execEdgeTimerExpiry, State.own_next s _ outside, State.mover_eq, timer]

theorem State.tachEffect_unbound {s : State} {m : MoverIx} (unbound : s.bound (.tach m) = false) : s.tachEffect m = s := by
  simp only [State.tachEffect, unbound, Bool.false_eq_true, if_false]

theorem Mover.measured_same (r : Mover) (now : Time) (watched : Bool) : r.measured now watched r.speed = r := if_pos rfl

/-- The first edge of a measurement measures nothing yet. -/
theorem State.tachEffect_first {s : State} {m : MoverIx} (bound : s.bound (.tach m) = true)
    (first : s.mov.movers[m].lastEdge = none) :
    s.tachEffect m =
      s.putMover m { s.mov.movers[m] with lastEdge := some s.now, edge := some (s.now + 500000) } := by
  simp only [State.tachEffect, bound, if_true, State.mover_eq, Mover.edgeTaken, Mover.edgeUnstated, first,
    Mover.measured_same]
  rfl

/-- An interval above 0 measures the speed. -/
theorem State.tachEffect_measured {s : State} {m : MoverIx} {t : Time} (bound : s.bound (.tach m) = true)
    (last : s.mov.movers[m].lastEdge = some t) (later : t < s.now) :
    s.tachEffect m =
      s.putMover m
        { s.mov.movers[m].measured s.now (s.stallWatched m) (min 65535 (30000000 / (s.now - t))) with
          lastEdge := some s.now, edge := some (s.now + 500000) } := by
  have apart : ¬ s.now - t = 0 := Nat.sub_ne_zero_of_lt later
  simp only [State.tachEffect, bound, if_true, State.mover_eq, Mover.edgeTaken, Mover.edgeUnstated, last, apart, if_false,
    decide_false, Bool.false_eq_true]
  rfl

/-- An interval of 0 leaves the speed a free value (assumption 8). -/
theorem State.tachEffect_unstated {s : State} {m : MoverIx} {t : Time} (bound : s.bound (.tach m) = true)
    (last : s.mov.movers[m].lastEdge = some t) (sameTime : s.now ≤ t) :
    s.tachEffect m =
      (s.putMover m
        { s.mov.movers[m].measured s.now (s.stallWatched m) (Config.freeSpeed s.free).toNat with
          lastEdge := some s.now, edge := some (s.now + 500000) }).spendFree 1 := by
  have none : s.now - t = 0 := Nat.sub_eq_zero_of_le sameTime
  simp only [State.tachEffect, bound, if_true, State.mover_eq, Mover.edgeTaken, Mover.edgeUnstated, last, none, decide_true]
  rfl

/-! ### The pressure loop and the filter watch (R132 to R134) -/

theorem ChannelState.status_usable_iff (st : ChannelState) : st.status = .usable ↔ st = .valid ∨ st = .forced := by
  cases st <;> simp [ChannelState.status]

/-- R132: an update of the loop, by whether the CPD is usable. -/
theorem Loop.step_eq (l : Loop) (now : Time) (c : PressureSettings) (cpd : Status × Int) (usable : Prop)
    [Decidable usable] (isUsable : cpd.1 = .usable ↔ usable) :
    l.step now c cpd =
      { l with
        update := some (now + 500000)
        duty :=
          if usable then
            (max 0 (min 100 ((l.duty : Int) +
              max (-5) (min 5 (rha (max (-2000) (min 2000 ((c.target : Int) - cpd.2)) * c.gain) 256))))).toNat
          else l.duty
        lastError := if usable then max (-2000) (min 2000 ((c.target : Int) - cpd.2)) else l.lastError } := by
  simp only [Loop.step, isUsable]
  split <;> rfl

/-- R133: a judgement of the pressure-lost watch. -/
theorem Loop.judgeLost_eq (l : Loop) (now : Time) (c : PressureSettings) (cpd : Status × Int) (usable : Prop)
    [Decidable usable] (isUsable : cpd.1 = .usable ↔ usable) :
    l.judgeLost now c cpd =
      { l with
        lost :=
          if l.phase = .running ∧ l.lostFlag = false ∧ 95 ≤ l.duty ∧ usable ∧ 2 * cpd.2 < c.target then
            some (l.lost.getD (now + 30000000))
          else none } := by
  have condition : l.lostHolds c cpd = true ↔
      l.phase = .running ∧ l.lostFlag = false ∧ 95 ≤ l.duty ∧ usable ∧ 2 * cpd.2 < c.target := by
    simp only [Loop.lostHolds, Bool.and_eq_true, decide_eq_true_eq, Bool.not_eq_true', isUsable, and_assoc]
  simp only [Loop.judgeLost, condition, startIfStopped_eq, inSec]

theorem State.putLoop_formPress (s : State) (l : Loop) :
    (s.putLoop l).formPress =
      { s with
        mov := { s.mov with
          loop := l
          movers := s.mov.movers.set 2
            { s.mov.movers[2] with
              demand := pressCases (s.part.state = .run) s.mov.picture l.duty s.mov.pressure.breachDuty } } } := by
  rw [State.formPress_eq, State.setDemand_eq]
  rfl

theorem twos16_eq (x : Int) : twos16 x = (x % 65536).toNat := rfl

end Sys2Proof.Machine

namespace Sys2Proof
open Sys2Proof.Machine

/-- Settles O53, by the edge before this one and the interval between them. -/
theorem fanSpeeds : Obligations.FanSpeeds := by
  intro m s outside r u watched measured edge answers
  have measured_eq (v : Nat) : r.measured s.now (s.stallWatched m) v = measured v :=
    Mover.measured_eq (s.stallWatched_iff m) r s.now v
  have taken {w : State} (effect : u.tachEffect m = w) : exec (.tachEdge m) s = .next w :=
    (execTachEdge_eq outside m).trans (congrArg _ effect)
  refine ⟨fun unbound => taken (State.tachEffect_unbound unbound), fun bound first => ?_,
    fun bound t last => ⟨fun later => ?_, fun sameTime => ?_⟩, fun runs => ?_⟩
  · exact taken (State.tachEffect_first bound first)
  · refine taken ((State.tachEffect_measured (s := u) bound last later).trans ?_)
    rw [← measured_eq]
    rfl
  · refine ⟨_, taken (State.tachEffect_unstated bound last sameTime), ?_, ?_⟩
    · simp only [State.putMover, State.spendFree, Fin.getElem_fin, Vector.getElem_set_self]
      rfl
    · simp only [State.putMover, State.spendFree, Fin.getElem_fin, Vector.getElem_set_self]
      have speed : (r.measured s.now (s.stallWatched m) (Config.freeSpeed s.free).toNat).speed =
          (Config.freeSpeed s.free).toNat := congrArg Mover.speed (measured_eq _)
      exact congrArg edge ((measured_eq _).trans (congrArg measured speed.symm))
  · refine (execEdgeTimerExpiry_eq outside runs).trans ?_
    rw [← measured_eq]
    rfl

/-- Settles O56: the loop's update and the two watches, each by its condition. -/
theorem pressureLoopAndFilter : Obligations.PressureLoopAndFilter := by
  intro status value s outside l c usable cpd err duty lost f loaded filter
  refine ⟨fun runs => ?_, ?_, fun runs => ?_, ?_, fun runs => ?_⟩
  · obtain ⟨due, timer⟩ := Option.isSome_iff_exists.mp runs
    have isUsable : s.pressureView.1 = .usable ↔ usable := ChannelState.status_usable_iff _
    refine show execLoopUpdate s = _ from (State.own_next s _ outside).trans (congrArg _ ?_)
    have timer : s.mov.loop.update = some due := timer
    simp only [timer]
    rw [Loop.step_eq l s.now c s.pressureView usable isUsable, Loop.judgeLost_eq _ s.now c s.pressureView usable isUsable,
      State.putLoop_formPress]
    rfl
  · refine show execCpdReport status value s = _ from (State.take_next s _ _ outside).trans (congrArg _ ?_)
    rw [Loop.judgeLost_eq _ _ _ _ (status = .usable) Iff.rfl]
    rfl
  · obtain ⟨due, timer⟩ := Option.isSome_iff_exists.mp runs
    refine show execPressureLostExpiry s = _ from (State.own_next s _ outside).trans (congrArg _ ?_)
    have timer : s.mov.loop.lost = some due := timer
    simp only [timer]
    rfl
  · refine show execFpdReport status value s = _ from (State.take_next s _ _ outside).trans (congrArg _ ?_)
    have loaded_iff : (decide (status = .usable) && decide ((c.filterLimit : Int) ≤ value)) = true ↔ loaded := by
      simp only [Bool.and_eq_true, decide_eq_true_eq, loaded]
    have taken : f.take s.now c.filterLimit status value = filter := by
      cases phase : f.phase <;> simp only [Filter.take, filter, phase, loaded_iff]
      · rfl
      · have spared : (!(decide (status = .usable) && decide ((c.filterLimit : Int) ≤ value))) = true ↔ ¬ loaded := by
          rw [Bool.not_eq_true', ← Bool.not_eq_true, loaded_iff]
        rw [if_congr (Bool.and_eq_true_iff.trans (and_congr_left' (Bool.and_eq_true_iff.trans (and_congr_left' spared))))
          rfl rfl]
        simp only [decide_eq_true_eq, and_assoc, and_left_comm]
    rw [← taken]
    rfl
  · obtain ⟨due, timer⟩ := Option.isSome_iff_exists.mp runs
    refine show execFilterTimerExpiry s = _ from (State.own_next s _ outside).trans (congrArg _ ?_)
    have timer : s.mov.filter.timer = some due := timer
    simp only [timer]
    rfl

end Sys2Proof

/-! Heat Sources (07) in the words of the rules: the judgements of valve, aux demand and releases said once, then the events
and requests. -/

namespace Sys2Proof.Machine

theorem inSec_eq (now : Time) (n : Nat) : inSec now n = now + 1000000 * n := by rw [inSec, Nat.mul_comm]

theorem Heu.coolantUsable_iff (h : Heu) : h.coolantUsable = true ↔ h.cltStatus = .usable := by simp [Heu.coolantUsable]

/-! ### The aux demand (R147) -/

theorem Heu.auxWanted_eq (h : Heu) (run : Bool) : h.auxWanted run = h.calls run := by
  rw [Bool.eq_iff_iff]
  simp only [Heu.auxWanted, Heu.calls, Bool.and_eq_true, decide_eq_true_eq, Bool.not_eq_true', h.coolantUsable_iff, and_assoc]

theorem Heu.prestart_eq (h : Heu) (now : Time) : h.prestart now = { h with heater := h.starting now } := by
  simp only [Heu.prestart, Heu.starting, inSec_eq]

theorem Heu.coolDown_eq (h : Heu) (now : Time) (restart : Bool) :
    h.coolDown now restart = { h with heater := h.cooling now restart } := by
  simp only [Heu.coolDown, Heu.cooling, inSec_eq]

/-- R147: a judgement of the aux demand, by the demand and then the heater's state. -/
theorem Heu.judgeAux_eq (h : Heu) (now : Time) (run : Bool) :
    h.judgeAux now run = { h with heater := h.auxJudged now run } := by
  unfold Heu.judgeAux Heu.auxJudged
  rw [Heu.auxWanted_eq]
  cases calls : h.calls run
  · simp
  · cases state : h.heater.state <;> simp [state, Heu.prestart_eq, Heu.starting]

theorem Heu.auxJudged_quiet {h : Heu} {run : Bool} (quiet : h.calls run = false) (now : Time) :
    h.auxJudged now run = { h.heater with auxDemand := false } := by
  simp [Heu.auxJudged, quiet]

/-! ### The releases (R149) -/

theorem Heu.judgeRelease_eq (h : Heu) (now : Time) :
    h.judgeRelease now = { h with heater := h.releaseJudged h.heater now } := by
  unfold Heu.judgeRelease Heu.releaseJudged
  by_cases running : h.heater.state = .running
  · simp only [running, if_true, startIfStopped_eq, inSec_eq, h.coolantUsable_iff]
  · simp only [running, if_false]

/-! ### The valve (R143, R144) -/

/-- What a judgement in RUN makes of the valve and its hold timer. -/
def Heu.valveJudged (h : Heu) (now : Time) : Bool × KeptTimer :=
  if h.valveOpen = false then
    if 0 < h.demand ∧ h.cltStatus = .usable ∧ (h.settings.coolantMin : Int) ≤ h.clt then (true, .stopped)
    else (false, h.valveHold)
  else if h.cltStatus = .usable ∧ h.clt < (h.settings.coolantMin : Int) - 50 then (false, .stopped)
  else if 0 < h.demand then (true, .stopped)
  else match h.valveHold with
    | .stopped => (true, .running (now + 1000000 * h.settings.valveHold))
    | .running due => (true, .running due)
    | .expired => if h.cltStatus = .usable then (false, .stopped) else (true, .expired)

theorem Heu.judgeValve_closed {h : Heu} (closed : h.valveOpen = false) (now : Time) :
    h.judgeValve now = { h with valveOpen := (h.valveJudged now).1, valveHold := (h.valveJudged now).2 } := by
  have wanted : h.valveWanted = true ↔ 0 < h.demand ∧ h.cltStatus = .usable ∧ (h.settings.coolantMin : Int) ≤ h.clt := by
    simp only [Heu.valveWanted, Bool.and_eq_true, decide_eq_true_eq, h.coolantUsable_iff, and_assoc]
  simp only [Heu.judgeValve, Heu.valveJudged, closed, Bool.false_eq_true, if_false, if_true, wanted]
  split
  · rfl
  · rw [← closed]

/-- R144: an OPEN valve that finds no demand. -/
theorem Heu.valveIdle_eq {h : Heu} (isOpen : h.valveOpen = true) (now : Time) :
    h.valveIdle now =
      match h.valveHold with
      | .stopped => { h with valveOpen := true, valveHold := .running (now + 1000000 * h.settings.valveHold) }
      | .running due => { h with valveOpen := true, valveHold := .running due }
      | .expired =>
        if h.cltStatus = .usable then { h with valveOpen := false, valveHold := .stopped }
        else { h with valveOpen := true, valveHold := .expired } := by
  cases hold : h.valveHold with
  | stopped => simp only [Heu.valveIdle, hold, inSec_eq, ← isOpen]
  | running due => simp only [Heu.valveIdle, hold, ← isOpen]; rw [← hold]
  | expired =>
    simp only [Heu.valveIdle, hold, h.coolantUsable_iff]
    split
    · rfl
    · rw [← isOpen, ← hold]

theorem Heu.judgeValve_open {h : Heu} (isOpen : h.valveOpen = true) (now : Time) :
    h.judgeValve now = { h with valveOpen := (h.valveJudged now).1, valveHold := (h.valveJudged now).2 } := by
  have low : h.coolantLow = true ↔ h.cltStatus = .usable ∧ h.clt < (h.settings.coolantMin : Int) - 50 := by
    simp only [Heu.coolantLow, Bool.and_eq_true, decide_eq_true_eq, h.coolantUsable_iff]
  have noDemand : h.demand = 0 ↔ ¬ 0 < h.demand := by omega
  simp only [Heu.judgeValve, Heu.valveJudged, isOpen, Bool.true_eq_false, if_false, if_true, low, noDemand, ite_not]
  split
  · rfl
  · split
    · rw [← isOpen]
    · rw [Heu.valveIdle_eq isOpen]
      cases h.valveHold with
      | stopped => rfl
      | running due => rfl
      | expired => dsimp only; split <;> rfl

theorem Heu.judgeValve_eq (h : Heu) (now : Time) :
    h.judgeValve now = { h with valveOpen := (h.valveJudged now).1, valveHold := (h.valveJudged now).2 } := by
  cases valve : h.valveOpen
  · exact Heu.judgeValve_closed valve now
  · exact Heu.judgeValve_open valve now

/-- R142: the judgements of one event, in order. -/
theorem Heu.judge_eq (h : Heu) (now : Time) (run : Bool) : h.judge now run = h.judged now run := by
  cases run with
  | false =>
    simp only [Heu.judge, Bool.false_eq_true, if_false, Heu.judgeAux_eq, Heu.judgeRelease_eq]
    rfl
  | true =>
    simp only [Heu.judge, if_true, Heu.judgeValve_eq, Heu.judgeAux_eq, Heu.judgeRelease_eq]
    rfl

theorem State.heuJudge_eq (s : State) : s.heuJudge = s.putHeu (s.heu.judged s.now (decide (s.part.state = .run))) := by
  rw [State.heuJudge, Heu.judge_eq]
  rfl

/-! ### The end of a cooldown (R150) -/

/-- The restart that a cooldown ends with is the aux demand at its end. -/
theorem Heu.cooldownEnd_eq {h : Heu} (cools : h.heater.state = .cooldown) (now : Time) (run : Bool) :
    h.cooldownEnd now run =
      let ended : Heater := { h.heater with auxDemand := h.calls run, cooldown := none, restart := false }
      if 2 ≤ h.heater.attempts then ({ h with heater := { ended with state := .locked } }, true)
      else if h.calls run then ({ h with heater := ({ h with heater := ended } : Heu).starting now }, false)
      else ({ h with heater := { ended with state := .off } }, false) := by
  unfold Heu.cooldownEnd
  rw [Heu.judgeAux_eq]
  cases calls : h.calls run
  · simp [Heu.auxJudged, calls]
  · simp [Heu.auxJudged, calls, cools, Heu.prestart_eq, Heu.starting]

/-! ### AUX_FLAME (R148, R149) -/

/-- A heater with its flame as taken. -/
def Heater.seen (r : Heater) (on : Bool) : Heater := { r with flame := on }

/-- R148: the flame proved. -/
theorem Heu.takeFlame_proof {h : Heu} (prestart : h.heater.state = .prestart) (now : Time) :
    h.takeFlame now true =
      ({ h with
        heater := h.releaseJudged { h.heater.seen true with state := .running, attempts := 0, ignition := none } now },
        false) := by
  have proved : h.takeFlame now true =
      (({ h with heater := { h.heater.seen true with state := .running, attempts := 0, ignition := none } } : Heu).judgeRelease
        now, false) := by
    obtain ⟨_, _, ⟨_, _, _, _, _, _, _, _, _, _⟩, _, _, _, _⟩ := h
    cases prestart
    rfl
  rw [proved, Heu.judgeRelease_eq]
  rfl

/-- R149: the flame lost. -/
theorem Heu.takeFlame_loss {h : Heu} (running : h.heater.state = .running) (now : Time) :
    h.takeFlame now false = ({ h with heater := (h.cooling now true).seen false }, true) := by
  obtain ⟨_, _, ⟨_, _, _, _, _, _, _, _, _, _⟩, _, _, _, _⟩ := h
  cases running
  exact Prod.ext (Heu.coolDown_eq _ now true) rfl

theorem Heu.takeFlame_seen {h : Heu} {on : Bool} (notProof : on = true → h.heater.state ≠ .prestart)
    (notLoss : on = false → h.heater.state ≠ .running) (now : Time) :
    h.takeFlame now on = ({ h with heater := h.heater.seen on }, false) := by
  obtain ⟨_, _, ⟨state, _, _, _, _, _, _, _, _, _⟩, _, _, _, _⟩ := h
  cases on with
  | true =>
    cases state with
    | prestart => exact absurd rfl (notProof rfl)
    | off => rfl
    | running => rfl
    | cooldown => rfl
    | locked => rfl
  | false =>
    cases state with
    | running => exact absurd rfl (notLoss rfl)
    | off => rfl
    | prestart => rfl
    | cooldown => rfl
    | locked => rfl

theorem State.flameEffect_eq (s : State) (on : Bool) :
    s.flameEffect on =
      if (s.heu.takeFlame s.now on).2 then (s.putHeu (s.heu.takeFlame s.now on).1).raise asHeater 512
      else s.putHeu (s.heu.takeFlame s.now on).1 := rfl

theorem State.putHeu_status (s : State) (h : Heu) (r : Req) (status : StatusCode) :
    (s.putHeu h).status r status = (s.status r status).putHeu h := rfl

/-! ### SET_HEAT, AUX_INHIBIT, AUX_CLEAR_LOCK -/

/-- R153: the ranges. A natural number needs no lower end at 0. -/
theorem HeatSettings.clamp_eq (c : HeatSettings) :
    c.clamp =
      ⟨max 300 (min 900 c.coolantMin), max 5 (min 600 c.valveHold), max 1 (min 100 c.auxStart), min 99 c.release,
        max 300 (min 1000 c.coolantTarget), max 10 (min 600 c.releaseHold), max 10 (min 300 c.ignition),
        max 30 (min 600 c.cooldown)⟩ := by
  simp only [HeatSettings.clamp, clampNat, Nat.zero_max]

theorem HeatSettings.refusable_iff (c : HeatSettings) :
    c.refusable = true ↔ c.auxStart ≤ c.release ∨ c.coolantTarget ≤ c.coolantMin := by
  simp only [HeatSettings.refusable, Bool.or_eq_true, decide_eq_true_eq]

section HeatRequests

variable {s : State} (outside : s.part.state ≠ .init)
include outside

theorem execSetHeat_eq (coolantMin valveHold : Half) (auxStart release : Byte)
    (coolantTarget releaseHold ignition cooldown : Half) :
    let set : Instr := .setHeat coolantMin valveHold auxStart release coolantTarget releaseHold ignition cooldown
    let sent := heatSettingsOf coolantMin valveHold auxStart release coolantTarget releaseHold ignition cooldown
    execSetHeat coolantMin valveHold auxStart release coolantTarget releaseHold ignition cooldown s =
      .next (if sent.clamp.refusable then s.replied set 0xC0#8 [19#8]
      else (s.replied set 0xC0#8 [if sent.clamp = sent then 0#8 else 1#8]).putHeu
        (({ s.heu with settings := sent.clamp } : Heu).judged s.now (decide (s.part.state = .run)))) := by
  simp only [execSetHeat, State.take_next _ _ _ outside, State.heuJudge_eq, State.putHeu_status, State.strike_status,
    clampStatus_code_ne]
  rfl

theorem execAuxInhibit_range {flag : Byte} (above : 1 < flag.toNat) :
    execAuxInhibit flag s = .next (s.replied (.auxInhibit flag) 0xC1#8 [19#8]) := by
  simp only [execAuxInhibit, State.take_next _ _ _ outside, above, if_true, State.strike_status]
  rfl

theorem execAuxInhibit_eq {flag : Byte} (inRange : flag.toNat ≤ 1) :
    execAuxInhibit flag s =
      .next (((s.strike (.auxInhibit flag)).changeInhibit (flag == 1#8)).status .auxInhibit .ok) := by
  simp only [execAuxInhibit, State.take_next _ _ _ outside, Nat.not_lt.mpr inRange, if_false]

theorem execAuxClearLock_eq :
    execAuxClearLock s =
      .next (if s.heu.heater.state = .locked then
        (s.replied .auxClearLock 0xC2#8 [0#8]).putHeu
          { s.heu with
            heater := ({ s.heu with heater := { s.heu.heater with state := .off, attempts := 0, restart := false } } : Heu).auxJudged
              s.now (decide (s.part.state = .run)) }
      else s.replied .auxClearLock 0xC2#8 [20#8]) := by
  simp only [execAuxClearLock, State.take_next _ _ _ outside, Heu.judgeAux_eq, State.putHeu_status, State.strike_status]
  rfl

end HeatRequests

/-- R152: with inhibit set the aux demand cannot hold. -/
theorem Heu.calls_inhibited {h : Heu} (inhibited : h.heater.inhibit = true) (run : Bool) : h.calls run = false := by
  simp [Heu.calls, inhibited]

theorem State.changeInhibit_same {s : State} {flag : Bool} (same : flag = s.heu.heater.inhibit) :
    s.changeInhibit flag = s := if_pos same

theorem Heu.setInhibit_inhibit (h : Heu) (now : Time) : (h.setInhibit now).heater.inhibit = true := by
  obtain ⟨_, _, ⟨state, _, _, _, _, _, _, _, _, _⟩, _, _, _, _⟩ := h
  cases state <;> rfl

theorem Heu.setInhibit_firing {h : Heu} (fires : h.heater.state = .prestart ∨ h.heater.state = .running) (now : Time) :
    h.setInhibit now = { h with heater := { h.cooling now false with inhibit := true } } := by
  obtain ⟨_, _, ⟨state, _, _, _, _, _, _, _, _, _⟩, _, _, _, _⟩ := h
  rcases fires with rfl | rfl
  · exact Heu.coolDown_eq _ now false
  · exact Heu.coolDown_eq _ now false

theorem Heu.setInhibit_cooling {h : Heu} (cools : h.heater.state = .cooldown) (now : Time) :
    h.setInhibit now = { h with heater := { h.heater with inhibit := true, restart := false } } := by
  obtain ⟨_, _, ⟨state, _, _, _, _, _, _, _, _, _⟩, _, _, _, _⟩ := h
  cases cools
  rfl

theorem Heu.setInhibit_idle {h : Heu} (idle : h.heater.state = .off ∨ h.heater.state = .locked) (now : Time) :
    h.setInhibit now = { h with heater := { h.heater with inhibit := true } } := by
  obtain ⟨_, _, ⟨state, _, _, _, _, _, _, _, _, _⟩, _, _, _, _⟩ := h
  rcases idle with rfl | rfl <;> rfl

theorem State.changeInhibit_set {s : State} (clear : s.heu.heater.inhibit = false) :
    s.changeInhibit true =
      s.putHeu { s.heu.setInhibit s.now with heater := { (s.heu.setInhibit s.now).heater with auxDemand := false } } := by
  have quiet := Heu.calls_inhibited (s.heu.setInhibit_inhibit s.now) s.inRun
  simp only [State.changeInhibit, clear, Bool.true_eq_false, if_false, if_true, Heu.judgeAux_eq, Heu.auxJudged_quiet quiet]

theorem State.changeInhibit_clear {s : State} (set : s.heu.heater.inhibit = true) :
    s.changeInhibit false =
      s.putHeu { s.heu with
        heater := ({ s.heu with heater := { s.heu.heater with inhibit := false } } : Heu).auxJudged s.now s.inRun } := by
  simp only [State.changeInhibit, set, Bool.false_eq_true, if_false, Heu.judgeAux_eq]

end Sys2Proof.Machine

namespace Sys2Proof
open Sys2Proof.Machine

/-- Settles O57: both events record first, and one judgement follows. -/
theorem heatInputs : Obligations.HeatInputs := by
  intro percent status value s outside run
  refine ⟨(State.take_next s _ _ outside : execHeatDemandChange percent s = _).trans (congrArg _ ?_),
    (State.take_next s _ _ outside : execCltReport status value s = _).trans (congrArg _ ?_)⟩
  · rw [State.heuJudge_eq]; rfl
  · rw [State.heuJudge_eq]; rfl

/-- Settles O58: the flame by the heater's state, and each expiry. -/
theorem heaterEvents : Obligations.HeaterEvents := by
  intro b s outside h r lit u run becomes told
  have flame : exec (.auxFlameChange b) s = .next (u.flameEffect b) :=
    show execAuxFlameChange b s = _ from State.take_next s _ _ outside
  refine ⟨fun on prestart => ?_, fun off running => ?_, fun notProof notLoss => ?_, fun runs => ?_, fun runs => ?_,
    fun runs => ?_, fun runs cools => ?_, fun runs => ?_⟩
  · subst on
    refine flame.trans (congrArg _ ((u.flameEffect_eq true).trans ?_))
    rw [show u.heu.takeFlame u.now true = _ from Heu.takeFlame_proof prestart s.now]
    rfl
  · subst off
    refine flame.trans (congrArg _ ((u.flameEffect_eq false).trans ?_))
    rw [show u.heu.takeFlame u.now false = _ from Heu.takeFlame_loss running s.now]
    rfl
  · refine flame.trans (congrArg _ ((u.flameEffect_eq b).trans ?_))
    rw [show u.heu.takeFlame u.now b = _ from Heu.takeFlame_seen notProof notLoss s.now]
    rfl
  · obtain ⟨due, timer⟩ := Option.isSome_iff_exists.mp runs
    refine (State.own_next s _ outside : execIgnitionTimerExpiry s = _).trans (congrArg _ ?_)
    simp only [show s.heu.heater.ignition = some due from timer, Heu.coolDown_eq]
    rfl
  · obtain ⟨due, timer⟩ := Option.isSome_iff_exists.mp runs
    refine (State.own_next s _ outside : execCoolantReleaseExpiry s = _).trans (congrArg _ ?_)
    simp only [show s.heu.heater.coolantRelease = some due from timer, Heu.coolDown_eq]
    rfl
  · obtain ⟨due, timer⟩ := Option.isSome_iff_exists.mp runs
    refine (State.own_next s _ outside : execDemandReleaseExpiry s = _).trans (congrArg _ ?_)
    simp only [show s.heu.heater.demandRelease = some due from timer, Heu.coolDown_eq]
    rfl
  · obtain ⟨due, timer⟩ := Option.isSome_iff_exists.mp runs
    intro ended
    have ends : exec .cooldownTimerExpiry s =
        .next (if (h.cooldownEnd s.now run).2 then (s.putHeu (h.cooldownEnd s.now run).1).raise asHeater 768
          else s.putHeu (h.cooldownEnd s.now run).1) := by
      refine (State.own_next s _ outside : execCooldownTimerExpiry s = _).trans (congrArg _ ?_)
      simp only [show s.heu.heater.cooldown = some due from timer]
      rfl
    have byCase := Heu.cooldownEnd_eq cools s.now run
    refine ⟨fun spent => ?_, fun left calls => ?_, fun left quiet => ?_⟩
    · rw [ends, byCase.trans (if_pos spent)]
      rfl
    · rw [ends, byCase.trans ((if_neg (Nat.not_le.mpr left)).trans (if_pos calls))]
      rfl
    · rw [ends, byCase.trans ((if_neg (Nat.not_le.mpr left)).trans (if_neg (Bool.eq_false_iff.mp quiet)))]
      rfl
  · refine (State.own_next s _ outside : execValveHoldTimerExpiry s = _).trans (congrArg _ ?_)
    cases hold : s.heu.valveHold with
    | stopped => rw [show h.valveHold = .stopped from hold] at runs; cases runs
    | expired => rw [show h.valveHold = .expired from hold] at runs; cases runs
    | running due => simp only [s.heu.coolantUsable_iff]; rfl

/-- Settles O59: the settings clamped and judged, inhibit by the heater's state, and the lock cleared. -/
theorem heatRequests : Obligations.HeatRequests := by
  intro auxStart release flag coolantMin valveHold coolantTarget releaseHold ignition cooldown s outside h r run set settings
    sent refused inhibit ok
  have clamped : sent.clamp = settings := HeatSettings.clamp_eq sent
  have refused_iff : sent.clamp.refusable = true ↔ refused := by rw [clamped]; exact HeatSettings.refusable_iff settings
  have answers := execSetHeat_eq outside coolantMin valveHold auxStart release coolantTarget releaseHold ignition cooldown
  have changes (inRange : flag.toNat ≤ 1) := execAuxInhibit_eq outside inRange
  refine ⟨fun bad => answers.trans (congrArg _ (if_pos (refused_iff.mpr bad))),
    fun fine => answers.trans (congrArg _ ((if_neg (mt refused_iff.mp fine)).trans ?_)),
    execAuxInhibit_range outside, fun inRange same => ?_, fun on clear => ?_, fun off set => ?_, fun locked => ?_,
    fun other => ?_⟩
  · show ((s.replied set 0xC0#8 [if sent.clamp = sent then 0#8 else 1#8]).putHeu
      (({ s.heu with settings := sent.clamp } : Heu).judged s.now (decide (s.part.state = .run)))) = _
    rw [clamped]
    rfl
  · refine (changes inRange).trans (congrArg _ ?_)
    have same : (flag == 1#8) = r.inhibit := same.symm
    rw [State.changeInhibit_same (s := s.strike inhibit) same, State.strike_status]
    rfl
  · have set := (changes (by rw [on]; decide)).trans (congrArg (fun v => Host.Outcome.next (State.status v .auxInhibit .ok))
      ((congrArg _ (by rw [on]; rfl)).trans (State.changeInhibit_set (s := s.strike inhibit) clear)))
    rw [State.putHeu_status, State.strike_status] at set
    have becomes {r' : Heater} (heater : { h.setInhibit s.now with
        heater := { (h.setInhibit s.now).heater with auxDemand := false } } = { h with heater := r' }) :
        exec inhibit s = .next (ok inhibit 0xC1#8 r') := by
      refine (show execAuxInhibit flag s = _ from set).trans (congrArg _ ?_)
      exact congrArg (State.putHeu _) heater
    refine ⟨fun fires => becomes ?_, fun cools => becomes ?_, fun idle => becomes ?_⟩
    · rw [Heu.setInhibit_firing fires]
    · rw [Heu.setInhibit_cooling cools]
    · rw [Heu.setInhibit_idle idle]
  · refine (changes (by rw [off]; decide)).trans (congrArg _ ?_)
    have flagged : (flag == 1#8) = false := by rw [off]; rfl
    rw [flagged, State.changeInhibit_clear (s := s.strike inhibit) set, State.putHeu_status, State.strike_status]
    rfl
  · exact (execAuxClearLock_eq outside).trans (congrArg _ (if_pos locked))
  · exact (execAuxClearLock_eq outside).trans (congrArg _ (if_neg other))

end Sys2Proof

/-! The reads (11, Reply layouts): the model's bytes of each record are the bytes of its layout. -/

namespace Sys2Proof.Machine

/-! ### Fields -/

theorem twoBytes_nat (n : Nat) : twoBytes n = halfBytes n := by
  rw [twoBytes_eq_lo_hi, halfOfInt_natCast]
  rfl

theorem twoBytes_int (n : Int) : twoBytes n = halfBytesInt n := twoBytes_eq_lo_hi n

theorem byteOr255_eq (n : Option Nat) : byteOr255 n = byteOrNone n := by
  cases n <;> rfl

theorem tenths_eq (t : Time) : tenths t = (t + 50000) / 100000 := by
  rw [tenths, rha_natCast, Int.toNat_natCast]

/-- Assumption 11: R1's rounding of a time is rounding half up. -/
theorem tenthsOf_eq (t : Time) : tenthsOf t = (tenths t : Nat) := by
  rw [tenths_eq, tenthsOf]

theorem length_flatMap_const {α β : Type} {f : α → List β} {n : Nat} {l : List α} (each : ∀ a ∈ l, (f a).length = n) :
    (l.flatMap f).length = l.length * n := by
  rw [List.length_flatMap, List.map_congr_left each]
  simp

@[simp] theorem halfBytes_length (n : Nat) : (halfBytes n).length = 2 := rfl

@[simp] theorem halfBytesInt_length (n : Int) : (halfBytesInt n).length = 2 := rfl

/-- A read answers with the bytes of its record. -/
theorem State.take_answer {s : State} (outside : s.part.state ≠ .init) (c : Instr) (r : Req) {effect : State → State}
    {data : List Byte} (answers : effect (s.strike c) = (s.strike c).answer r .ok data) :
    s.take c effect = .next (s.replied c (r.code + 0x80#8) (0#8 :: data)) := by
  rw [State.take_next s c effect outside, answers, State.strike_answer]
  rfl

/-! ### Channels, assessors, movers -/

/-- One channel of READ_CHANNELS in the words of its layout. -/
def Channel.reply (c : Channel) : List Byte :=
  (match c.state with
    | .absent => 0#8 | .warming => 1#8 | .valid => 2#8 | .held => 3#8 | .failed => 4#8 | .forced => 5#8) :: twoBytes c.value

theorem Channel.reply_eq (c : Channel) : c.reply = byteOf c.state.code :: halfBytesInt c.value := by
  rw [Channel.reply, twoBytes_int]
  cases c.state <;> rfl

/-- One assessor of READ_ASSESS in the words of its layout. -/
def Assessor.reply (a : Assessor) : List Byte :=
  [flagByte a.active, flagByte a.initialised,
    match a.level with | .clear => 0#8 | .elevated => 1#8 | .high => 2#8 | .unknown => 3#8] ++
    twoBytes a.f ++ twoBytes a.b ++ twoBytes a.s ++ [oneByte a.up, oneByte a.down, oneByte a.interval]

theorem Assessor.reply_eq (a : Assessor) : a.reply = a.bytes := by
  rw [Assessor.reply, twoBytes_nat, twoBytes_nat, twoBytes_nat]
  cases level : a.level <;> simp only [Assessor.bytes, level] <;> rfl

theorem Mov.reply_eq (r : Mov) :
    r.reply =
      r.movers.toList.flatMap Mover.bytes ++ [byteOf r.loop.phase.code, byteOf r.loop.duty] ++
        halfBytesInt r.loop.lastError ++ [byteOfBool r.loop.lostFlag, byteOf r.filter.phase.code] := by
  have phase : (match r.loop.phase with | .inactive => 0#8 | .running => 1#8 | .holding => 2#8 : Byte) =
      byteOf r.loop.phase.code := by cases r.loop.phase <;> rfl
  have filter : (match r.filter.phase with | .armed => 0#8 | .timing => 1#8 | .raised => 2#8 : Byte) =
      byteOf r.filter.phase.code := by cases r.filter.phase <;> rfl
  have mover : (fun m : Mover =>
      [match m.state with | .off => 0#8 | .running => 1#8 | .stalled => 2#8 | .failed => 3#8, oneByte m.demand,
        oneByte m.duty] ++ twoBytes m.speed ++ [oneByte m.retry, flagByte m.stall.isSome]) = Mover.bytes := by
    funext m
    rw [twoBytes_nat]
    cases state : m.state <;> simp only [Mover.bytes, state] <;> rfl
  rw [← phase, ← filter, ← mover, ← twoBytes_int]
  rfl

/-! ### Zones and heat -/

theorem Zon.reply_eq (r : Zon) :
    r.reply =
      r.zones.toList.flatMap Zone.bytes ++
        [byteOf r.out.fresh, byteOfBool r.out.breathing, byteOf r.out.front, byteOf r.out.rear, byteOf r.out.heat,
          byteOfBool r.defrost, byteOrNone r.orderedDefrost] := by
  have zone : (fun z : Zone =>
      [oneByte ((if z.enabled then 1 else 0) + 2 * (match z.mode with | .off => 0 | .active => 1 | .hold => 2) +
        (if z.breathing then 8 else 0))] ++ twoBytes z.setpoint ++ [oneByte z.occupancy] ++ twoBytes z.error ++
        [BitVec.ofInt 8 z.integral, BitVec.ofInt 8 z.demand, oneByte z.blend, byteOr255 z.ordered, oneByte z.fresh,
          oneByte z.blower]) = Zone.bytes := by
    funext z
    rw [twoBytes_nat, twoBytes_int, byteOr255_eq]
    cases mode : z.mode <;> simp only [Zone.bytes, mode] <;> rfl
  rw [← zone, ← byteOr255_eq]
  rfl

theorem Heu.offersHeat_eq (h : Heu) : h.offersHeat = h.heatAvailable := by
  rw [Bool.eq_iff_iff]
  simp only [Heu.offersHeat, Heu.heatAvailable, Heu.coolantUsable, Bool.and_eq_true, decide_eq_true_eq, and_assoc]

theorem timeLeft_eq (now : Time) (t : Option Time) :
    twoBytes (tenthsOf (match t with | none => 0 | some due => due - now)) = halfBytes (tenths (timeLeft now t)) := by
  rw [tenthsOf_eq, twoBytes_nat]
  cases t <;> rfl

theorem Heu.reply_eq (h : Heu) (now : Time) : h.reply now = h.bytes now := by
  have status : (match h.cltStatus with | .usable => 0#8 | .held => 1#8 | .failed => 2#8 | .absent => 3#8 : Byte) =
      byteOf h.cltStatus.code := by cases h.cltStatus <;> rfl
  have state : (match h.heater.state with
      | .off => 0#8 | .prestart => 1#8 | .running => 2#8 | .cooldown => 3#8 | .locked => 4#8 : Byte) =
      byteOf h.heater.state.code := by cases h.heater.state <;> rfl
  have shown : timeLeft now (if h.heater.state = .prestart then h.heater.ignition
      else if h.heater.state = .cooldown then h.heater.cooldown else none) = h.heater.shownTimer now := by
    cases state : h.heater.state <;> simp [Heater.shownTimer, state, timeLeft]
  have hold : timeLeft now (match h.valveHold with | .running due => some due | .stopped => none | .expired => none) =
      h.valveHold.left now := by cases h.valveHold <;> rfl
  rw [Heu.bytes, ← shown, ← hold, ← status, ← state, ← Heu.offersHeat_eq, ← twoBytes_int]
  simp only [← timeLeft_eq]
  rfl

/-! ### Dampers and the queue -/

theorem toPercent_eq (span n : Nat) : (200 * n + span) / (2 * span) = toPercent span n := by
  rw [toPercent, Nat.mul_comm 200 n]

theorem Ddr.queueReply_eq (r : Ddr) : r.queueReply = byteOf r.queue.length :: r.queue.flatMap r.orderBytes := by
  have order : ∀ o : QueuedOrder,
      ([oneByte o.damper.val,
        byteOr255 ((match o.goal with | .move t => (some t, 0#8) | .home p => (p, 1#8) : Option Nat × Byte).1.map fun n =>
          (200 * n + r.dampers[o.damper].settings.span) / (2 * r.dampers[o.damper].settings.span)),
        (match o.goal with | .move t => (some t, 0#8) | .home p => (p, 1#8) : Option Nat × Byte).2,
        flagByte (decide (o.cls = .safety)),
        match o.source with | .adm => 0#8 | .zon => 1#8 | .link => 2#8 | .start => 3#8] : List Byte) = r.orderBytes o := by
    intro o
    simp only [toPercent_eq, byteOr255_eq]
    cases goal : o.goal <;> cases source : o.source <;> cases cls : o.cls <;>
      simp only [Ddr.orderBytes, goal, source, cls] <;> rfl
  have orders := funext order
  rw [← orders]
  rfl

theorem Ddr.shownTarget_eq (r : Ddr) (d : DamperIx) :
    r.shownTarget d =
      match r.dampers[d].state with
      | .homing => r.dampers[d].pending
      | .waiting => match r.queuedOrder d with
        | some o => (match o.goal with | .move t => some t | .home p => p)
        | none => r.dampers[d].target
      | _ => r.dampers[d].target := by
  dsimp only [Ddr.shownTarget]
  generalize r.dampers[d] = c
  cases c.state <;>
    cases r.queuedOrder d with
    | none => rfl
    | some o => cases o.goal <;> rfl

/-- One damper of READ_DAMPERS in the words of its layout. -/
def Ddr.damperReply (r : Ddr) (d : DamperIx) : List Byte :=
  [oneByte ((match r.dampers[d].state with
      | .absent => 0 | .unhomed => 1 | .idle => 2 | .waiting => 3 | .homing => 4 | .moving => 5 | .settling => 6
      | .jammed => 7) +
      8 * (match r.dampers[d].last with | .none => 0 | .done => 1 | .jammed => 2 | .refused => 3 | .superseded => 4)),
    byteOr255 (r.dampers[d].lane.map fun l => l.val),
    byteOr255 (r.dampers[d].position.map fun n =>
      (200 * n + r.dampers[d].settings.span) / (2 * r.dampers[d].settings.span)),
    byteOr255 ((match r.dampers[d].state with
      | .homing => r.dampers[d].pending
      | .waiting => match r.queuedOrder d with
        | some o => (match o.goal with | .move t => some t | .home p => p)
        | none => r.dampers[d].target
      | _ => r.dampers[d].target).map fun n =>
      (200 * n + r.dampers[d].settings.span) / (2 * r.dampers[d].settings.span))] ++ twoBytes r.dampers[d].slip

theorem Ddr.damperReply_eq (r : Ddr) (d : DamperIx) : r.damperReply d = r.damperBytes d := by
  have bound := d.isLt
  have state : (match r.dampers[d].state with
      | .absent => 0 | .unhomed => 1 | .idle => 2 | .waiting => 3 | .homing => 4 | .moving => 5 | .settling => 6
      | .jammed => 7) = r.dampers[d].state.code := by cases r.dampers[d].state <;> rfl
  have last : (match r.dampers[d].last with
      | .none => 0 | .done => 1 | .jammed => 2 | .refused => 3 | .superseded => 4) = r.dampers[d].last.code := by
    cases r.dampers[d].last <;> rfl
  simp only [Ddr.damperBytes]
  rw [Ddr.shownTarget_eq, ← state, ← last, ← twoBytes_nat]
  simp only [Ddr.damperReply, toPercent_eq, byteOr255_eq]
  rfl

/-- One lane of READ_DAMPERS in the words of its layout. -/
def Lane.reply (r : Lane) : List Byte :=
  [oneByte (match r.state with | .absent => 0 | .free => 1 | .busy => 2 | .out => 3 | .lockedOut => 4),
    byteOr255 (r.holder.map fun d => d.val), oneByte r.history.length]

theorem Lane.reply_eq (r : Lane) : r.reply = r.bytes := by
  rw [Lane.reply, byteOr255_eq]
  cases state : r.state <;> simp only [Lane.bytes, state] <;> rfl

theorem Ddr.reply_eq (r : Ddr) :
    r.reply = allDampers.flatMap r.damperBytes ++ r.lanes.toList.flatMap Lane.bytes := by
  rw [← funext r.damperReply_eq, ← funext Lane.reply_eq]
  rfl

/-! ### Admission -/

theorem AdmState.code_eq (st : AdmState) :
    (match st with | .inactive => 0 | .opened => 1 | .limit => 2 | .scrub => 3 | .seal => 4) = st.code := by
  cases st <;> rfl

/-- The minutes-long breach of READ_ADMISSION, capped at its field. -/
theorem elapsed_eq (now : Time) (breach : Option Time) :
    twoBytes (match breach with | none => 0 | some since => min 65535 (tenthsOf (now - since))) =
      halfBytes (match breach with | none => 0 | some since => min 65535 (tenths (now - since))) := by
  cases breach with
  | none => exact twoBytes_nat 0
  | some since =>
    dsimp only
    rw [tenthsOf_eq, ← twoBytes_nat, Nat.cast_min]
    rfl

/-- The purge fields of READ_ADMISSION in the words of its layout. -/
def purgeReply (now : Time) (purge : Option Purge) : List Byte :=
  match purge with
  | none => [0#8, 0#8, 0#8, 0#8, 0#8]
  | some p =>
    let frozen : Bool × Time := match p.clock with | .frozen left => (true, left) | .running due => (false, due - now)
    let route : Nat := match p.route with | .fresh => 1 | .scrubbed => 2 | .recirc => 3
    [1#8, flagByte frozen.1, oneByte route] ++ twoBytes (tenthsOf frozen.2)

theorem purgeReply_eq (now : Time) (purge : Option Purge) : purgeReply now purge = purgeBytes now purge := by
  cases purge with
  | none => rfl
  | some p =>
    obtain ⟨clock, route⟩ := p
    cases clock <;> cases route <;> simp only [purgeReply, purgeBytes, tenthsOf_eq, twoBytes_nat] <;> rfl

theorem intakeBy_eq (coi pmi : Level) : intakeBy coi pmi = intakeOf coi pmi := rfl

/-- The open doors of READ_ADMISSION, one flag each. -/
theorem doorFlags_eq (doors : Vector Bool 4) :
    doorFlags doors = (if doors[0] then 1 else 0) + (if doors[1] then 2 else 0) + (if doors[2] then 4 else 0) +
      (if doors[3] then 8 else 0) := rfl

theorem Directive.code_eq (x : Directive) : (match x with | .auto => 0 | .seal => 1 | .vent => 2) = x.code := by
  cases x <;> rfl

theorem Intake.code_eq (x : Intake) :
    (match x with | .clear => 0 | .elevated => 1 | .unknown => 2 | .pmHigh => 3 | .coHigh => 4) = x.code := by
  cases x <;> rfl

theorem cabCode_eq (x : Level) : (match x with | .clear => 0 | .elevated => 1 | .high => 2 | .unknown => 3) = cabCode x := by
  cases x <;> rfl

/-- R70: a record in RUN, as READ_ADMISSION shows it. -/
theorem State.admissionReply_run {s : State} (run : s.part.state = .run) : s.admissionReply = s.adm.bytes s.now := by
  simp only [Adm.bytes, ← timeLeft_eq, ← purgeReply_eq, ← Directive.code_eq, ← Intake.code_eq, ← cabCode_eq,
    ← AdmState.code_eq, ← byteOr255_eq]
  simp only [State.admissionReply, run, decide_true, if_true, List.append_assoc, List.cons_append, List.nil_append]
  iterate 7 refine congrArg₂ List.cons rfl ?_
  exact congrArg₂ _ rfl (congrArg₂ _ rfl (congrArg₂ _ (elapsed_eq _ _) rfl))

/-- R70: with nothing of admission active, its timed fields are 0 and its targets none. -/
theorem Adm.bytes_of_rest {a : Adm} (rest : a.RestLaw) (now : Time) :
    a.bytes now =
      [0#8, 1#8, 0#8, byteOf a.intake.code, byteOf (cabCode a.cab), byteOfBool a.sealLine, byteOf (doorFlags a.doors)] ++
        (List.replicate 12 0#8 ++ [255#8, 255#8, 255#8, byteOf a.fresh, byteOf a.minFresh]) := by
  obtain ⟨accepted, demanded, directive, hold, breach, purge, cabCo, breathing, sealImpaired, check, ordered⟩ := rest
  have zero : halfBytes (tenths 0) = [0#8, 0#8] := by decide
  simp only [Adm.bytes, accepted, demanded, directive, hold, breach, purge, cabCo, breathing, sealImpaired, check, ordered,
    timeLeft, zero, Vector.getElem_replicate]
  rfl

theorem State.shownAdm_rest {s : State} (run : s.part.state ≠ .run) :
    s.shownAdm =
      { s.adm.leave with
        intake := intakeOf s.asr[0].level s.asr[1].level, cab := s.asr[2].level
        sealLine := s.inputAsserted .sealReq, doors := tableOf 4 fun d => s.inputAsserted (.door d)
        fresh := 0, minFresh := minFreshOf (s.channelStatus 0) (s.channel 0).value } :=
  if_neg (mt s.inRun_iff.mp run)

/-- R70: outside RUN the conditions, the lines and the minimum fresh are shown as they stand. -/
theorem State.admissionReply_rest {s : State} (run : s.part.state ≠ .run) :
    s.admissionReply = s.shownAdm.bytes s.now := by
  have rest : s.shownAdm.RestLaw := by
    rw [State.shownAdm_rest run]
    exact ⟨rfl, rfl, rfl, rfl, rfl, rfl, rfl, rfl, rfl, rfl, rfl⟩
  have usable : s.channelStatus 0 = .usable ↔ s.sns.channels[0].isUsable = true := by
    rw [Channel.isUsable, decide_eq_true_eq]
    exact ChannelState.status_usable_iff _
  have minFresh : minFreshOf (s.channelStatus 0) (s.channel 0).value =
      if s.sns.channels[0].isUsable = true ∧ s.sns.channels[0].value < -100 then 5 else 10 :=
    if_congr (and_congr_left' usable) rfl rfl
  rw [Adm.bytes_of_rest rest, State.shownAdm_rest run, minFresh, ← Intake.code_eq, ← cabCode_eq]
  simp only [State.admissionReply, run, decide_false, Bool.false_eq_true, if_false]
  rfl

theorem State.admissionReply_eq (s : State) : s.admissionReply = s.shownAdm.bytes s.now := by
  by_cases run : s.part.state = .run
  · have shown : s.shownAdm = s.adm := if_pos (s.inRun_iff.mpr run)
    rw [State.admissionReply_run run, shown]
  · exact State.admissionReply_rest run

theorem purgeBytes_length (now : Time) (purge : Option Purge) : (purgeBytes now purge).length = 5 := by
  cases purge <;> rfl

theorem Adm.bytes_length (a : Adm) (now : Time) : (a.bytes now).length = 24 := by
  simp only [Adm.bytes, List.length_append, purgeBytes_length, halfBytes_length, List.length_cons, List.length_nil]

/-! ### Terminals (R166) -/

theorem State.terminalBytes_eq (s : State) (t : TerminalIx) (bit : Bool) :
    s.terminalBytes t bit = s.trm.entries[t].reply t.val (s.pinLevel t bit) := by
  have bound := t.isLt
  simp only [State.terminalBytes, Terminal.reply, State.terminal]
  cases s.trm.entries[t].debounce <;> cases s.trm.entries[t].func <;> rfl

/-- The entries shown stand one after another, four bytes each, each with a level for a pin that has none stated. -/
theorem State.bindingBytes_entry (ts : List TerminalIx) (s : State) :
    (s.bindingBytes ts).length = 4 * ts.length ∧
      ∀ (k : Nat) (lt : k < ts.length), ∃ bit : Bool,
        ((s.bindingBytes ts).drop (4 * k)).take 4 = s.terminalBytes ts[k] bit := by
  induction ts generalizing s with
  | nil => exact ⟨rfl, nofun⟩
  | cons t ts ih =>
    obtain ⟨length, entry⟩ := ih (s.spendFree (if s.pinUnstated t then 1 else 0))
    refine ⟨?_, fun k lt => ?_⟩
    · rw [State.bindingBytes, List.length_append, length, List.length_cons]
      show 4 + _ = _
      omega
    · cases k with
      | zero => exact ⟨Config.freeLevel s.free, List.take_left' rfl⟩
      | succ k =>
        obtain ⟨bit, shown⟩ := entry k (Nat.lt_of_succ_lt_succ lt)
        refine ⟨bit, ?_⟩
        have skip : 4 * (k + 1) = (s.terminalBytes t (Config.freeLevel s.free)).length + 4 * k := by
          show _ = 4 + _
          omega
        rw [State.bindingBytes, skip, List.drop_length_add_append]
        exact shown

theorem shownTerminals_length (first : TerminalIx) : (shownTerminals first).length = min 8 (48 - first.val) := by
  simp [shownTerminals]

theorem shownTerminals_getElem (first : TerminalIx) (k : Nat) (lt : k < (shownTerminals first).length) :
    (shownTerminals first)[k].val = first.val + k := by
  simp [shownTerminals]

theorem execReadBinding_range {s : State} (outside : s.part.state ≠ .init) {first : Byte} (above : 47 < first.toNat) :
    execReadBinding first s = .next (s.replied (.readBinding first) 0x8A#8 [19#8]) := by
  simp only [execReadBinding, State.take_next _ _ _ outside, indexOf_none 48 first above, State.strike_status]
  rfl

theorem execReadBinding_eq {s : State} (outside : s.part.state ≠ .init) {first : Byte} (t : TerminalIx)
    (named : indexOf 48 first = some t) :
    execReadBinding first s =
      .next ((s.replied (.readBinding first) 0x8A#8
        (0#8 :: byteOf (shownTerminals t).length ::
          (s.strike (.readBinding first)).bindingBytes (shownTerminals t))).spendFree
            ((shownTerminals t).countP fun u => (s.strike (.readBinding first)).pinUnstated u)) := by
  simp only [execReadBinding, State.take_next _ _ _ outside, named, State.strike_answer]
  rfl

end Sys2Proof.Machine

namespace Sys2Proof
open Sys2Proof.Machine

/-- Settles O21: each layout is the model's bytes of the record. -/
theorem readsAnswer : Obligations.ReadsAnswer := by
  intro first s outside level channel assessor shows binding count
  have channels : (fun c : Channel => byteOf c.state.code :: halfBytesInt c.value) = channel :=
    (funext Channel.reply_eq).symm
  have assessors : Assessor.bytes = assessor := (funext Assessor.reply_eq).symm
  have drive : s.ddr.reply = _ := s.ddr.reply_eq
  refine ⟨⟨?_, ?_⟩, ⟨?_, ?_⟩, ⟨?_, ?_⟩, ⟨?_, ?_⟩, ⟨?_, ?_⟩, ⟨?_, ?_⟩, ⟨?_, ?_⟩, ⟨?_, ?_⟩, execReadBinding_range outside,
    fun inRange => ?_⟩
  · rw [← channels]
    exact (State.take_answer outside _ .readChannels rfl : execReadChannels s = _)
  · exact (length_flatMap_const (n := 3) fun _ _ => rfl).trans (by rw [Vector.length_toList])
  · rw [← assessors]
    exact (State.take_answer outside _ .readAssess rfl : execReadAssess s = _)
  · exact (length_flatMap_const (n := 12) fun _ _ => rfl).trans (by rw [Vector.length_toList])
  · rw [State.admissionReply_eq]
    exact (State.take_answer outside _ .readAdmission rfl : execReadAdmission s = _)
  · rw [State.admissionReply_eq, Adm.bytes_length]
  · rw [Zon.reply_eq]
    exact (State.take_answer outside _ .readZones rfl : execReadZones s = _)
  · rw [Zon.reply_eq, List.length_append, length_flatMap_const (n := 12) fun _ _ => rfl, Vector.length_toList]
    rfl
  · rw [Ddr.reply_eq]
    exact (State.take_answer outside _ .readDampers rfl : execReadDampers s = _)
  · rw [Ddr.reply_eq, List.length_append, length_flatMap_const (n := 6) fun _ _ => rfl,
      length_flatMap_const (n := 3) fun _ _ => rfl, Vector.length_toList]
    rfl
  · rw [Ddr.queueReply_eq]
    exact (State.take_answer outside _ .readQueue rfl : execReadQueue s = _)
  · rw [Ddr.queueReply_eq, List.length_cons, length_flatMap_const (n := 5) fun _ _ => rfl]
    omega
  · rw [Mov.reply_eq]
    exact (State.take_answer outside _ .readMovers rfl : execReadMovers s = _)
  · rw [Mov.reply_eq, List.append_assoc, List.append_assoc, List.length_append,
      length_flatMap_const (n := 7) fun _ _ => rfl, Vector.length_toList]
    rfl
  · rw [Heu.reply_eq]
    exact (State.take_answer outside _ .readHeat rfl : execReadHeat s = _)
  · rw [Heu.reply_eq]
    rfl
  · let t : TerminalIx := ⟨first.toNat, by omega⟩
    have named : indexOf 48 first = some t := dif_pos t.isLt
    obtain ⟨length, entry⟩ := State.bindingBytes_entry (shownTerminals t) (s.strike binding)
    have shown : (shownTerminals t).length = count := shownTerminals_length t
    refine ⟨_, execReadBinding_eq outside t named, _, rfl, rfl, ?_, ?_, fun i from_ below => ?_⟩
    · rw [shown]
      rfl
    · rw [List.length_cons, List.length_cons, length, shown]
      omega
    · have lt : i.val - first.toNat < (shownTerminals t).length := by omega
      obtain ⟨bit, bytes⟩ := entry _ lt
      have place : (shownTerminals t)[i.val - first.toNat] = i := Fin.ext (by
        rw [shownTerminals_getElem]
        show first.toNat + (i.val - first.toNat) = i.val
        omega)
      refine ⟨bit, ?_⟩
      rw [place, State.terminalBytes_eq] at bytes
      rw [Nat.add_comm 2]
      exact bytes

end Sys2Proof

/-! The levels of the output functions and the drives of the pins (08, 09, 11). -/

namespace Sys2Proof.Machine

/-! ### Which functions drive a pin -/

theorem Func.isOutput_iff_code (f : Func) : f.isOutput = true ↔ 35 ≤ f.code := by
  cases f <;> simp [Func.isOutput, Func.code] <;> omega

theorem Func.isOutput_iff_cls (f : Func) : f.isOutput = true ↔ 3 ≤ f.cls := by
  rw [f.isOutput_iff_code, Func.cls]
  split_ifs <;> omega

theorem Line.ofBool_eq (b : Bool) : Line.ofBool b = if b then .asserted else .negated := rfl

/-! ### The lines of a lane (R94) -/

section LaneLines

variable {s : State} (law : s.DriveLaw)

theorem Ddr.holderOf_some {r : Ddr} {l : LaneIx} {d : DamperIx} (holder : r.lanes[l].holder = some d) :
    r.holderOf l = some r.dampers[d] := by
  simp only [Ddr.holderOf, holder, Option.map_some]

theorem Ddr.holderOf_none {r : Ddr} {l : LaneIx} (holder : r.lanes[l].holder = none) : r.holderOf l = none := by
  simp only [Ddr.holderOf, holder, Option.map_none]

include law

theorem State.DriveLaw.holder_of_lane {l : LaneIx} {d : DamperIx} (holds : s.ddr.dampers[d].lane = some l) :
    s.ddr.lanes[l].holder = some d ∧ (s.ddr.dampers[d].state = .homing ∨ s.ddr.dampers[d].state = .moving ∨
      s.ddr.dampers[d].state = .settling) := by
  obtain ⟨dampers, -⟩ := law
  obtain ⟨-, -, -, held, -⟩ := dampers d
  exact held l holds

theorem State.DriveLaw.lane_of_holder {l : LaneIx} {d : DamperIx} (holder : s.ddr.lanes[l].holder = some d) :
    s.ddr.dampers[d].lane = some l := by
  obtain ⟨-, lanes, -⟩ := law
  obtain ⟨-, -, holds, -⟩ := lanes l
  exact holds d holder

theorem State.DriveLaw.not_busy {l : LaneIx} (idle : s.ddr.lanes[l].state ≠ .busy) : s.ddr.lanes[l].holder = none := by
  obtain ⟨-, lanes, -⟩ := law
  obtain ⟨-, busy, -⟩ := lanes l
  exact Option.not_isSome_iff_eq_none.mp (mt busy.mpr idle)

/-- R94: STEP pulses exactly while the holder steps. -/
theorem State.DriveLaw.stepLine_moving_iff (l : LaneIx) :
    s.ddr.stepLine l = .moving ↔ ∃ k : DamperIx, s.ddr.dampers[k].lane = some l ∧
      (s.ddr.dampers[k].state = .homing ∨ s.ddr.dampers[k].state = .moving) := by
  constructor
  · intro moving
    cases holder : s.ddr.lanes[l].holder with
    | none => simp only [Ddr.stepLine, Ddr.holderOf_none holder, reduceCtorEq] at moving
    | some d =>
      have holds := law.lane_of_holder holder
      refine ⟨d, holds, ?_⟩
      obtain ⟨-, homing | steps | settling⟩ := law.holder_of_lane holds
      · exact .inl homing
      · exact .inr steps
      · simp only [Ddr.stepLine, Ddr.holderOf_some holder, settling, if_true, reduceCtorEq] at moving
  · rintro ⟨k, holds, steps⟩
    have holder := (law.holder_of_lane holds).1
    have notSettling : s.ddr.dampers[k].state ≠ .settling := by
      rcases steps with state | state <;> rw [state] <;> decide
    simp only [Ddr.stepLine, Ddr.holderOf_some holder, notSettling, if_false]

theorem State.DriveLaw.dirLine_eq {l : LaneIx} {d : DamperIx} (holds : s.ddr.dampers[d].lane = some l) :
    s.ddr.dirLine l =
      if s.ddr.dampers[d].state = .settling then .moving
      else if s.ddr.dampers[d].state = .homing ∨ s.ddr.dampers[d].overtravel = true then
        Line.ofBool s.ddr.dampers[d].settings.homeOpen
      else
        Line.ofBool (decide (s.ddr.dampers[d].position.getD 0 < s.ddr.dampers[d].target.getD 0)) := by
  simp only [Ddr.dirLine, Ddr.holderOf_some (law.holder_of_lane holds).1]

end LaneLines

theorem Ddr.stepLine_ne_asserted (r : Ddr) (l : LaneIx) : r.stepLine l ≠ .asserted := by
  unfold Ddr.stepLine
  split
  · nofun
  · split <;> nofun

/-! ### The pins (R165) and LTX (R184) -/

theorem Terminal.driveOf_eq (e : Terminal) (asserted : Bool) :
    e.driveOf asserted = if asserted = e.invert then .low else if e.openDrain = true then .released else .high := by
  cases h : decide (asserted = e.invert) <;> simp_all [Terminal.driveOf]

theorem State.pinDrive_input {s : State} {i : TerminalIx} {f : Func} (carries : s.trm.entries[i].func = some f)
    (input : f.isOutput = false) (bit : Bool) : s.pinDrive i bit = .released := by
  simp only [State.pinDrive, carries, input, Bool.false_eq_true, if_false]

theorem State.pinDrive_output {s : State} {i : TerminalIx} {f : Func} (carries : s.trm.entries[i].func = some f)
    (output : f.isOutput = true) (bit : Bool) :
    s.pinDrive i bit =
      s.trm.entries[i].driveOf (match s.line f with | .asserted => true | .negated => false | .moving => bit) := by
  cases line : s.line f <;> simp only [State.pinDrive, carries, output, if_true, line]

theorem lineBits_eq (b : Byte) :
    lineBits b =
      [false, b.getLsbD 0, b.getLsbD 1, b.getLsbD 2, b.getLsbD 3, b.getLsbD 4, b.getLsbD 5, b.getLsbD 6, b.getLsbD 7,
        true] := rfl

end Sys2Proof.Machine

namespace Sys2Proof
open Sys2Proof.Machine

/-- Settles O32: each line by its owner's record, and each drive by the line. -/
theorem outputLinesAndDrives : Obligations.OutputLinesAndDrives := by
  intro d l m i bit s law attention c e duty level
  have bound := d.isLt
  obtain ⟨-, attn, fault⟩ := attention
  refine ⟨rfl, s.ddr.stepLine_ne_asserted l, law.stepLine_moving_iff l, fun idle => ?_,
    fun holds => ⟨fun settling => ?_, fun searching => ?_, fun moving onTheWay p position t target => ?_⟩, rfl, rfl, rfl,
    fun free => ?_, fun f carries => ⟨fun input => ?_, fun output => ?_⟩, rfl, ?_, ?_, s.dedicatedDrive_cases _,
    s.dedicatedDrive_cases _, fun idle => ⟨?_, s.ltxDrive_idle bit idle⟩, fun bytes sending => ⟨?_, ?_⟩⟩
  · show s.ddr.dirLine l = .negated
    simp only [Ddr.dirLine, Ddr.holderOf_none (law.not_busy idle)]
  · exact (law.dirLine_eq holds).trans (if_pos settling)
  · have notSettling : c.state ≠ .settling := by
      rcases searching with state | ⟨state, -⟩ <;> simp [state]
    have searches : c.state = .homing ∨ c.overtravel = true := searching.imp_right And.right
    exact (law.dirLine_eq holds).trans ((if_neg notSettling).trans (if_pos searches))
  · have notSettling : c.state ≠ .settling := by simp [moving]
    have noSearch : ¬ (c.state = .homing ∨ c.overtravel = true) := by simp [moving, onTheWay]
    refine (law.dirLine_eq holds).trans ((if_neg notSettling).trans ((if_neg noSearch).trans ?_))
    have position : s.ddr.dampers[d].position = some p := position
    have target : s.ddr.dampers[d].target = some t := target
    rw [position, target]
    rfl
  · have free : s.trm.entries[i].func = none := free
    simp only [State.pinDrive, free]
  · exact State.pinDrive_input carries (Bool.eq_false_iff.mpr fun output => by
      have := (f.isOutput_iff_cls).mp output
      omega) bit
  · exact (State.pinDrive_output carries (f.isOutput_iff_cls.mpr output) bit).trans (e.driveOf_eq _)
  · exact ((s.dedicatedDrive_low _).trans and_comm).trans (and_congr_right' attn)
  · exact ((s.dedicatedDrive_low _).trans and_comm).trans (and_congr_right' fault)
  · simp [State.ltxBits, State.sending, idle]
  · have sending : s.sending = some bytes := sending
    rw [State.ltxBits, sending, Option.getD_some, ← funext lineBits_eq]
  · have sending : s.sending = some bytes := sending
    cases bit <;> simp [State.ltxDrive, sending]

end Sys2Proof

/-! ### What an event at DDR tells, and the state that mirrors its work -/

namespace Sys2Proof.Machine

/-- A unit of whose state ADM is told: FRESH, SCRUB, RELIEF and the lanes (R110). -/
def DriveUnit.heard : DriveUnit → Bool
  | .damper d => decide (d.val < 3)
  | .lane _ => true

/-- Two lists of changed units of which ADM hears the same. -/
def SameNews (a b : List DriveUnit) : Prop := a.dedup.filter DriveUnit.heard = b.dedup.filter DriveUnit.heard

theorem dedup_append_eq {α : Type} [DecidableEq α] (a b : List α) :
    (a ++ b).dedup = a.dedup.filter (fun x => decide (x ∉ b)) ++ b.dedup := by
  induction a with
  | nil => rfl
  | cons x a ih =>
    by_cases old : x ∈ a
    · rw [List.cons_append, List.dedup_cons_of_mem (List.mem_append_left b old), ih, List.dedup_cons_of_mem old]
    · by_cases later : x ∈ b
      · rw [List.cons_append, List.dedup_cons_of_mem (List.mem_append_right a later), ih,
          List.dedup_cons_of_notMem old, List.filter_cons_of_neg (by simpa using later)]
      · rw [List.cons_append, List.dedup_cons_of_notMem (by simp [old, later]), ih, List.dedup_cons_of_notMem old,
          List.filter_cons_of_pos (by simpa using later)]
        rfl

theorem SameNews.refl (a : List DriveUnit) : SameNews a a := rfl

theorem SameNews.trans {a b c : List DriveUnit} (h : SameNews a b) (h' : SameNews b c) : SameNews a c :=
  Eq.trans h h'

theorem SameNews.symm {a b : List DriveUnit} (h : SameNews a b) : SameNews b a := Eq.symm h

theorem SameNews.mem_iff {a b : List DriveUnit} (h : SameNews a b) {x : DriveUnit} (heard : x.heard = true) :
    x ∈ a ↔ x ∈ b := by
  have key : x ∈ a.dedup.filter DriveUnit.heard ↔ x ∈ b.dedup.filter DriveUnit.heard := by rw [show _ = _ from h]
  simpa [heard] using key

theorem SameNews.append {a a' b b' : List DriveUnit} (h : SameNews a a') (h' : SameNews b b') :
    SameNews (a ++ b) (a' ++ b') := by
  have later : ∀ l : List DriveUnit,
      (l.filter fun x => decide (x ∉ b)).filter DriveUnit.heard = (l.filter DriveUnit.heard).filter fun x => decide (x ∉ b') := by
    intro l
    rw [List.filter_filter, List.filter_filter]
    refine List.filter_congr fun x _ => ?_
    cases heard : x.heard with
    | false => simp
    | true => simp [h'.mem_iff heard]
  unfold SameNews at *
  rw [dedup_append_eq, dedup_append_eq, List.filter_append, List.filter_append, later, h, h', List.filter_filter,
    List.filter_filter]
  simp only [Bool.and_comm]

theorem SameNews.nil_right {a b : List DriveUnit} (h : SameNews b []) : SameNews (a ++ b) a := by
  simpa using (SameNews.refl a).append h

/-- A unit that is named again later is told once. -/
theorem sameNews_again (u : DriveUnit) (l : List DriveUnit) (mem : u ∈ l) : SameNews (u :: l) l := by
  rw [SameNews, List.dedup_cons_of_mem mem]

theorem sameNews_cons (u : DriveUnit) {a b : List DriveUnit} (h : SameNews a b) : SameNews (u :: a) (u :: b) :=
  (SameNews.refl [u]).append h

theorem sameNews_unheard {u : DriveUnit} (unheard : u.heard = false) : SameNews [u] [] := by
  simp [SameNews, unheard]

/-! #### The reports -/

/-- The unit whose state an event handed to ADM reports. -/
def DriveUnit.ofReport : Instr → Option DriveUnit
  | .damperStateReport (.damper d _ _) => some (.damper (d.castLE (by decide)))
  | .damperStateReport (.lane l _) => some (.lane l)
  | _ => none

theorem Ddr.reportOf_damper (r : Ddr) (d : DamperIx) :
    r.reportOf (.damper d) = if h : d.val < 3 then
      [.damperStateReport (.damper ⟨d.val, h⟩ r.dampers[d].state r.dampers[d].position)] else [] := rfl

theorem Ddr.reportOf_unheard (r : Ddr) {u : DriveUnit} (unheard : u.heard = false) : r.reportOf u = [] := by
  cases u with
  | damper d => exact dif_neg (by simpa [DriveUnit.heard] using unheard)
  | lane l => simp [DriveUnit.heard] at unheard

theorem flatMap_filter_of_nil {α β : Type} (p : α → Bool) (g : α → List β) (silent : ∀ x, p x = false → g x = [])
    (l : List α) : (l.filter p).flatMap g = l.flatMap g := by
  induction l with
  | nil => rfl
  | cons x l ih =>
    cases keep : p x with
    | false => rw [List.filter_cons_of_neg (by simp [keep]), ih, List.flatMap_cons, silent x keep, List.nil_append]
    | true => rw [List.filter_cons_of_pos keep, List.flatMap_cons, List.flatMap_cons, ih]

/-- What ADM is told depends only on the units of which it hears. -/
theorem SameNews.reports {a b : List DriveUnit} (h : SameNews a b) (r : Ddr) :
    a.dedup.flatMap r.reportOf = b.dedup.flatMap r.reportOf := by
  rw [← flatMap_filter_of_nil DriveUnit.heard _ (fun _ => r.reportOf_unheard) a.dedup,
    ← flatMap_filter_of_nil DriveUnit.heard _ (fun _ => r.reportOf_unheard) b.dedup, show _ = _ from h]

theorem State.arbitrated_eq (s : State) (before : List Instr) :
    s.arbitrated before =
      { s with
        ddr := (s.ddr.grantsFrom s.now s.ddr.queue [] ((s.handed.drop before.length).filterMap DriveUnit.ofReport)).1
        handed := before ++
          (s.ddr.grantsFrom s.now s.ddr.queue []
            ((s.handed.drop before.length).filterMap DriveUnit.ofReport)).2.dedup.flatMap
            (s.ddr.grantsFrom s.now s.ddr.queue []
              ((s.handed.drop before.length).filterMap DriveUnit.ofReport)).1.reportOf } := by
  have told : (s.handed.drop before.length).filterMap DriveUnit.ofReport =
      (s.handed.drop before.length).filterMap fun c => match c with
        | .damperStateReport (.damper d _ _) => some (.damper (d.castLE (by decide)))
        | .damperStateReport (.lane l _) => some (.lane l)
        | _ => none := by
    refine congrArg (fun f => List.filterMap f _) (funext fun c => ?_)
    unfold DriveUnit.ofReport
    rfl
  have tells : ∀ r : Ddr, r.reportOf = fun u => match u with
      | .damper d =>
        if h : d.val < 3 then [.damperStateReport (.damper ⟨d.val, h⟩ r.dampers[d].state r.dampers[d].position)] else []
      | .lane l => [.damperStateReport (.lane l r.lanes[l].state)] := by
    intro r
    funext u
    cases u <;> rfl
  rw [told]
  simp only [tells]
  rfl

/-! #### A state that mirrors the work of an event -/

/-- What DDR begins an event with. -/
def State.work (s : State) : Work := ⟨s.ddr, s.now, s.free, [], []⟩

/-- `t` is `s` with what an event at DDR has done so far: its records, its attention and a report of each unit whose
state has changed. -/
def State.Mirrors (s : State) (w : Work) (t : State) : Prop :=
  w.now = s.now ∧ ∃ news : List Instr, SameNews (news.filterMap DriveUnit.ofReport) w.changed ∧
    t = { s with
      ddr := w.ddr
      free := w.free
      atn := w.alarms.foldl (fun a p => a.raise p.1 p.2) s.atn
      handed := s.handed ++ news }

variable {s t : State} {w : Work}

theorem State.Mirrors.start (s : State) : s.Mirrors s.work s := by
  refine ⟨rfl, [], .refl _, ?_⟩
  rw [List.append_nil]
  rfl

theorem State.Mirrors.now_eq (m : s.Mirrors w t) : t.now = w.now := by
  obtain ⟨now, news, -, rfl⟩ := m
  exact now.symm

theorem State.Mirrors.ddr_eq (m : s.Mirrors w t) : t.ddr = w.ddr := by
  obtain ⟨-, news, -, rfl⟩ := m
  rfl

theorem ofReport_damperNews (d : DamperIx) (old new : Damper) :
    SameNews ((damperNews d old new).filterMap DriveUnit.ofReport)
      (if new.state = old.state then [] else [.damper d]) := by
  unfold damperNews
  by_cases same : old.state = new.state
  · rw [if_pos same, if_pos same.symm]
    rfl
  · rw [if_neg same, if_neg fun h => same h.symm]
    by_cases small : d.val < 3
    · rw [dif_pos small]
      rfl
    · rw [dif_neg small]
      exact (sameNews_unheard (by simpa [DriveUnit.heard] using small)).symm

theorem append_ite_nil {α : Type} (c : Prop) [Decidable c] (l m : List α) :
    (if c then l else l ++ m) = l ++ if c then [] else m := by
  split <;> simp

theorem State.Mirrors.damperBecomes (m : s.Mirrors w t) (d : DamperIx) (c : Damper) :
    s.Mirrors (w.putDamper d c) (t.damperBecomes d c) := by
  obtain ⟨now, news, same, rfl⟩ := m
  refine ⟨now, news ++ damperNews d w.ddr.dampers[d] c, ?_, ?_⟩
  · rw [List.filterMap_append, show (w.putDamper d c).changed = _ from append_ite_nil _ _ _]
    exact same.append (ofReport_damperNews d _ c)
  · simp only [State.damperBecomes, Work.putDamper, List.append_assoc]

theorem State.Mirrors.laneBecomes (m : s.Mirrors w t) (l : LaneIx) (r : Lane) :
    s.Mirrors (w.putLane l r) (t.laneBecomes l r) := by
  have bound := l.isLt
  obtain ⟨now, news, same, rfl⟩ := m
  refine ⟨now, news ++ (if w.ddr.lanes[l].state = r.state then [] else [.damperStateReport (.lane l r.state)]), ?_, ?_⟩
  · rw [List.filterMap_append, show (w.putLane l r).changed = _ from append_ite_nil _ _ _]
    refine same.append ?_
    by_cases state : w.ddr.lanes[l].state = r.state
    · rw [if_pos state, if_pos (show r.state = (w.lane l).state from state.symm)]
      rfl
    · rw [if_neg state, if_neg fun h : r.state = (w.lane l).state => state h.symm]
      rfl
  · simp only [State.laneBecomes, Work.putLane, List.append_assoc]

theorem Work.freeLaneOf_some {d : DamperIx} {l : LaneIx} (holds : (w.damper d).lane = some l) :
    w.freeLaneOf d = w.putLane l { w.lane l with state := .free, holder := none } := by
  simp only [Work.freeLaneOf, holds]

theorem Work.freeLaneOf_none {d : DamperIx} (none : (w.damper d).lane = none) : w.freeLaneOf d = w := by
  simp only [Work.freeLaneOf, none]

theorem State.Mirrors.laneFreed (m : s.Mirrors w t) {d : DamperIx} {l : LaneIx} (holds : (w.damper d).lane = some l) :
    s.Mirrors (w.freeLaneOf d) (t.laneFreed l) := by
  rw [Work.freeLaneOf_some holds, State.laneFreed, m.ddr_eq]
  exact m.laneBecomes l _

theorem State.Mirrors.queueBecomes (m : s.Mirrors w t) (q : List QueuedOrder) :
    s.Mirrors (w.putQueue q) (t.queueBecomes q) := by
  obtain ⟨now, news, same, rfl⟩ := m
  exact ⟨now, news, same, rfl⟩

theorem State.Mirrors.queued (m : s.Mirrors w t) (d : DamperIx) (g : Goal) (k : OrderClass) (src : OrderSource)
    (room : w.ddr.seq + 1 < 4294967296) : s.Mirrors (w.enqueueNew d g k src) (t.queued d g k src) := by
  obtain ⟨now, news, same, rfl⟩ := m
  rw [Work.enqueueNew, Work.advanceSeq, if_pos (by exact room)]
  exact ⟨now, news, same, rfl⟩

theorem State.Mirrors.pulsed (m : s.Mirrors w t) {d : DamperIx} {l : LaneIx} (holds : (w.damper d).lane = some l) :
    s.Mirrors (w.pulse d) (t.pulsed l) := by
  obtain ⟨now, news, same, rfl⟩ := m
  refine ⟨by simpa [Work.pulse, holds, Work.putLane] using now, news, ?_, ?_⟩
  · simpa [Work.pulse, holds, Work.putLane] using same
  · simp [Work.pulse, holds, Work.putLane, State.pulsed, Work.lane]

theorem State.Mirrors.raise (m : s.Mirrors w t) (i : SourceIx) (n : Nat) :
    s.Mirrors (w.alarm i n) { t with atn := t.atn.raise i n } := by
  obtain ⟨now, news, same, rfl⟩ := m
  refine ⟨now, news, same, ?_⟩
  simp only [Work.alarm, List.foldl_append, List.foldl_cons, List.foldl_nil]

/-- A work with the same records of which ADM hears the same. -/
def Work.Like (w v : Work) : Prop :=
  w.ddr = v.ddr ∧ w.now = v.now ∧ w.free = v.free ∧ w.alarms = v.alarms ∧ SameNews w.changed v.changed

theorem State.Mirrors.like {v : Work} (m : s.Mirrors w t) (like : v.Like w) : s.Mirrors v t := by
  obtain ⟨now, news, same, rfl⟩ := m
  obtain ⟨ddr, nows, free, alarms, changed⟩ := like
  refine ⟨nows.trans now, news, same.trans changed.symm, ?_⟩
  rw [ddr, free, alarms]

theorem Work.Like.refl (w : Work) : w.Like w := ⟨rfl, rfl, rfl, rfl, .refl _⟩

theorem Work.Like.trans {v u : Work} (h : w.Like v) (h' : v.Like u) : w.Like u := by
  obtain ⟨ddr, now, free, alarms, changed⟩ := h
  obtain ⟨ddr', now', free', alarms', changed'⟩ := h'
  exact ⟨ddr.trans ddr', now.trans now', free.trans free', alarms.trans alarms', changed.trans changed'⟩

/-- An event at DDR, where the grants after its work are known, is what the state that mirrors its work comes to. -/
theorem State.Mirrors.drive {f : Work → Work} {v : Work} (m : s.Mirrors w t) (run : f s.work = v)
    (granted : ∀ news, SameNews w.changed news →
      v.Like { w with ddr := (w.ddr.grantsFrom w.now w.ddr.queue [] news).1,
                      changed := (w.ddr.grantsFrom w.now w.ddr.queue [] news).2 }) :
    s.drive f = t.arbitrated s.handed := by
  obtain ⟨now, news, same, rfl⟩ := m
  obtain ⟨ddr, -, free, alarms, changed⟩ := granted (news.filterMap DriveUnit.ofReport) same.symm
  rw [State.drive_eq, State.arbitrated_eq, show f ⟨s.ddr, s.now, s.free, [], []⟩ = v from run, changed.reports, ddr, free,
    alarms]
  simp only [List.drop_left, now]

/-! #### The work, record by record -/

@[simp] theorem Work.damper_putDamper (w : Work) (d : DamperIx) (c : Damper) : (w.putDamper d c).damper d = c := by
  simp [Work.damper, Work.putDamper]

theorem Work.damper_putDamper_ne (w : Work) {d e : DamperIx} (ne : e ≠ d) (c : Damper) :
    (w.putDamper d c).damper e = w.damper e := by
  simp only [Work.damper, Work.putDamper]
  exact Vector.getElem_set_ne _ _ fun h => ne (Fin.ext h.symm)

@[simp] theorem Work.lane_putDamper (w : Work) (d : DamperIx) (c : Damper) (l : LaneIx) :
    (w.putDamper d c).lane l = w.lane l := rfl

@[simp] theorem Work.damper_putLane (w : Work) (l : LaneIx) (r : Lane) (d : DamperIx) :
    (w.putLane l r).damper d = w.damper d := rfl

@[simp] theorem Work.lane_putLane (w : Work) (l : LaneIx) (r : Lane) : (w.putLane l r).lane l = r := by
  simp [Work.lane, Work.putLane]

@[simp] theorem Work.now_putDamper (w : Work) (d : DamperIx) (c : Damper) : (w.putDamper d c).now = w.now := rfl

@[simp] theorem Work.now_putLane (w : Work) (l : LaneIx) (r : Lane) : (w.putLane l r).now = w.now := rfl

@[simp] theorem Work.damper_freeLaneOf (w : Work) (d e : DamperIx) : (w.freeLaneOf d).damper e = w.damper e := by
  unfold Work.freeLaneOf
  split <;> rfl

@[simp] theorem Work.now_freeLaneOf (w : Work) (d : DamperIx) : (w.freeLaneOf d).now = w.now := by
  unfold Work.freeLaneOf
  split <;> rfl

/-- A unit, where its state is another than before. -/
def DriveUnit.ifMoved {α : Type} [DecidableEq α] (u : DriveUnit) (new old : α) : List DriveUnit :=
  if new = old then [] else [u]

theorem DriveUnit.ifMoved_same {α : Type} [DecidableEq α] (u : DriveUnit) {new old : α} (h : new = old) :
    u.ifMoved new old = [] := if_pos h

theorem DriveUnit.ifMoved_ne {α : Type} [DecidableEq α] (u : DriveUnit) {new old : α} (h : new ≠ old) :
    u.ifMoved new old = [u] := if_neg h

theorem Work.changed_putDamper (w : Work) (d : DamperIx) (c : Damper) :
    (w.putDamper d c).changed = w.changed ++ (DriveUnit.damper d).ifMoved c.state (w.damper d).state :=
  append_ite_nil _ _ _

theorem Work.changed_putLane (w : Work) (l : LaneIx) (r : Lane) :
    (w.putLane l r).changed = w.changed ++ (DriveUnit.lane l).ifMoved r.state (w.lane l).state :=
  append_ite_nil _ _ _

variable {d : DamperIx} {l : LaneIx} {c c₁ c₂ : Damper}

theorem Work.Like.putDamper {v : Work} (h : w.Like v) (d : DamperIx) (c : Damper) :
    (w.putDamper d c).Like (v.putDamper d c) := by
  obtain ⟨ddr, now, free, alarms, changed⟩ := h
  have damper : w.damper d = v.damper d := by simp only [Work.damper, ddr]
  refine ⟨?_, now, free, alarms, ?_⟩
  · simp only [Work.putDamper, ddr]
  · rw [Work.changed_putDamper, Work.changed_putDamper, damper]
    exact changed.append (.refl _)

/-- A record replaced twice is the second, where the first replacement told no more than the second does. -/
theorem Work.putDamper_putDamper_like (w : Work) (told : c₁.state = (w.damper d).state ∨ c₂.state ≠ (w.damper d).state) :
    ((w.putDamper d c₁).putDamper d c₂).Like (w.putDamper d c₂) := by
  refine ⟨by simp [Work.putDamper], rfl, rfl, rfl, ?_⟩
  simp only [Work.changed_putDamper, Work.damper_putDamper, List.append_assoc]
  refine (SameNews.refl _).append ?_
  rcases told with same | moves
  · rw [DriveUnit.ifMoved_same _ same, same]
    exact .refl _
  · rw [DriveUnit.ifMoved_ne _ moves]
    by_cases first : c₁.state = (w.damper d).state
    · rw [DriveUnit.ifMoved_same _ first, first, DriveUnit.ifMoved_ne _ moves]
      exact .refl _
    · rw [DriveUnit.ifMoved_ne _ first]
      unfold DriveUnit.ifMoved
      split
      · exact .refl _
      · exact sameNews_again _ _ (.head _)

/-- A record replaced on the way to the release of its lane and another state. -/
theorem Work.putDamper_freeLaneOf_like (w : Work) (lane : c₁.lane = (w.damper d).lane)
    (told : c₁.state = (w.damper d).state ∨ c₂.state ≠ c₁.state ∧ c₂.state ≠ (w.damper d).state) :
    (((w.putDamper d c₁).freeLaneOf d).putDamper d c₂).Like ((w.freeLaneOf d).putDamper d c₂) := by
  cases holds : (w.damper d).lane with
  | none =>
    rw [Work.freeLaneOf_none holds, Work.freeLaneOf_none (by rw [Work.damper_putDamper, lane, holds])]
    exact w.putDamper_putDamper_like (told.imp_right And.right)
  | some l =>
    rw [Work.freeLaneOf_some holds, Work.freeLaneOf_some (by rw [Work.damper_putDamper, lane, holds])]
    refine ⟨by simp [Work.putDamper, Work.putLane, Work.lane], rfl, rfl, rfl, ?_⟩
    simp only [Work.changed_putDamper, Work.changed_putLane, Work.damper_putDamper, Work.damper_putLane,
      Work.lane_putDamper, List.append_assoc]
    refine (SameNews.refl _).append ?_
    rcases told with same | ⟨moves, moved⟩
    · rw [DriveUnit.ifMoved_same _ same, same]
      exact .refl _
    · rw [DriveUnit.ifMoved_ne _ moves, DriveUnit.ifMoved_ne _ moved]
      unfold DriveUnit.ifMoved
      split
      · exact .refl _
      · exact sameNews_again _ _ (by simp)

/-- R103: what an arrival comes to, its settle with the time 0 included. -/
theorem Work.arrive_like (w : Work) (d : DamperIx) (rests : (w.damper d).state ≠ .idle) (kept : (w.damper d).deferred = none) :
    (w.arrive d).Like ((w.freeLaneOf d).putDamper d ((w.damper d).arrived w.now)) := by
  by_cases zero : (w.damper d).settings.settle = 0
  · simp only [Work.arrive, Damper.arrived, if_pos zero, Work.settled, Work.damper_putDamper, kept]
    exact (Work.freeLaneOf w d).putDamper_putDamper_like (.inr (by simpa using rests.symm))
  · simp only [Work.arrive, Damper.arrived, if_neg zero]
    exact .refl _

theorem Work.putDamper_arrive_like (w : Work) (lane : c.lane = (w.damper d).lane) (same : c.state = (w.damper d).state)
    (rests : c.state ≠ .idle) (kept : c.deferred = none) :
    ((w.putDamper d c).arrive d).Like ((w.freeLaneOf d).putDamper d (c.arrived w.now)) := by
  have arrival := (w.putDamper d c).arrive_like d (by simpa using rests) (by simpa using kept)
  simp only [Work.damper_putDamper, Work.now_putDamper] at arrival
  exact arrival.trans (w.putDamper_freeLaneOf_like lane (.inl same))

/-- The record of a damper in a direction reversal, its settle told of even where its time is 0 (assumption 19). -/
def Work.reversing (w : Work) (d : DamperIx) (c : Damper) : Work :=
  { w.putDamper d c with changed := w.changed ++ [.damper d] }

/-- R100: what a direction reversal comes to, its settle with the time 0 included. -/
theorem Work.reverse_like (w : Work) (d : DamperIx) {t : Nat} (settles : (w.damper d).state ≠ .settling)
    (away : (w.damper d).position ≠ some t) :
    (w.reverse d t).Like (w.reversing d ((w.damper d).reversed w.now t)) := by
  by_cases zero : (w.damper d).settings.settle = 0
  · simp only [Work.reverse, Damper.reversed, if_pos zero, Work.continueMove, Work.damper_putDamper, if_neg away.symm]
    refine ⟨by simp [Work.putDamper, Work.reversing, Damper.period], rfl, rfl, rfl, ?_⟩
    simp only [Work.changed_putDamper, Work.damper_putDamper, List.append_assoc]
    refine (SameNews.refl _).append ?_
    rw [DriveUnit.ifMoved_ne _ settles.symm]
    unfold DriveUnit.ifMoved
    split
    · exact .refl _
    · exact sameNews_again _ _ (.head _)
  · simp only [Work.reverse, Damper.reversed, if_neg zero]
    refine ⟨rfl, rfl, rfl, rfl, ?_⟩
    simp only [Work.reversing, Work.putDamper]
    rw [if_neg settles.symm]
    exact .refl _

theorem Work.putDamper_reverse_like (w : Work) {t : Nat} (same : c.state = (w.damper d).state)
    (settles : c.state ≠ .settling) (away : c.position ≠ some t) :
    ((w.putDamper d c).reverse d t).Like (w.reversing d (c.reversed w.now t)) := by
  have reversal := (w.putDamper d c).reverse_like d (t := t) (by simpa using settles) (by simpa using away)
  simp only [Work.damper_putDamper, Work.now_putDamper] at reversal
  refine reversal.trans ⟨by simp [Work.reversing, Work.putDamper], rfl, rfl, rfl, ?_⟩
  simp only [Work.reversing, Work.putDamper, if_pos same]
  exact .refl _

/-! #### The state mirrors arrivals and reversals -/

theorem State.Mirrors.arrives (m : s.Mirrors w t) (holds : (w.damper d).lane = some l) (lane : c.lane = some l)
    (same : c.state = (w.damper d).state) (rests : c.state ≠ .idle) (kept : c.deferred = none) :
    s.Mirrors ((w.putDamper d c).arrive d) ((t.laneFreed l).damperBecomes d (c.arrived s.now)) := by
  obtain ⟨now, -⟩ := id m
  rw [← now]
  exact ((m.laneFreed holds).damperBecomes d _).like (w.putDamper_arrive_like (lane.trans holds.symm) same rests kept)

theorem damperReverses_news (d : DamperIx) (st : DamperState) (p : Option Nat) :
    SameNews ((if h : d.val < 3 then [Instr.damperStateReport (.damper ⟨d.val, h⟩ st p)] else []).filterMap
      DriveUnit.ofReport) [.damper d] := by
  by_cases small : d.val < 3
  · rw [dif_pos small]
    rfl
  · rw [dif_neg small]
    exact (sameNews_unheard (by simpa [DriveUnit.heard] using small)).symm

theorem State.Mirrors.reverses (m : s.Mirrors w t) {n : Nat} (same : c.state = (w.damper d).state)
    (settles : c.state ≠ .settling) (away : c.position ≠ some n) :
    s.Mirrors ((w.putDamper d c).reverse d n) (t.damperReverses d c n) := by
  refine State.Mirrors.like ?_ (w.putDamper_reverse_like same settles away)
  obtain ⟨now, news, sameNews, rfl⟩ := m
  refine ⟨now, news ++ (if h : d.val < 3 then
    [Instr.damperStateReport (.damper ⟨d.val, h⟩ (c.reversed s.now n).state c.position)] else []), ?_, ?_⟩
  · rw [List.filterMap_append]
    exact sameNews.append (damperReverses_news d _ _)
  · simp only [State.damperReverses, Work.reversing, Work.putDamper, List.append_assoc, now]

end Sys2Proof.Machine

/-! ### The law of the drive, record by record -/

namespace Sys2Proof.Machine

/-- What the law of the drive says of one damper, `queued` where its order waits. -/
def Damper.Lawful (c : Damper) (queued : Bool) : Prop :=
  match c.state with
  | .absent | .unhomed | .jammed =>
    queued = false ∧ c.lane = none ∧ c.stepDue = none ∧ c.settle = none ∧ c.deferred = none ∧ c.position = none
  | .idle =>
    queued = false ∧ c.lane = none ∧ c.stepDue = none ∧ c.settle = none ∧ c.deferred = none ∧
      c.position.isSome = true ∧ c.target = c.position
  | .waiting => queued = true ∧ c.lane = none ∧ c.stepDue = none ∧ c.settle = none ∧ c.deferred = none
  | .homing =>
    queued = false ∧ c.lane.isSome = true ∧ c.order.isSome = true ∧ c.stepDue.isSome = true ∧ c.settle = none ∧
      c.deferred = none ∧ c.position = none
  | .moving =>
    queued = false ∧ c.lane.isSome = true ∧ c.order.isSome = true ∧ c.stepDue.isSome = true ∧ c.settle = none ∧
      c.deferred = none ∧ c.position.isSome = true ∧ c.target.isSome = true
  | .settling =>
    queued = false ∧ c.stepDue = none ∧ c.settle.isSome = true ∧ c.position.isSome = true ∧ c.target.isSome = true ∧
      (c.lane = none → c.target = c.position) ∧
      (c.lane.isSome = true → c.order.isSome = true ∧ c.deferred = none)

/-- What the law of the drive says of one lane. -/
def Lane.Lawful (r : Lane) : Prop :=
  (r.state = .busy ↔ r.holder.isSome = true) ∧ (r.recovery.isSome = true → r.state = .out)

/-- An order and its damper's record fit: a MOVE only where the position is known. -/
def Damper.Fits (c : Damper) (o : QueuedOrder) : Prop := o.goal.isHome = true ∨ c.position.isSome = true

/-- The law of the drive but for the record of one damper: the lane at which it is held, and the order of it that
waits. -/
structure Ddr.But (r : Ddr) (present : DamperIx → Bool) (laid : LaneIx → Bool) (d : DamperIx) (lane : Option LaneIx)
    (waiting : Option QueuedOrder) : Prop where
  others : ∀ e, e ≠ d → (r.dampers[e].state = .absent ↔ present e = false) ∧
    r.dampers[e].Lawful (r.queuedOrder e).isSome
  lanes : ∀ l : LaneIx, (r.lanes[l].state = .absent ↔ laid l = false) ∧ r.lanes[l].Lawful
  holds : ∀ e, e ≠ d → ∀ l, r.dampers[e].lane = some l ↔ r.lanes[l].holder = some e
  own : ∀ l, lane = some l ↔ r.lanes[l].holder = some d
  once : (r.queue.map fun o => o.damper).Nodup
  sorted : r.queue.Pairwise fun a b => b.before a = false
  fits : ∀ o ∈ r.queue, o.damper ≠ d → r.dampers[o.damper].Fits o
  order : r.queuedOrder d = waiting

/-- The law of the drive between two grants. -/
structure Ddr.Weak (r : Ddr) (present : DamperIx → Bool) (laid : LaneIx → Bool) : Prop where
  dampers : ∀ e, (r.dampers[e].state = .absent ↔ present e = false) ∧ r.dampers[e].Lawful (r.queuedOrder e).isSome
  lanes : ∀ l : LaneIx, (r.lanes[l].state = .absent ↔ laid l = false) ∧ r.lanes[l].Lawful
  holds : ∀ (e : DamperIx) (l : LaneIx), r.dampers[e].lane = some l ↔ r.lanes[l].holder = some e
  once : (r.queue.map fun o => o.damper).Nodup
  sorted : r.queue.Pairwise fun a b => b.before a = false
  fits : ∀ o ∈ r.queue, r.dampers[o.damper].Fits o

/-- Every FREE lane has been granted, as far as orders wait. -/
def Ddr.Granted (r : Ddr) : Prop := (∃ l : LaneIx, r.lanes[l].state = .free) → r.queue = []

theorem Damper.lawful_iff (c : Damper) (queued : Bool) :
    c.Lawful queued ↔
      (c.state = .waiting ↔ queued = true) ∧
      (c.state = .homing ∨ c.state = .moving → c.lane.isSome = true) ∧
      (∀ l ∈ c.lane, c.state = .homing ∨ c.state = .moving ∨ c.state = .settling) ∧
      (c.lane.isSome = true → c.order.isSome = true) ∧
      (c.stepDue.isSome = true ↔ c.state = .homing ∨ c.state = .moving) ∧
      (c.settle.isSome = true ↔ c.state = .settling) ∧
      (c.state = .idle ∨ c.state = .moving ∨ c.state = .settling →
        c.position.isSome = true ∧ c.target.isSome = true) ∧
      (c.state = .idle ∨ c.state = .settling ∧ c.lane = none → c.target = c.position) ∧
      (c.deferred.isSome = true → c.state = .settling ∧ c.lane = none) ∧
      (c.state = .homing ∨ c.state = .unhomed ∨ c.state = .jammed ∨ c.state = .absent → c.position = none) := by
  have held : (∀ l ∈ c.lane, c.state = .homing ∨ c.state = .moving ∨ c.state = .settling) ↔
      (c.lane.isSome = true → c.state = .homing ∨ c.state = .moving ∨ c.state = .settling) := by
    cases c.lane <;> simp
  rw [held]
  unfold Damper.Lawful
  cases state : c.state with
  | settling => cases c.lane <;> cases c.deferred <;> simp <;> tauto
  | idle => cases c.lane <;> cases c.target <;> simp <;> grind
  | _ => cases c.lane <;> simp <;> tauto

theorem State.driveLaw_iff (s : State) :
    s.DriveLaw ↔
      s.ddr.Weak (fun d => s.bound (.sel d) && s.bound (.home d)) (fun l => s.bound (.step l) && s.bound (.dir l)) ∧
        s.ddr.Granted := by
  constructor
  · rintro ⟨dampers, lanes, once, fits, sorted, granted⟩
    refine ⟨⟨fun e => ?_, fun l => ?_, fun e l => ⟨fun h => ?_, fun h => ?_⟩, once, sorted, fits⟩, granted⟩
    · obtain ⟨absent, waits, works, holds, rest⟩ := dampers e
      exact ⟨absent, (Damper.lawful_iff _ _).mpr ⟨waits, works, fun l h => (holds l h).2, rest⟩⟩
    · obtain ⟨absent, busy, -, recovery⟩ := lanes l
      exact ⟨absent, busy, recovery⟩
    · obtain ⟨-, -, -, holds, -⟩ := dampers e
      exact (holds l h).1
    · obtain ⟨-, -, holder, -⟩ := lanes l
      exact holder e h
  · rintro ⟨weak, granted⟩
    refine ⟨fun d => ?_, fun l => ?_, weak.once, weak.fits, weak.sorted, granted⟩
    · obtain ⟨absent, lawful⟩ := weak.dampers d
      obtain ⟨waits, works, holds, rest⟩ := (Damper.lawful_iff _ _).mp lawful
      exact ⟨absent, waits, works, fun l h => ⟨(weak.holds d l).mp h, holds l h⟩, rest⟩
    · obtain ⟨absent, busy, recovery⟩ := weak.lanes l
      exact ⟨absent, busy, fun d h => (weak.holds d l).mpr h, recovery⟩

/-! #### The queue -/

theorem QueuedOrder.before_asymm {a b : QueuedOrder} (h : a.before b = true) : b.before a = false := by
  unfold QueuedOrder.before at *
  cases ha : a.cls <;> cases hb : b.cls <;> simp_all [Nat.le_of_lt]

theorem QueuedOrder.before_trans {a b c : QueuedOrder} (h : a.before b = true) (h' : b.before c = true) :
    a.before c = true := by
  unfold QueuedOrder.before at *
  cases ha : a.cls <;> cases hb : b.cls <;> cases hc : c.cls <;> simp_all
  · exact h.trans h'
  · exact h.trans h'

theorem insertOrder_perm (o : QueuedOrder) (q : List QueuedOrder) : (insertOrder o q).Perm (o :: q) := by
  induction q with
  | nil => exact .refl _
  | cons x q ih =>
    rw [insertOrder]
    split
    · exact .refl _
    · exact (ih.cons x).trans (.swap o x q)

theorem mem_insertOrder {o x : QueuedOrder} {q : List QueuedOrder} : x ∈ insertOrder o q ↔ x = o ∨ x ∈ q := by
  rw [(insertOrder_perm o q).mem_iff, List.mem_cons]

theorem insertOrder_sorted {o : QueuedOrder} {q : List QueuedOrder}
    (sorted : q.Pairwise fun a b => b.before a = false) : (insertOrder o q).Pairwise fun a b => b.before a = false := by
  induction q with
  | nil => exact List.pairwise_singleton _ _
  | cons x q ih =>
    obtain ⟨first, rest⟩ := List.pairwise_cons.mp sorted
    rw [insertOrder]
    by_cases front : o.before x = true
    · rw [if_pos front]
      refine List.pairwise_cons.mpr ⟨fun y mem => ?_, sorted⟩
      rcases List.mem_cons.mp mem with rfl | mem
      · exact QueuedOrder.before_asymm front
      · refine Bool.eq_false_iff.mpr fun earlier => ?_
        exact Bool.eq_false_iff.mp (first y mem) (QueuedOrder.before_trans earlier front)
    · rw [if_neg front]
      refine List.pairwise_cons.mpr ⟨fun y mem => ?_, ih rest⟩
      rcases mem_insertOrder.mp mem with rfl | mem
      · exact Bool.eq_false_iff.mpr front
      · exact first y mem

theorem find?_insertOrder_other {p : QueuedOrder → Bool} {o : QueuedOrder} (other : p o = false) (q : List QueuedOrder) :
    (insertOrder o q).find? p = q.find? p := by
  induction q with
  | nil => simp [insertOrder, other]
  | cons x q ih =>
    rw [insertOrder]
    split
    · rw [List.find?_cons_of_neg (by simp [other])]
    · rw [List.find?_cons, List.find?_cons, ih]

theorem find?_insertOrder_self {p : QueuedOrder → Bool} {o : QueuedOrder} (self : p o = true) {q : List QueuedOrder}
    (fresh : q.find? p = none) : (insertOrder o q).find? p = some o := by
  induction q with
  | nil => simp [insertOrder, self]
  | cons x q ih =>
    rw [insertOrder]
    split
    · rw [List.find?_cons_of_pos self]
    · have head : p x = false := by simpa using List.find?_eq_none.mp fresh x (.head _)
      rw [List.find?_cons_of_neg (by simp [head])] at fresh ⊢
      exact ih fresh

theorem queuedOrder_eq_none {r : Ddr} {d : DamperIx} : r.queuedOrder d = none ↔ ∀ o ∈ r.queue, o.damper ≠ d := by
  simp [Ddr.queuedOrder]

theorem queuedOrder_eq_some {r : Ddr} {d : DamperIx} {o : QueuedOrder} (h : r.queuedOrder d = some o) :
    o ∈ r.queue ∧ o.damper = d := by
  exact ⟨List.mem_of_find?_eq_some h, by simpa using List.find?_some h⟩

theorem queuedOrder_of_mem {r : Ddr} (once : (r.queue.map fun o => o.damper).Nodup) {o : QueuedOrder} (mem : o ∈ r.queue) :
    r.queuedOrder o.damper = some o := by
  cases found : r.queuedOrder o.damper with
  | none => exact absurd rfl (queuedOrder_eq_none.mp found o mem)
  | some x =>
    obtain ⟨memx, same⟩ := queuedOrder_eq_some found
    exact congrArg some (List.inj_on_of_nodup_map once memx mem same)

/-! #### Everything but one damper -/

section But

variable {w : Work} {present : DamperIx → Bool} {laid : LaneIx → Bool} {d : DamperIx} {lane : Option LaneIx}
  {waiting : Option QueuedOrder} {l : LaneIx}

theorem Ddr.Weak.open (h : w.ddr.Weak present laid) (d : DamperIx) :
    w.ddr.But present laid d (w.damper d).lane (w.ddr.queuedOrder d) where
  others e _ := h.dampers e
  lanes := h.lanes
  holds e _ := h.holds e
  own := h.holds d
  once := h.once
  sorted := h.sorted
  fits o mem _ := h.fits o mem
  order := rfl

theorem Ddr.But.close (h : w.ddr.But present laid d lane waiting) (held : (w.damper d).lane = lane)
    (absent : (w.damper d).state = .absent ↔ present d = false) (lawful : (w.damper d).Lawful waiting.isSome)
    (fits : ∀ o ∈ waiting, (w.damper d).Fits o) : w.ddr.Weak present laid where
  dampers e := by
    by_cases same : e = d
    · subst same
      rw [h.order]
      exact ⟨absent, lawful⟩
    · exact h.others e same
  lanes := h.lanes
  holds e l := by
    by_cases same : e = d
    · subst same
      rw [← h.own l, ← held]
      rfl
    · exact h.holds e same l
  once := h.once
  sorted := h.sorted
  fits o mem := by
    by_cases same : o.damper = d
    · subst same
      exact fits o (h.order.symm.trans (queuedOrder_of_mem h.once mem))
    · exact h.fits o mem same

theorem Work.putDamper_getElem_ne (w : Work) {d e : DamperIx} (ne : e ≠ d) (c : Damper) :
    (w.putDamper d c).ddr.dampers[e] = w.ddr.dampers[e] := w.damper_putDamper_ne ne c

theorem Ddr.But.putDamper (h : w.ddr.But present laid d lane waiting) (c : Damper) :
    (w.putDamper d c).ddr.But present laid d lane waiting where
  others e ne := by
    rw [w.putDamper_getElem_ne ne]
    exact h.others e ne
  lanes := h.lanes
  holds e ne l := by
    rw [w.putDamper_getElem_ne ne]
    exact h.holds e ne l
  own := h.own
  once := h.once
  sorted := h.sorted
  fits o mem ne := by
    rw [w.putDamper_getElem_ne ne]
    exact h.fits o mem ne
  order := h.order

theorem Work.putLane_getElem_ne (w : Work) {l m : LaneIx} (ne : m ≠ l) (r : Lane) :
    (w.putLane l r).ddr.lanes[m] = w.ddr.lanes[m] := by
  simp only [Work.putLane]
  exact Vector.getElem_set_ne _ _ fun h => ne (Fin.ext h.symm)

theorem Work.putLane_getElem_self (w : Work) (l : LaneIx) (r : Lane) : (w.putLane l r).ddr.lanes[l] = r := by
  simp [Work.putLane]

/-- A lane replaced by one with a holder that fits the damper's record. -/
theorem Ddr.But.putLane {lane' : Option LaneIx} {laid' : LaneIx → Bool} (h : w.ddr.But present laid d lane waiting)
    {r : Lane} (agree : ∀ m, m ≠ l → laid' m = laid m) (there : r.state = .absent ↔ laid' l = false) (lawful : r.Lawful)
    (others : ∀ e, e ≠ d → (r.holder = some e ↔ (w.lane l).holder = some e))
    (self : lane' = some l ↔ r.holder = some d) (elsewhere : ∀ m, m ≠ l → (lane' = some m ↔ lane = some m)) :
    (w.putLane l r).ddr.But present laid' d lane' waiting where
  others := h.others
  lanes m := by
    by_cases same : m = l
    · subst same
      rw [w.putLane_getElem_self]
      exact ⟨there, lawful⟩
    · rw [w.putLane_getElem_ne same, agree m same]
      exact h.lanes m
  holds e ne m := by
    by_cases same : m = l
    · subst same
      rw [w.putLane_getElem_self, others e ne]
      exact h.holds e ne m
    · rw [w.putLane_getElem_ne same]
      exact h.holds e ne m
  own m := by
    by_cases same : m = l
    · subst same
      rw [w.putLane_getElem_self]
      exact self
    · rw [w.putLane_getElem_ne same, elsewhere m same]
      exact h.own m
  once := h.once
  sorted := h.sorted
  fits := h.fits
  order := h.order

/-- The lane that the damper holds is released, or lost. -/
theorem Ddr.But.dropLane {laid' : LaneIx → Bool} (h : w.ddr.But present laid d (some l) waiting) {r : Lane}
    (agree : ∀ m, m ≠ l → laid' m = laid m) (there : r.state = .absent ↔ laid' l = false) (idle : r.state ≠ .busy)
    (free : r.holder = none) (recovery : r.recovery.isSome = true → r.state = .out) :
    (w.putLane l r).ddr.But present laid' d none waiting := by
  have holder : (w.lane l).holder = some d := (h.own l).mp rfl
  refine h.putLane agree there ⟨by simp [idle, free], recovery⟩ (fun e ne => ?_) (by simp [free]) fun m ne => ?_
  · rw [free, holder]
    simp [ne.symm]
  · simp [ne.symm]

/-- A lane without a holder is granted to the damper. -/
theorem Ddr.But.takeLane (h : w.ddr.But present laid d none waiting) (free : (w.lane l).state = .free) :
    (w.putLane l { w.lane l with state := .busy, holder := some d }).ddr.But present laid d (some l) waiting := by
  obtain ⟨there, busy, recovery⟩ := h.lanes l
  have noHolder : (w.lane l).holder = none :=
    Option.not_isSome_iff_eq_none.mp fun holder => absurd (free.symm.trans (busy.mpr holder)) (by decide)
  have stopped : (w.lane l).recovery.isSome = false :=
    Bool.eq_false_iff.mpr fun runs => absurd (free.symm.trans (recovery runs)) (by decide)
  have laidOut : laid l ≠ false := fun h => absurd (free.symm.trans (there.mpr h)) (by decide)
  refine h.putLane (fun _ _ => rfl) (by simp [laidOut]) ⟨by simp, by simp [stopped]⟩ (fun e ne => ?_) (by simp) fun m ne => ?_
  · simp [noHolder, ne.symm]
  · simp [ne.symm]

theorem Ddr.But.not_busy (h : w.ddr.But present laid d lane waiting) (idle : (w.lane l).state ≠ .busy) :
    (w.lane l).holder = none := by
  obtain ⟨-, busy, -⟩ := h.lanes l
  exact Option.not_isSome_iff_eq_none.mp fun holder => idle (busy.mpr holder)

/-- R103: the lane that the damper holds, if it holds one, becomes FREE. -/
theorem Ddr.But.freeLaneOf (h : w.ddr.But present laid d lane waiting) (held : (w.damper d).lane = lane) :
    (w.freeLaneOf d).ddr.But present laid d none waiting := by
  cases lane with
  | none =>
    rw [Work.freeLaneOf_none held]
    exact h
  | some l =>
    rw [Work.freeLaneOf_some held]
    obtain ⟨there, busy, recovery⟩ := h.lanes l
    have isBusy : (w.lane l).state = .busy := busy.mpr (Option.isSome_of_mem ((h.own l).mp rfl))
    have laidOut : laid l ≠ false := fun h => absurd (isBusy.symm.trans (there.mpr h)) (by decide)
    exact h.dropLane (fun _ _ => rfl) (by simp [laidOut]) (by simp) rfl fun runs =>
      absurd (isBusy.symm.trans (recovery runs)) (by decide)

/-- The order of the damper leaves the queue. -/
theorem Ddr.But.unqueue (h : w.ddr.But present laid d lane waiting) :
    (w.unqueue d).ddr.But present laid d lane none where
  others e ne := by
    have same : (w.unqueue d).ddr.queuedOrder e = w.ddr.queuedOrder e := by
      simp only [Ddr.queuedOrder, Work.unqueue, Work.putQueue, List.find?_filter]
      refine congrArg (fun p => List.find? p _) (funext fun o => ?_)
      by_cases damper : o.damper = e
      · simp [damper, ne]
      · simp [damper]
    rw [same]
    exact h.others e ne
  lanes := h.lanes
  holds := h.holds
  own := h.own
  once := h.once.sublist (List.filter_sublist.map _)
  sorted := h.sorted.sublist List.filter_sublist
  fits o mem := h.fits o (List.mem_filter.mp mem).1
  order := queuedOrder_eq_none.mpr fun o mem => by simpa using (List.mem_filter.mp mem).2

/-- An order of the damper enters the queue. -/
theorem Ddr.But.enqueue {o : QueuedOrder} (h : w.ddr.But present laid o.damper lane none) :
    (w.enqueue o).ddr.But present laid o.damper lane (some o) where
  others e ne := by
    have same : (w.enqueue o).ddr.queuedOrder e = w.ddr.queuedOrder e :=
      find?_insertOrder_other (by simpa using ne.symm) _
    rw [same]
    exact h.others e ne
  lanes := h.lanes
  holds := h.holds
  own := h.own
  once := by
    refine ((insertOrder_perm o w.ddr.queue).map _).nodup_iff.mpr (List.nodup_cons.mpr ⟨fun mem => ?_, h.once⟩)
    obtain ⟨x, mem, same⟩ := List.mem_map.mp mem
    exact queuedOrder_eq_none.mp h.order x mem same
  sorted := insertOrder_sorted h.sorted
  fits x mem ne := by
    rcases mem_insertOrder.mp mem with rfl | mem
    · exact absurd rfl ne
    · exact h.fits x mem ne
  order := find?_insertOrder_self (by simp) h.order

/-- The first order of the queue is taken from it. -/
theorem Ddr.But.dequeue {o : QueuedOrder} {rest : List QueuedOrder} (h : w.ddr.But present laid o.damper lane waiting)
    (queue : w.ddr.queue = o :: rest) : (w.putQueue rest).ddr.But present laid o.damper lane none where
  others e ne := by
    have same : (w.putQueue rest).ddr.queuedOrder e = w.ddr.queuedOrder e := by
      simp only [Ddr.queuedOrder, Work.putQueue, queue]
      rw [List.find?_cons_of_neg (by simpa using ne.symm)]
    rw [same]
    exact h.others e ne
  lanes := h.lanes
  holds := h.holds
  own := h.own
  once := by
    have once := h.once
    rw [queue] at once
    exact (List.nodup_cons.mp once).2
  sorted := by
    have sorted := h.sorted
    rw [queue] at sorted
    exact (List.pairwise_cons.mp sorted).2
  fits x mem := h.fits x (queue ▸ .tail o mem)
  order := by
    have once := h.once
    rw [queue] at once
    refine queuedOrder_eq_none.mpr fun x mem same => (List.nodup_cons.mp once).1 ?_
    exact List.mem_map.mpr ⟨x, mem, same⟩

/-- The rest of a work that the law does not speak of. -/
theorem Ddr.But.congr {r : Ddr} (h : w.ddr.But present laid d lane waiting) (dampers : r.dampers = w.ddr.dampers)
    (lanes : r.lanes = w.ddr.lanes) (queue : r.queue = w.ddr.queue) : r.But present laid d lane waiting := by
  obtain ⟨ds, ls, q, n⟩ := r
  cases dampers
  cases lanes
  cases queue
  exact ⟨h.others, h.lanes, h.holds, h.own, h.once, h.sorted, h.fits, h.order⟩

end But

end Sys2Proof.Machine

/-! ### Each event at DDR keeps the law of the drive, up to the grant -/

namespace Sys2Proof.Machine

section Weak

variable {w : Work} {present : DamperIx → Bool} {laid : LaneIx → Bool} {d : DamperIx} {lane : Option LaneIx}
  {waiting : Option QueuedOrder} {l : LaneIx}

theorem Ddr.Weak.lawful (h : w.ddr.Weak present laid) (d : DamperIx) :
    (w.damper d).Lawful (w.ddr.queuedOrder d).isSome := (h.dampers d).2

theorem Ddr.Weak.absent_iff (h : w.ddr.Weak present laid) (d : DamperIx) :
    (w.damper d).state = .absent ↔ present d = false := (h.dampers d).1

theorem Ddr.Weak.there (h : w.ddr.Weak present laid) (ne : (w.damper d).state ≠ .absent) : present d = true :=
  Bool.eq_true_of_not_eq_false fun gone => ne ((h.absent_iff d).mpr gone)

theorem Ddr.Weak.unqueued (h : w.ddr.Weak present laid) (ne : (w.damper d).state ≠ .waiting) :
    w.ddr.queuedOrder d = none := by
  obtain ⟨waits, -⟩ := (Damper.lawful_iff _ _).mp (h.lawful d)
  exact Option.not_isSome_iff_eq_none.mp fun queued => ne (waits.mpr queued)

theorem Ddr.Weak.fitting (h : w.ddr.Weak present laid) {o : QueuedOrder} (queued : w.ddr.queuedOrder d = some o) :
    (w.damper d).Fits o := by
  obtain ⟨mem, rfl⟩ := queuedOrder_eq_some queued
  exact h.fits o mem

/-- A damper record replaced, its lane and its order as they stood. -/
theorem Ddr.Weak.putDamper (h : w.ddr.Weak present laid) {c : Damper} (lane : c.lane = (w.damper d).lane)
    (absent : c.state = .absent ↔ (w.damper d).state = .absent) (lawful : c.Lawful (w.ddr.queuedOrder d).isSome)
    (fits : ∀ o ∈ w.ddr.queuedOrder d, c.Fits o) : (w.putDamper d c).ddr.Weak present laid := by
  refine ((h.open d).putDamper c).close ?_ ?_ ?_ ?_
  · rwa [Work.damper_putDamper]
  · rw [Work.damper_putDamper, absent]
    exact h.absent_iff d
  · rwa [Work.damper_putDamper]
  · rwa [Work.damper_putDamper]

theorem Ddr.Weak.congr {r : Ddr} (h : w.ddr.Weak present laid) (dampers : r.dampers = w.ddr.dampers)
    (lanes : r.lanes = w.ddr.lanes) (queue : r.queue = w.ddr.queue) : r.Weak present laid := by
  obtain ⟨ds, ls, q, n⟩ := r
  cases dampers
  cases lanes
  cases queue
  exact ⟨h.dampers, h.lanes, h.holds, h.once, h.sorted, h.fits⟩

/-- A lane record replaced, its holder as it stood. -/
theorem Ddr.Weak.putLane {laid' : LaneIx → Bool} {r : Lane} (h : w.ddr.Weak present laid)
    (agree : ∀ m, m ≠ l → laid' m = laid m) (there : r.state = .absent ↔ laid' l = false)
    (holder : r.holder = (w.lane l).holder) (lawful : r.Lawful) : (w.putLane l r).ddr.Weak present laid' := by
  refine ((h.open 0).putLane agree there lawful (fun e _ => by rw [holder]) ?_ fun _ _ => .rfl).close rfl (h.absent_iff 0)
    (h.lawful 0) fun o mem => h.fitting mem
  rw [holder]
  exact h.holds 0 l

theorem Work.dampers_advanceSeq (w : Work) : w.advanceSeq.ddr.dampers = w.ddr.dampers := by
  unfold Work.advanceSeq
  split <;> rfl

theorem Work.lanes_advanceSeq (w : Work) : w.advanceSeq.ddr.lanes = w.ddr.lanes := by
  unfold Work.advanceSeq
  split <;> rfl

theorem Work.queue_advanceSeq (w : Work) : w.advanceSeq.ddr.queue = w.ddr.queue := by
  unfold Work.advanceSeq
  split <;> rfl

theorem Ddr.But.enqueueNew (h : w.ddr.But present laid d lane none) (g : Goal) (k : OrderClass) (src : OrderSource) :
    (w.enqueueNew d g k src).ddr.But present laid d lane (some ⟨d, g, k, src, w.ddr.seq⟩) :=
  (Ddr.But.enqueue (o := ⟨d, g, k, src, w.ddr.seq⟩) h).congr (Work.dampers_advanceSeq _) (Work.lanes_advanceSeq _)
    (Work.queue_advanceSeq _)

/-- A damper record put back into the drive. -/
theorem Ddr.But.settle (h : w.ddr.But present laid d lane waiting) {c : Damper} (held : c.lane = lane)
    (absent : c.state = .absent ↔ present d = false) (lawful : c.Lawful waiting.isSome)
    (fits : ∀ o ∈ waiting, c.Fits o) : (w.putDamper d c).ddr.Weak present laid := by
  refine (h.putDamper c).close ?_ ?_ ?_ ?_
  · rwa [Work.damper_putDamper]
  · rwa [Work.damper_putDamper]
  · rwa [Work.damper_putDamper]
  · rwa [Work.damper_putDamper]

/-! #### Arrivals and reversals -/

theorem Damper.arrived_lawful {c : Damper} (now : Time) (position : c.position.isSome = true) (kept : c.deferred = none) :
    (c.arrived now).Lawful false := by
  unfold Damper.arrived
  split <;> simp [Damper.Lawful, position, kept]

theorem Damper.arrived_lane (c : Damper) (now : Time) : (c.arrived now).lane = none := by
  unfold Damper.arrived
  split <;> rfl

theorem Damper.arrived_there (c : Damper) (now : Time) : (c.arrived now).state ≠ .absent := by
  unfold Damper.arrived
  split <;> simp

theorem Ddr.But.arrive (h : w.ddr.But present laid d lane none) (held : (w.damper d).lane = lane)
    (there : present d = true) (rests : (w.damper d).state ≠ .idle) (kept : (w.damper d).deferred = none)
    (position : (w.damper d).position.isSome = true) : (w.arrive d).ddr.Weak present laid := by
  obtain ⟨same, -⟩ := w.arrive_like d rests kept
  rw [same]
  exact (h.freeLaneOf held).settle (Damper.arrived_lane _ _) (by simp [Damper.arrived_there, there])
    (Damper.arrived_lawful _ position kept) (by simp)

theorem Ddr.But.continueMove (h : w.ddr.But present laid d lane none) (held : (w.damper d).lane = lane)
    (there : present d = true) (holds : (w.damper d).lane.isSome = true) (order : (w.damper d).order.isSome = true)
    (position : (w.damper d).position.isSome = true) (target : (w.damper d).target.isSome = true)
    (kept : (w.damper d).deferred = none) : (w.continueMove d).ddr.Weak present
      laid := by
  subst held
  simp only [Work.continueMove]
  split
  · exact (h.freeLaneOf rfl).settle rfl (by simp [there]) (by simp [Damper.Lawful, *]) (by simp)
  · exact h.settle rfl (by simp [there]) (by simp [Damper.Lawful, *]) (by simp)

theorem Ddr.But.reverse (t : Nat) (h : w.ddr.But present laid d lane none) (held : (w.damper d).lane = lane)
    (there : present d = true) (holds : (w.damper d).lane.isSome = true) (order : (w.damper d).order.isSome = true)
    (position : (w.damper d).position.isSome = true) (kept : (w.damper d).deferred = none) :
    (w.reverse d t).ddr.Weak present laid := by
  subst held
  simp only [Work.reverse]
  split
  · refine (h.putDamper _).continueMove ?_ there ?_ ?_ ?_ ?_ ?_ <;> simp [*]
  · have held : (w.damper d).lane ≠ none := Option.isSome_iff_ne_none.mp holds
    exact h.settle rfl (by simp [there]) (by simp [Damper.Lawful, *]) (by simp)

theorem Ddr.But.arriveChecked (h : w.ddr.But present laid d lane none) (held : (w.damper d).lane = lane)
    (there : present d = true) (moving : (w.damper d).state = .moving) (holds : (w.damper d).lane.isSome = true)
    (order : (w.damper d).order.isSome = true) (kept : (w.damper d).deferred = none)
    (settles : (w.damper d).settle = none) (position : (w.damper d).position.isSome = true)
    (target : (w.damper d).target.isSome = true) : (w.arriveChecked d).ddr.Weak present laid := by
  subst held
  simp only [Work.arriveChecked]
  split
  · exact h.settle rfl (by simp [moving, there]) (by simp [Damper.Lawful, *]) (by simp)
  · exact h.arrive rfl there (by simp [moving]) kept position

theorem Ddr.But.homeFound (h : w.ddr.But present laid d lane none) (held : (w.damper d).lane = lane)
    (there : present d = true) (homing : (w.damper d).state = .homing) (holds : (w.damper d).lane.isSome = true)
    (order : (w.damper d).order.isSome = true) (kept : (w.damper d).deferred = none) :
    (w.homeFound d).ddr.Weak present laid := by
  subst held
  simp only [Work.homeFound]
  split
  · refine (h.putDamper _).arrive ?_ there ?_ ?_ ?_ <;> simp [homing, kept]
  · refine (h.putDamper _).reverse _ ?_ there ?_ ?_ ?_ ?_ <;> simp [*]

theorem Ddr.But.jam (h : w.ddr.But present laid d lane none) (held : (w.damper d).lane = lane) (there : present d = true) :
    (w.jam d).ddr.Weak present laid :=
  (h.freeLaneOf held).settle rfl (by simp [there]) (by simp [Damper.Lawful]) (by simp)

/-! #### Orders -/

theorem Ddr.Weak.takeIdle (h : w.ddr.Weak present laid) (idle : (w.damper d).state = .idle) (t : Nat) (k : OrderClass)
    (src : OrderSource) : (w.takeIdle d t k src).ddr.Weak present laid := by
  have there := h.there (d := d) (by simp [idle])
  have unqueued := h.unqueued (d := d) (by simp [idle])
  have lawful := h.lawful d
  simp only [Damper.Lawful, idle] at lawful
  obtain ⟨-, lane, due, settle, deferred, position, target⟩ := lawful
  simp only [Work.takeIdle]
  split
  · exact h
  · split
    · exact h.putDamper rfl .rfl (by simpa [Damper.Lawful, idle] using h.lawful d) (by simp [unqueued])
    · have apart := h.open d
      rw [unqueued, lane] at apart
      exact (apart.enqueueNew _ _ _).settle lane (by simp [there]) (by simp [Damper.Lawful, *])
        (by simp [Damper.Fits, position])

theorem Ddr.Weak.takeUnhomed (h : w.ddr.Weak present laid) (unhomed : (w.damper d).state = .unhomed) (t : Nat)
    (k : OrderClass) (src : OrderSource) : (w.takeUnhomed d t k src).ddr.Weak present laid := by
  have lawful := h.lawful d
  simp only [Damper.Lawful, unhomed] at lawful
  obtain ⟨-, lane, due, settle, deferred, -⟩ := lawful
  have apart := h.open d
  rw [h.unqueued (by simp [unhomed]), lane] at apart
  exact (apart.enqueueNew _ _ _).settle lane (by simp [h.there (d := d) (by simp [unhomed])])
    (by simp [Damper.Lawful, *]) (by simp [Damper.Fits, Goal.isHome])

theorem Work.requeue_ddr_but (h : w.ddr.But present laid d lane waiting) {o : QueuedOrder} (same : o.damper = d) :
    (w.requeue o).ddr.But present laid d lane (some o) := by
  subst same
  exact h.unqueue.enqueue

theorem Ddr.Weak.takeWaiting (h : w.ddr.Weak present laid) (waits : (w.damper d).state = .waiting) (t : Nat)
    (k : OrderClass) (src : OrderSource) : (w.takeWaiting d t k src).ddr.Weak present laid := by
  have there := h.there (d := d) (by simp [waits])
  have lawful := h.lawful d
  simp only [Damper.Lawful, waits] at lawful
  obtain ⟨-, lane, due, settle, deferred⟩ := lawful
  cases queued : w.ddr.queuedOrder d with
  | none =>
    simp only [Work.takeWaiting, queued]
    exact h
  | some o =>
    obtain ⟨-, same⟩ := queuedOrder_eq_some queued
    have fits := h.fitting queued
    cases goal : o.goal with
    | home p =>
      simp only [Work.takeWaiting, queued, goal]
      exact (Work.requeue_ddr_but (h.open d) (by exact same)).settle rfl (by simp [waits, there]) (by simp [Damper.Lawful, *])
        (by simp [Damper.Fits, Goal.isHome])
    | move n =>
      have position : (w.damper d).position.isSome = true := by simpa [Damper.Fits, Goal.isHome, goal] using fits
      simp only [Work.takeWaiting, queued, goal]
      split
      · exact (h.open d).unqueue.settle rfl (by simp [there]) (by simp [Damper.Lawful, *]) (by simp)
      · exact (Work.requeue_ddr_but (h.open d) (by exact same)).settle rfl (by simp [waits, there]) (by simp [Damper.Lawful, *])
          (by simp [Damper.Fits, position])

/-- The record of a damper as an order leaves its order in hand (R100). -/
theorem Ddr.Weak.takeMoving (h : w.ddr.Weak present laid) (moving : (w.damper d).state = .moving) (t : Nat)
    (k : OrderClass) (src : OrderSource) : (w.takeMoving d t k src).ddr.Weak present laid := by
  have there := h.there (d := d) (by simp [moving])
  have unqueued := h.unqueued (d := d) (by simp [moving])
  have lawful := h.lawful d
  simp only [Damper.Lawful, moving] at lawful
  obtain ⟨-, lane, order, due, settle, deferred, position, target⟩ := lawful
  have apart := h.open d
  rw [unqueued] at apart
  simp only [Work.takeMoving]
  split
  · exact apart.settle rfl (by simp [moving, there]) (by simp [Damper.Lawful, *]) (by simp)
  · split
    · refine (apart.putDamper _).arriveChecked ?_ there ?_ ?_ ?_ ?_ ?_ ?_ ?_ <;> simp [*]
    · split
      · exact apart.settle rfl (by simp [moving, there]) (by simp [Damper.Lawful, *]) (by simp)
      · refine (apart.putDamper _).reverse _ ?_ there ?_ ?_ ?_ ?_ <;> simp [*]

theorem Ddr.Weak.takeHoming (h : w.ddr.Weak present laid) (homing : (w.damper d).state = .homing) (t : Nat)
    (k : OrderClass) (src : OrderSource) : (w.takeHoming d t k src).ddr.Weak present laid := by
  have lawful := h.lawful d
  refine h.putDamper rfl .rfl ?_ (by simp [h.unqueued (d := d) (by simp [homing])])
  simpa [Damper.Lawful, homing] using lawful

theorem Ddr.Weak.takeSettling (h : w.ddr.Weak present laid) (settling : (w.damper d).state = .settling) (t : Nat)
    (k : OrderClass) (src : OrderSource) : (w.takeSettling d t k src).ddr.Weak present laid := by
  have lawful := h.lawful d
  have unqueued := h.unqueued (d := d) (by simp [settling])
  simp only [Damper.Lawful, settling] at lawful
  simp only [Work.takeSettling]
  split
  · next none =>
    have lane := Option.isNone_iff_eq_none.mp none
    refine h.putDamper rfl .rfl ?_ (by simp [unqueued])
    simp_all [Damper.Lawful]
  · next held =>
    have lane : (w.damper d).lane ≠ none := by simpa using held
    refine h.putDamper rfl .rfl ?_ (by simp [unqueued])
    simp_all [Damper.Lawful]

/-- A damper whose last result alone is replaced. -/
theorem Ddr.Weak.putLast (h : w.ddr.Weak present laid) (r : LastResult) :
    (w.putDamper d { w.damper d with last := r }).ddr.Weak present laid :=
  h.putDamper rfl .rfl (h.lawful d) fun _ => h.fitting

/-! #### Steps and settles -/

theorem Ddr.But.pulse (h : w.ddr.But present laid d lane waiting) (held : (w.damper d).lane = lane) :
    (w.pulse d).ddr.But present laid d lane waiting := by
  cases lane with
  | none => simpa only [Work.pulse, held] using h
  | some l =>
    simp only [Work.pulse, held]
    obtain ⟨there, lawful⟩ := h.lanes l
    exact h.putLane (fun _ _ => rfl) there lawful (fun _ _ => .rfl) (h.own l) fun _ _ => .rfl

@[simp] theorem Work.damper_pulse (w : Work) (d e : DamperIx) : (w.pulse d).damper e = w.damper e := by
  unfold Work.pulse
  split <;> rfl

theorem Ddr.But.searchStep (h : w.ddr.But present laid d lane none) (held : (w.damper d).lane = lane)
    (there : present d = true) (lawful : (w.damper d).Lawful false)
    (searches : (w.damper d).state = .homing ∨ (w.damper d).state = .moving) (limit : Nat) :
    (w.searchStep d limit).ddr.Weak present laid := by
  subst held
  simp only [Work.searchStep]
  split
  · exact h.jam rfl there
  · refine h.settle rfl ?_ ?_ (by simp)
    · rcases searches with state | state <;> simp [state, there]
    · rcases searches with state | state <;> simpa [Damper.Lawful, state] using by
        simp only [Damper.Lawful, state] at lawful
        simp [lawful]

theorem Ddr.But.moveStep (h : w.ddr.But present laid d lane none) (held : (w.damper d).lane = lane)
    (there : present d = true) (lawful : (w.damper d).Lawful false) (moving : (w.damper d).state = .moving) :
    (w.moveStep d).ddr.Weak present laid := by
  subst held
  simp only [Damper.Lawful, moving] at lawful
  obtain ⟨-, lane, order, due, settle, deferred, position, target⟩ := lawful
  simp only [Work.moveStep]
  generalize (if (w.damper d).stepsUp = true then (w.damper d).position.getD 0 + 1
    else (w.damper d).position.getD 0 - 1) = pos
  split
  · refine (h.putDamper _).arriveChecked ?_ there ?_ ?_ ?_ ?_ ?_ ?_ ?_ <;> simp [*]
  · exact h.settle rfl (by simp [moving, there]) (by simp [Damper.Lawful, *]) (by simp)

theorem Ddr.Weak.settled (h : w.ddr.Weak present laid) (settling : (w.damper d).state = .settling)
    (released : (w.damper d).lane = none) : (w.settled d).ddr.Weak present laid := by
  have there := h.there (d := d) (by simp [settling])
  have lawful := h.lawful d
  simp only [Damper.Lawful, settling] at lawful
  obtain ⟨-, due, settle, position, target, arrived, -⟩ := lawful
  have apart := h.open d
  rw [h.unqueued (by simp [settling])] at apart
  have rested : (w.putDamper d
      { w.damper d with state := .idle, settle := none, order := none, last := .done, deferred := none }).ddr.Weak
      present laid :=
    apart.settle rfl (by simp [there]) (by simp [Damper.Lawful, *]) (by simp)
  simp only [Work.settled]
  split
  · exact rested
  · exact rested.takeIdle (by rw [Work.damper_putDamper]) _ _ _

theorem Ddr.Weak.continueMove (h : w.ddr.Weak present laid) (settling : (w.damper d).state = .settling)
    (holds : (w.damper d).lane.isSome = true) : (w.continueMove d).ddr.Weak present laid := by
  have there := h.there (d := d) (by simp [settling])
  have lawful := h.lawful d
  simp only [Damper.Lawful, settling] at lawful
  obtain ⟨-, due, settle, position, target, -, held⟩ := lawful
  obtain ⟨order, deferred⟩ := held holds
  have apart := h.open d
  rw [h.unqueued (by simp [settling])] at apart
  exact apart.continueMove rfl there holds order position target deferred

/-! #### HOME -/

@[simp] theorem Work.damper_addSlip (w : Work) (d : DamperIx) (n : Nat) :
    (w.addSlip d n).damper d = { w.damper d with slip := min 65535 ((w.damper d).slip + n) } := by
  simp only [Work.addSlip]
  split
  · exact w.damper_putDamper d _
  · exact w.damper_putDamper d _

theorem Ddr.But.addSlip (h : w.ddr.But present laid d lane waiting) (n : Nat) :
    (w.addSlip d n).ddr.But present laid d lane waiting := by
  simp only [Work.addSlip]
  split
  · exact h.putDamper _
  · exact h.putDamper _

theorem Ddr.But.overtravelFound (h : w.ddr.But present laid d lane none) (held : (w.damper d).lane = lane)
    (there : present d = true) (lawful : (w.damper d).Lawful false) (moving : (w.damper d).state = .moving) :
    (w.overtravelFound d).ddr.Weak present laid := by
  subst held
  simp only [Damper.Lawful, moving] at lawful
  obtain ⟨-, lane, order, due, settle, deferred, position, target⟩ := lawful
  simp only [Work.overtravelFound]
  split
  · refine ((h.addSlip _).putDamper _).arrive ?_ there ?_ ?_ ?_ <;> simp [moving, deferred, position]
  · refine ((h.addSlip _).putDamper _).reverse _ ?_ there ?_ ?_ ?_ ?_ <;> simp [*]

theorem Ddr.But.slipJudge (h : w.ddr.But present laid d lane none) (held : (w.damper d).lane = lane)
    (there : present d = true) (lawful : (w.damper d).Lawful false) (moving : (w.damper d).state = .moving) :
    (w.slipJudge d).ddr.Weak present laid := by
  subst held
  have parts := lawful
  simp only [Damper.Lawful, moving] at parts
  obtain ⟨-, lane, order, due, settle, deferred, position, target⟩ := parts
  have slipped := fun p => (h.putDamper { w.damper d with position := some p }).addSlip
  simp only [Work.slipJudge]
  split
  · exact h.close rfl (by simp [moving, there]) lawful (by simp)
  · split
    · refine (slipped _ _).arrive ?_ there ?_ ?_ ?_ <;> simp [moving, deferred]
    · split
      · refine (slipped _ _).close ?_ ?_ ?_ (by simp) <;> simp [Damper.Lawful, *]
      · refine (slipped _ _).reverse _ ?_ there ?_ ?_ ?_ ?_ <;> simp [*]
/-! #### Lanes that are lost -/

/-- A work without the damper that holds a lane: its holder stops, and the lane is no longer BUSY (R108, R112). -/
theorem Ddr.Weak.loseLane {laid' : LaneIx → Bool} (h : w.ddr.Weak present laid) {r : Lane}
    (agree : ∀ m, m ≠ l → laid' m = laid m) (there : r.state = .absent ↔ laid' l = false) (idle : r.state ≠ .busy)
    (free : r.holder = none) (recovery : r.recovery.isSome = true → r.state = .out) :
    ((w.stopHolderOf l).putLane l r).ddr.Weak present laid' := by
  unfold Work.stopHolderOf
  cases holder : (w.lane l).holder with
  | none =>
    exact h.putLane agree there (free.trans holder.symm) ⟨by simp [idle, free], recovery⟩
  | some d =>
    have held : (w.damper d).lane = some l := (h.holds d l).mpr holder
    obtain ⟨waits, -, works, hasOrder, -, -, placed, -, deferred, -⟩ := (Damper.lawful_iff _ _).mp (h.lawful d)
    have works := works l held
    have there_d := h.there (d := d) (by rcases works with state | state | state <;> simp [state])
    have apart := h.open d
    rw [h.unqueued (d := d) (by rcases works with state | state | state <;> simp [state]), held] at apart
    have kept : (w.damper d).deferred = none :=
      Option.not_isSome_iff_eq_none.mp fun some => by simp [held] at deferred; simp [deferred] at some
    obtain ⟨o, order⟩ := Option.isSome_iff_exists.mp (hasOrder (by simp [held]))
    have dropped := apart.dropLane agree there idle free recovery
    simp only [Work.stopHolder, order]
    refine Ddr.Weak.congr (w := ((w.putLane l r).enqueue _).putDamper d _) ?_ rfl rfl rfl
    refine (Ddr.But.enqueue dropped).settle rfl (by simp [there_d]) (by simp [Damper.Lawful, kept]) ?_
    rintro _ ⟨⟩
    rcases works with state | state | state <;> simp [Damper.Fits, Goal.isHome, state]
    · cases (w.damper d).overtravel <;> simp [placed, state]
    · cases (w.damper d).overtravel <;> simp [placed, state]

theorem Ddr.Weak.laneFault (h : w.ddr.Weak present laid) (there : (w.lane l).state ≠ .absent) :
    (w.laneFault l).ddr.Weak present laid := by
  have laidOut : laid l ≠ false := fun gone => there ((h.lanes l).1.mpr gone)
  refine h.loseLane (fun _ _ => rfl) ?_ ?_ rfl ?_
  · dsimp only
    split <;> simp [laidOut]
  · dsimp only
    split <;> simp
  · simp
theorem Ddr.Weak.laneLawful (h : w.ddr.Weak present laid) (l : LaneIx) :
    ((w.lane l).state = .busy ↔ (w.lane l).holder.isSome = true) ∧
      ((w.lane l).recovery.isSome = true → (w.lane l).state = .out) := (h.lanes l).2

theorem Ddr.Weak.not_busy (h : w.ddr.Weak present laid) (idle : (w.lane l).state ≠ .busy) :
    (w.lane l).holder = none := (h.open 0).not_busy idle

/-- A lane record replaced, its state, its holder and its recovery as they stood. -/
theorem Ddr.Weak.touchLane {r : Lane} (h : w.ddr.Weak present laid) (state : r.state = (w.lane l).state)
    (holder : r.holder = (w.lane l).holder) (recovery : r.recovery = (w.lane l).recovery) :
    (w.putLane l r).ddr.Weak present laid := by
  refine h.putLane (fun _ _ => rfl) ?_ holder ?_
  · rw [state]
    exact (h.lanes l).1
  · rw [Lane.Lawful, state, holder, recovery]
    exact h.laneLawful l

/-- A lane without a damper, its state replaced by another one without. -/
theorem Ddr.Weak.idleLane {laid' : LaneIx → Bool} {r : Lane} (h : w.ddr.Weak present laid)
    (agree : ∀ m, m ≠ l → laid' m = laid m) (there : r.state = .absent ↔ laid' l = false)
    (wasIdle : (w.lane l).state ≠ .busy) (idle : r.state ≠ .busy) (free : r.holder = none)
    (recovery : r.recovery.isSome = true → r.state = .out) : (w.putLane l r).ddr.Weak present laid' :=
  h.putLane agree there (free.trans (h.not_busy wasIdle).symm) ⟨by simp [idle, free], recovery⟩

theorem Ddr.Weak.laneLaid (h : w.ddr.Weak present laid) (there : (w.lane l).state ≠ .absent) : laid l = true :=
  Bool.eq_true_of_not_eq_false fun gone => there ((h.lanes l).1.mpr gone)

/-! #### Presence -/

theorem Ddr.But.rebound {present' : DamperIx → Bool} (h : w.ddr.But present laid d lane waiting)
    (agree : ∀ e, e ≠ d → present' e = present e) : w.ddr.But present' laid d lane waiting where
  others e ne := by
    rw [agree e ne]
    exact h.others e ne
  lanes := h.lanes
  holds := h.holds
  own := h.own
  once := h.once
  sorted := h.sorted
  fits := h.fits
  order := h.order

theorem Ddr.Weak.damperPresent {present' : DamperIx → Bool} (h : w.ddr.Weak present laid)
    (absent : (w.damper d).state = .absent) (agree : ∀ e, e ≠ d → present' e = present e) (bound : present' d = true) :
    (w.damperPresent d).ddr.Weak present' laid := by
  have lawful := h.lawful d
  simp only [Damper.Lawful, absent] at lawful
  obtain ⟨-, lane, due, settle, deferred, -⟩ := lawful
  have apart := h.open d
  rw [h.unqueued (by simp [absent])] at apart
  refine (apart.rebound agree).settle rfl ?_ ?_ (by simp)
  · dsimp only
    split <;> simp [bound]
  · cases jam : (w.damper d).jam <;> simp [Damper.Lawful, *]

theorem Ddr.Weak.damperGone {present' : DamperIx → Bool} (h : w.ddr.Weak present laid)
    (agree : ∀ e, e ≠ d → present' e = present e) (unbound : present' d = false) (c : Damper) (state : c.state = .absent)
    (bare : c.lane = none ∧ c.stepDue = none ∧ c.settle = none ∧ c.deferred = none ∧ c.position = none) :
    (((w.freeLaneOf d).unqueue d).putDamper d c).ddr.Weak present' laid := by
  obtain ⟨lane, due, settle, deferred, position⟩ := bare
  exact (((h.open d).freeLaneOf rfl).unqueue.rebound agree).settle lane (by simp [state, unbound])
    (by simp [Damper.Lawful, *]) (by simp)

/-! #### Requests -/

theorem Ddr.But.queueRehome (h : w.ddr.But present laid d none none) (there : present d = true) (pending : Option Nat) :
    (w.queueRehome d pending).ddr.Weak present laid :=
  (h.enqueueNew _ _ _).settle rfl (by simp [there]) (by simp [Damper.Lawful]) (by simp [Damper.Fits, Goal.isHome])

theorem Damper.settleSettings_lawful {c : Damper} {queued : Bool} (lawful : c.Lawful queued) (set : DamperSettings) :
    (c.settleSettings set).Lawful queued := by
  unfold Damper.settleSettings
  split
  · next h =>
    obtain ⟨idle, -⟩ := h
    simp only [Damper.Lawful, idle] at lawful
    obtain ⟨queued, lane, due, settle, deferred, -⟩ := lawful
    simp [Damper.Lawful, *]
  · exact lawful

theorem Damper.settleSettings_lane (c : Damper) (set : DamperSettings) : (c.settleSettings set).lane = c.lane := by
  unfold Damper.settleSettings
  split <;> rfl

theorem Damper.settleSettings_absent_iff (c : Damper) (set : DamperSettings) :
    (c.settleSettings set).state = .absent ↔ c.state = .absent := by
  unfold Damper.settleSettings
  split
  · next h => simp [h.1]
  · exact .rfl

theorem Damper.settleSettings_position {c : Damper} (busy : c.state ≠ .idle) (set : DamperSettings) :
    (c.settleSettings set).position = c.position := by
  rw [Damper.settleSettings, if_neg fun h => busy h.1]

theorem Ddr.Weak.settleSettings (h : w.ddr.Weak present laid) (set : DamperSettings) :
    (w.putDamper d ((w.damper d).settleSettings set)).ddr.Weak present laid := by
  refine h.putDamper (Damper.settleSettings_lane _ _) (Damper.settleSettings_absent_iff _ _)
    (Damper.settleSettings_lawful (h.lawful d) set) fun o mem => ?_
  have waits : (w.damper d).state = .waiting := by
    by_contra other
    simp [h.unqueued other] at mem
  rw [Damper.Fits, Damper.settleSettings_position (by simp [waits])]
  exact h.fitting mem

theorem Ddr.Weak.startHoming (h : w.ddr.Weak present laid) (d : DamperIx) : (w.startHoming d).ddr.Weak present laid := by
  cases state : (w.damper d).state with
  | unhomed =>
    simp only [Work.startHoming, state]
    have lawful := h.lawful d
    simp only [Damper.Lawful, state] at lawful
    obtain ⟨-, lane, due, settle, deferred, -⟩ := lawful
    have apart := h.open d
    rw [h.unqueued (by simp [state])] at apart
    exact (apart.enqueueNew _ _ _).settle rfl (by simp [h.there (d := d) (by simp [state])]) (by simp [Damper.Lawful, *])
      (by simp [Damper.Fits, Goal.isHome])
  | waiting =>
    cases queued : w.ddr.queuedOrder d with
    | none =>
      simp only [Work.startHoming, state, queued]
      exact h
    | some o =>
      obtain ⟨-, same⟩ := queuedOrder_eq_some queued
      cases goal : o.goal with
      | move t =>
        simp only [Work.startHoming, state, queued, goal]
        exact h
      | home p =>
        simp only [Work.startHoming, state, queued, goal]
        split
        · have lawful := h.lawful d
          rw [queued] at lawful
          exact (Work.requeue_ddr_but (h.open d) (by exact same)).close rfl (h.absent_iff d) lawful
            (by simp [Damper.Fits, Goal.isHome])
        · exact h
  | absent | idle | homing | moving | settling | jammed =>
    simp only [Work.startHoming, state]
    exact h

theorem Ddr.Weak.foldl {α : Type} {step : Work → α → Work}
    (keeps : ∀ w a, w.ddr.Weak present laid → (step w a).ddr.Weak present laid) (l : List α) :
    ∀ {w : Work}, w.ddr.Weak present laid → (l.foldl step w).ddr.Weak present laid := by
  induction l with
  | nil => exact fun h => h
  | cons a l ih => exact fun h => ih (keeps _ a h)
/-! #### Leaving RUN, and a link reset -/

/-- The records of several dampers replaced, one after another, each by what its own record and the queue give. -/
theorem foldl_putDamper (g : List QueuedOrder → DamperIx → Damper → Damper) {ds : List DamperIx} (once : ds.Nodup) :
    ∀ w : Work, ∃ v : Vector Damper 8,
      ds.foldl (fun u d => u.putDamper d (g u.ddr.queue d (u.damper d))) w =
        { w with
          ddr := { w.ddr with dampers := v }
          changed := w.changed ++ ds.flatMap fun d =>
            (DriveUnit.damper d).ifMoved (g w.ddr.queue d (w.damper d)).state (w.damper d).state } ∧
      ∀ e : DamperIx, v[e] = if e ∈ ds then g w.ddr.queue e (w.damper e) else w.damper e := by
  induction ds with
  | nil =>
    intro w
    refine ⟨w.ddr.dampers, ?_, fun e => ?_⟩
    · simp
    · simp [Work.damper]
  | cons d ds ih =>
    intro w
    obtain ⟨fresh, once⟩ := List.nodup_cons.mp once
    obtain ⟨v, run, each⟩ := ih once (w.putDamper d (g w.ddr.queue d (w.damper d)))
    have others : ∀ e ∈ ds, (w.putDamper d (g w.ddr.queue d (w.damper d))).damper e = w.damper e :=
      fun e mem => w.damper_putDamper_ne (fun same : e = d => fresh (same ▸ mem)) _
    refine ⟨v, ?_, fun e => ?_⟩
    · rw [List.foldl_cons, run, Work.changed_putDamper, List.flatMap_cons, List.append_assoc]
      have news : (ds.flatMap fun e => (DriveUnit.damper e).ifMoved
          (g (w.putDamper d (g w.ddr.queue d (w.damper d))).ddr.queue e
            ((w.putDamper d (g w.ddr.queue d (w.damper d))).damper e)).state
          ((w.putDamper d (g w.ddr.queue d (w.damper d))).damper e).state) =
          ds.flatMap fun e => (DriveUnit.damper e).ifMoved (g w.ddr.queue e (w.damper e)).state (w.damper e).state :=
        List.flatMap_congr fun e mem => by rw [others e mem]; rfl
      rw [news]
      rfl
    · rw [each e]
      by_cases same : e = d
      · subst same
        simp [fresh]
      · rw [w.damper_putDamper_ne same]
        simp only [List.mem_cons, same, false_or]
        rfl

theorem foldl_putLane (g : Lane → Lane) {ls : List LaneIx} (once : ls.Nodup) :
    ∀ w : Work, ∃ v : Vector Lane 2,
      ls.foldl (fun u l => u.putLane l (g (u.lane l))) w =
        { w with
          ddr := { w.ddr with lanes := v }
          changed := w.changed ++ ls.flatMap fun l => (DriveUnit.lane l).ifMoved (g (w.lane l)).state (w.lane l).state } ∧
      ∀ m : LaneIx, v[m] = if m ∈ ls then g (w.lane m) else w.lane m := by
  induction ls with
  | nil =>
    intro w
    refine ⟨w.ddr.lanes, ?_, fun e => ?_⟩
    · simp
    · simp [Work.lane]
  | cons l ls ih =>
    intro w
    obtain ⟨fresh, once⟩ := List.nodup_cons.mp once
    obtain ⟨v, run, each⟩ := ih once (w.putLane l (g (w.lane l)))
    have others : ∀ m, m ≠ l → (w.putLane l (g (w.lane l))).lane m = w.lane m := fun m ne => w.putLane_getElem_ne ne _
    refine ⟨v, ?_, fun m => ?_⟩
    · rw [List.foldl_cons, run, Work.changed_putLane, List.flatMap_cons, List.append_assoc]
      have news : (ls.flatMap fun m => (DriveUnit.lane m).ifMoved (g ((w.putLane l (g (w.lane l))).lane m)).state
          ((w.putLane l (g (w.lane l))).lane m).state) =
          ls.flatMap fun m => (DriveUnit.lane m).ifMoved (g (w.lane m)).state (w.lane m).state :=
        List.flatMap_congr fun m mem => by rw [others m fun same : m = l => fresh (same ▸ mem)]
      rw [news]
      rfl
    · rw [each m]
      by_cases same : m = l
      · subst same
        simp [fresh]
      · rw [others m same]
        simp only [List.mem_cons, same, false_or]

/-- R119: what leaving RUN leaves of every damper and every lane. -/
theorem Work.leaveRun_eq (w : Work) :
    ∃ (ds : Vector Damper 8) (ls : Vector Lane 2),
      w.leaveRun = { w with
        ddr := { dampers := ds, lanes := ls, queue := [], seq := 0 }
        changed := w.changed ++ (allDampers.flatMap fun d => (DriveUnit.damper d).ifMoved
            ((w.damper d).leave (w.ddr.queuedOrder d)).state (w.damper d).state) ++
          allLanes.flatMap fun l => (DriveUnit.lane l).ifMoved (w.lane l).leave.state (w.lane l).state } ∧
      (∀ d : DamperIx, ds[d] = (w.damper d).leave (w.ddr.queuedOrder d)) ∧ ∀ l : LaneIx, ls[l] = (w.lane l).leave := by
  obtain ⟨ds, run, each⟩ := foldl_putDamper
    (fun q d c => c.leave (q.find? fun o => o.damper = d)) (List.nodup_finRange 8) w
  obtain ⟨ls, runLanes, eachLane⟩ := foldl_putLane Lane.leave (List.nodup_finRange 2)
    (allDampers.foldl (fun v d => v.putDamper d ((v.damper d).leave (v.ddr.queuedOrder d))) w)
  have lane : ∀ l, (allDampers.foldl (fun v d => v.putDamper d ((v.damper d).leave (v.ddr.queuedOrder d))) w).lane l =
      w.lane l := fun l => congrArg (fun u => u.lane l) run
  refine ⟨ds, ls, ?_, fun d => ?_, fun l => ?_⟩
  · rw [Work.leaveRun, show allLanes.foldl _ _ = _ from runLanes]
    simp only [lane]
    rw [show allDampers.foldl (fun v d => v.putDamper d ((v.damper d).leave (v.ddr.queuedOrder d))) w = _ from run]
    rfl
  · rw [each d, if_pos (List.mem_finRange d)]
    rfl
  · rw [eachLane l, if_pos (List.mem_finRange l), lane]

theorem Damper.leave_lawful {c : Damper} {o : Option QueuedOrder} (lawful : c.Lawful o.isSome)
    (fits : ∀ x ∈ o, c.Fits x) : (c.leave o).Lawful false := by
  cases state : c.state <;> simp only [Damper.Lawful, state] at lawful
  case waiting =>
    obtain ⟨queued, -⟩ := lawful
    obtain ⟨x, rfl⟩ := Option.isSome_iff_exists.mp queued
    have fit := fits x rfl
    cases goal : x.goal <;> simp_all [Damper.leave, Damper.cleared, Damper.Lawful, Damper.Fits, Goal.isHome]
  case moving => cases search : c.overtravel <;> simp_all [Damper.leave, Damper.cleared, Damper.Lawful]
  case settling => cases lane : c.lane <;> simp_all [Damper.leave, Damper.cleared, Damper.Lawful]
  all_goals simp_all [Damper.leave, Damper.cleared, Damper.Lawful]

theorem Damper.leave_lane (c : Damper) (o : Option QueuedOrder) : (c.leave o).lane = none := by
  cases state : c.state <;> simp only [Damper.leave, state]
  case waiting =>
    cases o with
    | none => rfl
    | some x => cases goal : x.goal <;> simp [goal, Damper.cleared]
  case moving => split <;> rfl
  case settling => split <;> rfl
  all_goals rfl

theorem Damper.leave_absent_iff (c : Damper) (o : Option QueuedOrder) :
    (c.leave o).state = .absent ↔ c.state = .absent := by
  cases state : c.state <;> simp only [Damper.leave, state]
  case waiting =>
    cases o with
    | none => simp [Damper.cleared, state]
    | some x => cases goal : x.goal <;> simp [goal]
  case moving => split <;> simp
  case settling => split <;> simp
  all_goals simp [Damper.cleared, state]

theorem Ddr.Weak.leaveRun (h : w.ddr.Weak present laid) : w.leaveRun.ddr.Weak present laid := by
  obtain ⟨ds, ls, run, dampers, lanes⟩ := w.leaveRun_eq
  rw [run]
  have free : ∀ l : LaneIx, ls[l].holder = none := by
    intro l
    rw [lanes l, Lane.leave]
    split
    · rfl
    · next idle => exact h.not_busy idle
  refine ⟨fun e => ?_, fun l => ?_, fun e l => ?_, List.nodup_nil, List.Pairwise.nil, by simp⟩
  · simp only [dampers e]
    exact ⟨(Damper.leave_absent_iff _ _).trans (h.absent_iff e),
      Damper.leave_lawful (h.lawful e) fun _ mem => h.fitting mem⟩
  · have lawful := h.lanes l
    have lane := lanes l
    rw [Lane.leave] at lane
    split at lane
    · next busy =>
      have laidOut := h.laneLaid (l := l) (by simp [busy])
      obtain ⟨-, -, recovery⟩ := lawful
      simp only [lane]
      refine ⟨by simp [laidOut], by simp, fun runs => ?_⟩
      exact absurd (busy.symm.trans (recovery runs)) (by decide)
    · simp only [lane]
      exact lawful
  · simp only [dampers e, Damper.leave_lane, free]
    simp

theorem Ddr.Weak.linkReset (h : w.ddr.Weak present laid) (retain : Bool) :
    (w.linkReset retain).ddr.Weak present laid := by
  unfold Work.linkReset
  split
  · exact h.leaveRun
  · exact Ddr.Weak.foldl (fun _ _ law => law.settleSettings _) _ h.leaveRun
end Weak

end Sys2Proof.Machine

/-! ### The grant -/

namespace Sys2Proof.Machine

section Grant

variable {w : Work} {present : DamperIx → Bool} {laid : LaneIx → Bool} {d : DamperIx} {l : LaneIx} {c c' : Damper}
  {o : QueuedOrder} {rest : List QueuedOrder}

/-- A grant of a lane to an order keeps the law, the order gone from the queue. -/
theorem Ddr.Weak.grantTo (h : w.ddr.Weak present laid) (queue : w.ddr.queue = o :: rest)
    (free : (w.lane l).state = .free) : ((w.putQueue rest).grantTo l o).ddr.Weak present laid := by
  have queued : w.ddr.queuedOrder o.damper = some o := queuedOrder_of_mem h.once (queue ▸ .head _)
  obtain ⟨waits, -⟩ := (Damper.lawful_iff _ _).mp (h.lawful o.damper)
  have waiting : (w.damper o.damper).state = .waiting := waits.mpr (by simp [queued])
  have there := h.there (d := o.damper) (by simp [waiting])
  have lawful := h.lawful o.damper
  simp only [Damper.Lawful, waiting] at lawful
  obtain ⟨-, lane, due, settle, deferred⟩ := lawful
  have fit := h.fitting queued
  have apart := h.open o.damper
  rw [lane] at apart
  have taken := (apart.dequeue queue).takeLane (l := l) free
  cases goal : o.goal with
  | move t =>
    have position : (w.damper o.damper).position.isSome = true := by simpa [Damper.Fits, Goal.isHome, goal] using fit
    simp only [Work.grantTo, goal]
    split
    · refine (taken.putDamper _).arriveChecked ?_ there ?_ ?_ ?_ ?_ ?_ ?_ ?_ <;>
        simp <;> first | exact settle | exact deferred | exact position
    · refine taken.settle rfl (by simp [there]) ?_ (by simp)
      simp only [Damper.Lawful]
      exact ⟨rfl, rfl, rfl, rfl, settle, deferred, position, rfl⟩
  | home p =>
    simp only [Work.grantTo, goal]
    split
    · refine (taken.putDamper _).homeFound ?_ there ?_ ?_ ?_ ?_ <;> simp
      exact deferred
    · refine taken.settle rfl (by simp [there]) ?_ (by simp)
      simp only [Damper.Lawful]
      exact ⟨rfl, rfl, rfl, rfl, settle, deferred, trivial⟩

/-- A work with a damper and a lane replaced, and told of both. -/
def Work.granted (w : Work) (l : LaneIx) (d : DamperIx) (c : Damper) (r : Lane) : Work :=
  { w with
    ddr := { w.ddr with dampers := w.ddr.dampers.set d c, lanes := w.ddr.lanes.set l r }
    changed := w.changed ++ [.lane l, .damper d] }

/-- A lane BUSY with a damper, and the record of that damper. -/
def Work.hold (w : Work) (l : LaneIx) (d : DamperIx) (c : Damper) : Work :=
  (w.putLane l { w.lane l with state := .busy, holder := some d }).putDamper d c

theorem Work.changed_hold (free : (w.lane l).state = .free) (waits : (w.damper d).state = .waiting)
    (goes : c.state ≠ .waiting) : (w.hold l d c).changed = w.changed ++ [.lane l, .damper d] := by
  rw [Work.hold, Work.changed_putDamper, Work.changed_putLane,
    DriveUnit.ifMoved_ne _ (by simp [free]), DriveUnit.ifMoved_ne _ (by simpa [waits] using goes), List.append_assoc]
  rfl

theorem Work.hold_like (free : (w.lane l).state = .free) (waits : (w.damper d).state = .waiting)
    (goes : c.state ≠ .waiting) :
    (w.hold l d c).Like (w.granted l d c { w.lane l with state := .busy, holder := some d }) := by
  refine ⟨rfl, rfl, rfl, rfl, ?_⟩
  rw [Work.changed_hold free waits goes]
  exact .refl _

theorem Work.hold_putDamper_like (free : (w.lane l).state = .free) (waits : (w.damper d).state = .waiting)
    (goes : c.state ≠ .waiting) (same : c'.state = c.state) :
    ((w.hold l d c).putDamper d c').Like (w.granted l d c' { w.lane l with state := .busy, holder := some d }) := by
  refine ⟨by simp [Work.putDamper, Work.hold, Work.putLane, Work.granted], rfl, rfl, rfl, ?_⟩
  rw [Work.changed_putDamper, Work.changed_hold free waits goes,
    DriveUnit.ifMoved_same _ (show c'.state = ((w.hold l d c).damper d).state by rw [Work.hold, Work.damper_putDamper, same]),
    List.append_nil]
  exact .refl _

theorem Work.hold_reversing_like (free : (w.lane l).state = .free) (waits : (w.damper d).state = .waiting)
    (goes : c.state ≠ .waiting) :
    ((w.hold l d c).reversing d c').Like (w.granted l d c' { w.lane l with state := .busy, holder := some d }) := by
  refine ⟨by simp [Work.reversing, Work.putDamper, Work.hold, Work.putLane, Work.granted], rfl, rfl, rfl, ?_⟩
  rw [show ((w.hold l d c).reversing d c').changed = (w.hold l d c).changed ++ [.damper d] from rfl,
    Work.changed_hold free waits goes, List.append_assoc]
  exact (SameNews.refl _).append (sameNews_cons _ (sameNews_again _ _ (.head _)))

theorem Work.hold_free_like (free : (w.lane l).state = .free) (waits : (w.damper d).state = .waiting)
    (goes : c.state ≠ .waiting) (lane : c.lane = some l) (moves : c'.state ≠ c.state) :
    (((w.hold l d c).freeLaneOf d).putDamper d c').Like
      (w.granted l d c' { w.lane l with state := .free, holder := none }) := by
  have holds : ((w.hold l d c).damper d).lane = some l := by rw [Work.hold, Work.damper_putDamper, lane]
  rw [Work.freeLaneOf_some holds]
  refine ⟨by simp [Work.putDamper, Work.hold, Work.putLane, Work.granted, Work.lane], rfl, rfl, rfl, ?_⟩
  rw [Work.changed_putDamper, Work.changed_putLane, Work.changed_hold free waits goes,
    DriveUnit.ifMoved_ne _ (by simp [Work.hold]), DriveUnit.ifMoved_ne _ (by simpa [Work.hold] using moves),
    List.append_assoc, List.append_assoc]
  refine (SameNews.refl _).append ?_
  exact (sameNews_again (.lane l) [.damper d, .lane l, .damper d] (by simp)).trans
    (sameNews_again (.damper d) [.lane l, .damper d] (by simp))

theorem Damper.reversed_lane (c : Damper) (now : Time) (t : Nat) : (c.reversed now t).lane = c.lane := by
  unfold Damper.reversed
  split <;> rfl

theorem Damper.arrived_moves (c : Damper) (now : Time) :
    (c.arrived now).state ≠ .moving ∧ (c.arrived now).state ≠ .homing := by
  unfold Damper.arrived
  split <;> simp

/-- The record of a lane after a grant, the lane FREE again where the damper has arrived at once. -/
def Lane.grantedTo (r : Lane) (d : DamperIx) (c : Damper) : Lane :=
  if c.lane = none then { r with state := .free, holder := none } else { r with state := .busy, holder := some d }

/-- A damper on its way with a lane. -/
def Damper.sent (c : Damper) (now : Time) (l : LaneIx) (o : QueuedOrder) (t : Nat) : Damper :=
  { c with
    state := .moving, target := some t, lane := some l, order := some ⟨.move, o.cls, o.source, o.seq⟩
    stepDue := some (now + c.period) }

/-- A damper in a homing search with a lane. -/
def Damper.searching (c : Damper) (now : Time) (l : LaneIx) (o : QueuedOrder) (p : Option Nat) : Damper :=
  { c with
    state := .homing, position := none, target := none, pending := p, lane := some l, stepCount := 0
    order := some ⟨.home, o.cls, o.source, o.seq⟩, stepDue := some (now + c.period) }

theorem Work.grantTo_move {t : Nat} (goal : o.goal = .move t) :
    w.grantTo l o =
      if (w.damper o.damper).position = some t then
        (w.hold l o.damper ((w.damper o.damper).sent w.now l o t)).arriveChecked o.damper
      else w.hold l o.damper ((w.damper o.damper).sent w.now l o t) := by
  simp only [Work.grantTo, goal]
  rfl

theorem Work.grantTo_home {p : Option Nat} (goal : o.goal = .home p) :
    w.grantTo l o =
      if (w.damper o.damper).homeInput = true then
        (w.hold l o.damper ((w.damper o.damper).searching w.now l o p)).homeFound o.damper
      else w.hold l o.damper ((w.damper o.damper).searching w.now l o p) := by
  simp only [Work.grantTo, goal]
  rfl

theorem Damper.grantedBy_move {t : Nat} (now : Time) (goal : o.goal = .move t) :
    c.grantedBy now l o =
      if c.position = some t then
        if t = c.homePosition ∧ c.homeInput = false then { c.sent now l o t with overtravel := true, stepCount := 0 }
        else (c.sent now l o t).arrived now
      else c.sent now l o t := by
  simp only [Damper.grantedBy, goal]
  rw [ite_not]
  rfl

theorem Damper.grantedBy_home {p : Option Nat} (now : Time) (goal : o.goal = .home p) :
    c.grantedBy now l o =
      if c.homeInput = true then
        if p.getD c.homePosition = c.homePosition then
          ({ c.searching now l o p with position := some c.homePosition, slip := 0, pending := none } : Damper).arrived now
        else
          ({ c.searching now l o p with
            position := some c.homePosition, slip := 0, pending := none
            order := some ⟨.move, o.cls, o.source, o.seq⟩ } : Damper).reversed now (p.getD c.homePosition)
      else c.searching now l o p := by
  simp only [Damper.grantedBy, goal]
  by_cases found : c.homeInput = true
  · rw [if_pos found, if_neg (by simp [found])]
    rfl
  · rw [if_neg found, if_pos (by simpa using found)]
    rfl

@[simp] theorem Work.damper_hold (w : Work) (l : LaneIx) (d : DamperIx) (c : Damper) : (w.hold l d c).damper d = c :=
  Work.damper_putDamper _ d c

theorem Lane.grantedTo_none (r : Lane) (d : DamperIx) (lane : c.lane = none) :
    r.grantedTo d c = { r with state := .free, holder := none } := if_pos lane

theorem Lane.grantedTo_some (r : Lane) (d : DamperIx) (lane : c.lane = some l) :
    r.grantedTo d c = { r with state := .busy, holder := some d } := if_neg (by simp [lane])

/-- R102, R106: what a grant comes to. -/
theorem Work.grantTo_like (free : (w.lane l).state = .free) (waits : (w.damper o.damper).state = .waiting)
    (kept : (w.damper o.damper).deferred = none) :
    (w.grantTo l o).Like (w.granted l o.damper ((w.damper o.damper).grantedBy w.now l o)
      ((w.lane l).grantedTo o.damper ((w.damper o.damper).grantedBy w.now l o))) := by
  cases goal : o.goal with
  | move t =>
    rw [Work.grantTo_move goal, Damper.grantedBy_move _ goal]
    have goes : ((w.damper o.damper).sent w.now l o t).state ≠ .waiting := by simp [Damper.sent]
    split
    · next at_t =>
      have checked : ((w.damper o.damper).sent w.now l o t).position = some (w.damper o.damper).homePosition ∧
          (w.damper o.damper).homeInput = false ↔ t = (w.damper o.damper).homePosition ∧
          (w.damper o.damper).homeInput = false := by simp [Damper.sent, at_t]
      simp only [Work.arriveChecked, Work.damper_hold]
      by_cases home : t = (w.damper o.damper).homePosition ∧ (w.damper o.damper).homeInput = false
      · rw [if_pos (by exact checked.mpr home), if_pos home, Lane.grantedTo_some (l := l) _ _ rfl]
        exact Work.hold_putDamper_like free waits goes rfl
      · rw [if_neg (by exact fun h => home (checked.mp h)), if_neg home, Lane.grantedTo_none _ _ (Damper.arrived_lane _ _)]
        refine (Work.arrive_like _ _ (by simp [Damper.sent]) (by simpa [Damper.sent] using kept)).trans ?_
        rw [Work.damper_hold]
        exact Work.hold_free_like free waits goes rfl (Damper.arrived_moves _ _).1
    · rw [Lane.grantedTo_some (l := l) _ _ rfl]
      exact Work.hold_like free waits goes
  | home p =>
    rw [Work.grantTo_home goal, Damper.grantedBy_home _ goal]
    have goes : ((w.damper o.damper).searching w.now l o p).state ≠ .waiting := by simp [Damper.searching]
    split
    · simp only [Work.homeFound, Work.damper_hold]
      by_cases home : p.getD (w.damper o.damper).homePosition = (w.damper o.damper).homePosition
      · rw [if_pos (by exact home), if_pos home, Lane.grantedTo_none _ _ (Damper.arrived_lane _ _)]
        refine (Work.putDamper_arrive_like _ ?_ ?_ ?_ ?_).trans (Work.hold_free_like free waits goes rfl ?_)
        · rw [Work.damper_hold]
        · rw [Work.damper_hold]
        · simp [Damper.searching]
        · exact kept
        · exact (Damper.arrived_moves _ _).2
      · rw [if_neg (by exact home), if_neg home, Lane.grantedTo_some (l := l) _ _ (Damper.reversed_lane _ _ _)]
        refine (Work.putDamper_reverse_like _ ?_ ?_ ?_).trans (Work.hold_reversing_like free waits goes)
        · rw [Work.damper_hold]
        · simp [Damper.searching]
        · exact fun h => home (Option.some.inj h).symm
    · rw [Lane.grantedTo_some (l := l) _ _ rfl]
      exact Work.hold_like free waits goes

theorem Work.putQueue_nil (empty : w.ddr.queue = []) : w = w.putQueue [] := by
  rw [← empty]
  rfl

theorem Work.foldl_grantLane_nil (empty : w.ddr.queue = []) (ls : List LaneIx) : ls.foldl Work.grantLane w = w := by
  induction ls with
  | nil => rfl
  | cons l ls ih =>
    rw [List.foldl_cons, show w.grantLane l = w by simp only [Work.grantLane, empty], ih]

theorem Work.grantUpTo_idle (n : Nat) (idle : w.ddr.freeLanes = [] ∨ w.ddr.queue = []) : w.grantUpTo n = w := by
  cases n with
  | zero => rfl
  | succ n => rw [Work.grantUpTo, if_pos idle]

/-- What the records come to where every lane that is FREE is granted, and the units that have changed. -/
def Work.arbitration (w : Work) (ls : List LaneIx) (news : List DriveUnit) : Work :=
  { w with
    ddr := (w.ddr.grantsFrom w.now w.ddr.queue ls news).1
    changed := (w.ddr.grantsFrom w.now w.ddr.queue ls news).2 }

/-- The orders granted are those of the list; the queue of the records does not matter. -/
theorem Ddr.grantsFrom_queue (now : Time) (q : List QueuedOrder) :
    ∀ (ls : List LaneIx) (r : Ddr) (news : List DriveUnit) (x : List QueuedOrder),
      ({ r with queue := x } : Ddr).grantsFrom now q ls news = r.grantsFrom now q ls news := by
  induction q with
  | nil => exact fun _ _ _ _ => rfl
  | cons o rest ih =>
    intro ls r news x
    cases first : (if ls = [] then [(0 : LaneIx), 1].filter fun l => decide (r.lanes[l].state = .free) else ls) with
    | nil => simp only [Ddr.grantsFrom, first]
    | cons l more =>
      simp only [Ddr.grantsFrom, first]
      exact ih more { r with dampers := _, lanes := _ } _ x

theorem Ddr.grantsFrom_cons {r : Ddr} {now : Time} {ls more : List LaneIx} {news : List DriveUnit}
    (first : (if ls = [] then [(0 : LaneIx), 1].filter fun l => decide (r.lanes[l].state = .free) else ls) = l :: more) :
    r.grantsFrom now (o :: rest) ls news =
      ({ r with
        dampers := r.dampers.set o.damper (r.dampers[o.damper].grantedBy now l o)
        lanes := r.lanes.set l (r.lanes[l].grantedTo o.damper (r.dampers[o.damper].grantedBy now l o)) } : Ddr).grantsFrom
        now rest more (news ++ [.lane l, .damper o.damper]) := by
  rw [Ddr.grantsFrom]
  simp only [first]
  rfl

theorem Ddr.grantsFrom_stuck {r : Ddr} {now : Time} {news : List DriveUnit}
    (none : ([(0 : LaneIx), 1].filter fun l => decide (r.lanes[l].state = .free)) = []) :
    r.grantsFrom now (o :: rest) [] news = ({ r with queue := o :: rest }, news) := by
  rw [Ddr.grantsFrom]
  simp only [if_true, none]

/-- R102: the grants one after another, the lanes of `ls` first. -/
theorem Ddr.Weak.grants :
    ∀ (q : List QueuedOrder) (n : Nat) (ls : List LaneIx) (w : Work) (news : List DriveUnit),
      w.ddr.Weak present laid → w.ddr.queue = q → q.length ≤ n → ls.Nodup → (∀ l ∈ ls, (w.lane l).state = .free) →
      SameNews w.changed news →
      ((ls.foldl Work.grantLane w).grantUpTo n).Like (w.arbitration ls news) ∧
        ((ls.foldl Work.grantLane w).grantUpTo n).ddr.Weak present laid ∧
        ((ls.foldl Work.grantLane w).grantUpTo n).ddr.Granted := by
  intro q
  induction q with
  | nil =>
    intro n ls w news weak empty _ _ _ same
    rw [Work.foldl_grantLane_nil empty, Work.grantUpTo_idle _ (.inr empty)]
    refine ⟨⟨?_, rfl, rfl, rfl, ?_⟩, weak, fun _ => empty⟩
    · simp only [Work.arbitration, empty, Ddr.grantsFrom]
      rw [← empty]
    · simp only [Work.arbitration, empty, Ddr.grantsFrom]
      exact same
  | cons o rest ih =>
    intro n ls w news weak queue long once free same
    have one : ∀ (m : Nat) (l : LaneIx) (more : List LaneIx), rest.length ≤ m → (l :: more).Nodup →
        (∀ k ∈ l :: more, (w.lane k).state = .free) →
        (if ls = [] then [(0 : LaneIx), 1].filter fun l => decide (w.ddr.lanes[l].state = .free) else ls) = l :: more →
        (((l :: more).foldl Work.grantLane w).grantUpTo m).Like (w.arbitration ls news) ∧
          (((l :: more).foldl Work.grantLane w).grantUpTo m).ddr.Weak present laid ∧
          (((l :: more).foldl Work.grantLane w).grantUpTo m).ddr.Granted := by
      intro m l more long once free first
      have bound_d : o.damper.val < 8 := o.damper.isLt
      have bound_l : l.val < 2 := l.isLt
      have free_l := free l (.head _)
      obtain ⟨fresh, once⟩ := List.nodup_cons.mp once
      have granted : w.grantLane l = (w.putQueue rest).grantTo l o := by simp only [Work.grantLane, queue]
      obtain ⟨waits, -⟩ := (Damper.lawful_iff _ _).mp (weak.lawful o.damper)
      have waiting : (w.damper o.damper).state = .waiting :=
        waits.mpr (by simp [queuedOrder_of_mem weak.once (queue ▸ List.mem_cons_self : o ∈ w.ddr.queue)])
      have lawful := weak.lawful o.damper
      simp only [Damper.Lawful, waiting] at lawful
      obtain ⟨-, -, -, -, kept⟩ := lawful
      have like := Work.grantTo_like (w := w.putQueue rest) (o := o) free_l waiting kept
      obtain ⟨ddr, now, noFree, alarms, changed⟩ := id like
      obtain ⟨arbitrated, weak', done⟩ := ih m more ((w.putQueue rest).grantTo l o)
        (news ++ [.lane l, .damper o.damper]) (weak.grantTo queue free_l) (congrArg Ddr.queue ddr) long once
        (fun k mem => by
          rw [show ((w.putQueue rest).grantTo l o).lane k = ((w.putQueue rest).granted l _ _ _).lane k from
            congrArg (fun r : Ddr => r.lanes[k]) ddr]
          exact (congrArg Lane.state (w.putLane_getElem_ne (fun same : k = l => fresh (same ▸ mem)) _)).trans
            (free k (.tail _ mem)))
        (changed.trans (same.append (.refl _)))
      have both := Ddr.grantsFrom_queue w.now rest more
        { w.ddr with
          dampers := w.ddr.dampers.set o.damper (w.ddr.dampers[o.damper].grantedBy w.now l o)
          lanes := w.ddr.lanes.set l (w.ddr.lanes[l].grantedTo o.damper (w.ddr.dampers[o.damper].grantedBy w.now l o)) }
        (news ++ [.lane l, .damper o.damper]) rest
      have next : ((w.putQueue rest).grantTo l o).ddr.grantsFrom ((w.putQueue rest).grantTo l o).now
          ((w.putQueue rest).grantTo l o).ddr.queue more (news ++ [.lane l, .damper o.damper]) =
          w.ddr.grantsFrom w.now w.ddr.queue ls news := by
        rw [ddr, now, queue, Ddr.grantsFrom_cons first, ← both]
        rfl
      rw [List.foldl_cons, granted]
      refine ⟨arbitrated.trans ⟨congrArg Prod.fst next, now, noFree, alarms, ?_⟩, weak', done⟩
      exact congrArg (fun u => u.dedup.filter DriveUnit.heard) (congrArg Prod.snd next)
    cases ls with
    | cons l more => exact one n l more (Nat.le_of_succ_le long) once free (if_neg (by simp))
    | nil =>
      cases n with
      | zero => simp at long
      | succ n =>
        rw [List.foldl_nil]
        cases lanes : w.ddr.freeLanes with
        | nil =>
          rw [Work.grantUpTo_idle _ (.inl lanes)]
          refine ⟨⟨?_, rfl, rfl, rfl, ?_⟩, weak, fun ⟨l, free⟩ => ?_⟩
          · rw [Work.arbitration, queue, Ddr.grantsFrom_stuck lanes, ← queue]
          · rw [Work.arbitration, queue, Ddr.grantsFrom_stuck lanes]
            exact same
          · exact absurd ((Ddr.mem_freeLanes _ l).mpr free) (by simp [lanes])
        | cons l more =>
          rw [Work.grantUpTo, if_neg (by simp [lanes, queue]), lanes]
          refine one n l more (Nat.le_of_succ_le_succ long) ?_ (fun k mem => ?_) ((if_pos rfl).trans lanes)
          · rw [← lanes]
            exact (List.nodup_finRange 2).filter _
          · exact (Ddr.mem_freeLanes _ k).mp (lanes ▸ mem)

variable {s t : State} {f : Work → Work}

theorem Ddr.Weak.grant_like (h : w.ddr.Weak present laid) {news : List DriveUnit} (same : SameNews w.changed news) :
    w.grant.Like (w.arbitration [] news) :=
  (Ddr.Weak.grants _ _ [] w news h rfl (Nat.le_succ _) List.nodup_nil (by simp) same).1

/-- R102: a grant keeps the law, and leaves no lane FREE while an order waits. -/
theorem Ddr.Weak.grant (h : w.ddr.Weak present laid) : w.grant.ddr.Weak present laid ∧ w.grant.ddr.Granted :=
  (Ddr.Weak.grants _ _ [] w w.changed h rfl (Nat.le_succ _) List.nodup_nil (by simp) (.refl _)).2

/-- An event at DDR that ends with a grant is what the state that mirrors its work comes to. -/
theorem State.Mirrors.granted (m : s.Mirrors w t) (weak : w.ddr.Weak present laid) (run : f s.work = w.grant) :
    s.drive f = t.arbitrated s.handed :=
  m.drive run fun _ same => weak.grant_like same

/-- An event at DDR that ends without a grant, where nothing is to be granted. -/
theorem State.Mirrors.ungranted (m : s.Mirrors w t) (weak : w.ddr.Weak present laid) (done : w.ddr.Granted)
    (run : f s.work = w) : s.drive f = t.arbitrated s.handed := by
  refine m.granted weak (run.trans (w.grant_idle ?_).symm)
  by_cases free : ∃ l : LaneIx, w.ddr.lanes[l].state = .free
  · exact .inr (done free)
  · refine .inl (List.eq_nil_iff_forall_not_mem.mpr fun l mem => free ⟨l, (Ddr.mem_freeLanes _ l).mp mem⟩)

end Grant

end Sys2Proof.Machine

/-! ### Orders to a damper (R97 to R101) -/

namespace Sys2Proof.Machine

theorem withinDeadband_iff (m n : Nat) : withinDeadband m n = true ↔ m ≤ n + 8 ∧ n ≤ m + 8 := by
  rw [withinDeadband, stepDistance, decide_eq_true_iff]
  omega

theorem State.drive_status (s : State) (f : Work → Work) (r : Req) (st : StatusCode) :
    (s.drive f).status r st = (s.status r st).drive f := by
  rw [State.drive_eq, State.drive_eq]
  rfl

section Orders

variable {u : State} {present : DamperIx → Bool} {laid : LaneIx → Bool} {d : DamperIx} {l : LaneIx} {c : Damper}
  {n : Nat} {k : OrderClass} {src : OrderSource}

theorem State.work_damper (u : State) (d : DamperIx) : u.work.damper d = u.ddr.dampers[d] := rfl

theorem State.order_refused (weak : u.ddr.Weak present laid) (is : u.ddr.dampers[d] = c)
    (refuses : c.state = .absent ∨ c.state = .jammed) (percent : Nat) :
    u.order d percent k src = (u.damperBecomes d { c with last := .refused }).arbitrated u.handed := by
  subst is
  refine ((State.Mirrors.start u).damperBecomes d _).granted (Ddr.Weak.putLast (w := u.work) weak .refused) ?_
  rcases refuses with state | state <;> simp only [Work.takeOrder, State.work_damper, state]

theorem State.order_unhomed (weak : u.ddr.Weak present laid) (is : u.ddr.dampers[d] = c) (unhomed : c.state = .unhomed)
    (room : u.ddr.seq + 1 < 4294967296) (percent : Nat) :
    u.order d percent k src =
      ((u.queued d (.home (some (toSteps c.settings.span percent))) k src).damperBecomes d
        { c with state := .waiting }).arbitrated u.handed := by
  subst is
  refine (((State.Mirrors.start u).queued d _ k src room).damperBecomes d _).granted
    (Ddr.Weak.takeUnhomed (w := u.work) weak unhomed _ _ _) ?_
  simp only [Work.takeOrder, State.work_damper, unhomed]
  rfl

theorem Work.takeIdle_near {w : Work} {t : Nat} (target : (w.damper d).target = some t)
    (near : k = .normal ∧ n ≤ t + 8 ∧ t ≤ n + 8) : w.takeIdle d n k src = w := by
  obtain ⟨normal, near⟩ := near
  exact if_pos ⟨normal, by rw [target]; exact (withinDeadband_iff n t).mpr near⟩

theorem Work.takeIdle_far {w : Work} {t : Nat} (target : (w.damper d).target = some t)
    (far : ¬ (k = .normal ∧ n ≤ t + 8 ∧ t ≤ n + 8)) :
    w.takeIdle d n k src =
      if (w.damper d).position = some n then w.putDamper d { w.damper d with last := .done }
      else (w.enqueueNew d (.move n) k src).putDamper d { w.damper d with state := .waiting, target := some n } := by
  refine if_neg fun near => far ⟨near.1, ?_⟩
  obtain ⟨-, near⟩ := near
  rw [target] at near
  exact (withinDeadband_iff n t).mp near

theorem State.order_idle (weak : u.ddr.Weak present laid) (is : u.ddr.dampers[d] = c) (idle : c.state = .idle) {t : Nat}
    (target : c.target = some t) (percent : Nat) (n_eq : toSteps c.settings.span percent = n) :
    (k = .normal ∧ n ≤ t + 8 ∧ t ≤ n + 8 → u.order d percent k src = u.arbitrated u.handed) ∧
    (¬ (k = .normal ∧ n ≤ t + 8 ∧ t ≤ n + 8) → c.position = some n →
      u.order d percent k src = (u.damperBecomes d { c with last := .done }).arbitrated u.handed) ∧
    (¬ (k = .normal ∧ n ≤ t + 8 ∧ t ≤ n + 8) → c.position ≠ some n → u.ddr.seq + 1 < 4294967296 →
      u.order d percent k src =
        ((u.queued d (.move n) k src).damperBecomes d { c with state := .waiting, target := some n }).arbitrated
          u.handed) := by
  have bound := d.isLt
  subst is n_eq
  have start := State.Mirrors.start u
  have run : u.work.takeOrder d percent k src =
      (u.work.takeIdle d (toSteps u.ddr.dampers[d].settings.span percent) k src).grant := by
    simp only [Work.takeOrder, State.work_damper, idle]
  have kept := Ddr.Weak.takeIdle (w := u.work) weak idle (toSteps u.ddr.dampers[d].settings.span percent) k src
  refine ⟨fun near => ?_, fun far done => ?_, fun far away room => ?_⟩
  · rw [Work.takeIdle_near (w := u.work) target near] at run
    exact start.granted weak run
  · rw [Work.takeIdle_far (w := u.work) target far, if_pos (by exact done)] at run kept
    exact (start.damperBecomes d _).granted kept run
  · rw [Work.takeIdle_far (w := u.work) target far, if_neg (by exact away)] at run kept
    exact ((start.queued d _ k src room).damperBecomes d _).granted kept run

theorem Work.takeWaiting_move {w : Work} {o : QueuedOrder} {t : Nat} (queued : w.ddr.queuedOrder d = some o)
    (goal : o.goal = .move t) :
    w.takeWaiting d n k src =
      if (w.damper d).position = some n then
        (w.unqueue d).putDamper d { w.damper d with state := .idle, target := some n, last := .done }
      else
        (w.requeue { o with cls := o.cls.raisedBy k, source := src, goal := .move n }).putDamper d
          { w.damper d with target := some n, last := .superseded } := by
  simp only [Work.takeWaiting, queued, goal]

theorem Work.takeWaiting_home {w : Work} {o : QueuedOrder} {p : Option Nat} (queued : w.ddr.queuedOrder d = some o)
    (goal : o.goal = .home p) :
    w.takeWaiting d n k src =
      (w.requeue { o with cls := o.cls.raisedBy k, source := src, goal := .home (some n) }).putDamper d
        { w.damper d with last := .superseded } := by
  simp only [Work.takeWaiting, queued, goal]

theorem State.order_waiting (weak : u.ddr.Weak present laid) (is : u.ddr.dampers[d] = c) (waits : c.state = .waiting)
    {o : QueuedOrder} (queued : u.ddr.queuedOrder d = some o) (percent : Nat)
    (n_eq : toSteps c.settings.span percent = n) :
    (∀ t, o.goal = .move t → c.position = some n →
      u.order d percent k src = ((u.queueBecomes (u.ddr.queue.filter fun x => x.damper ≠ d)).damperBecomes d
        { c with state := .idle, target := some n, last := .done }).arbitrated u.handed) ∧
    (∀ t, o.goal = .move t → c.position ≠ some n →
      u.order d percent k src = ((u.queueBecomes (insertOrder
          { o with cls := o.cls.raisedBy k, source := src, goal := .move n }
          (u.ddr.queue.filter fun x => x.damper ≠ d))).damperBecomes d
        { c with target := some n, last := .superseded }).arbitrated u.handed) ∧
    (∀ p, o.goal = .home p →
      u.order d percent k src = ((u.queueBecomes (insertOrder
          { o with cls := o.cls.raisedBy k, source := src, goal := .home (some n) }
          (u.ddr.queue.filter fun x => x.damper ≠ d))).damperBecomes d { c with last := .superseded }).arbitrated
            u.handed) := by
  have bound := d.isLt
  subst is n_eq
  have start := State.Mirrors.start u
  obtain ⟨-, same⟩ := queuedOrder_eq_some queued
  have run : u.work.takeOrder d percent k src =
      (u.work.takeWaiting d (toSteps u.ddr.dampers[d].settings.span percent) k src).grant := by
    simp only [Work.takeOrder, State.work_damper, waits]
  have kept := Ddr.Weak.takeWaiting (w := u.work) weak waits (toSteps u.ddr.dampers[d].settings.span percent) k src
  have requeue : ∀ x : QueuedOrder, x.damper = d →
      u.Mirrors (u.work.requeue x) (u.queueBecomes (insertOrder x (u.ddr.queue.filter fun y => y.damper ≠ d))) := by
    rintro x rfl
    exact start.queueBecomes _
  refine ⟨fun t move done => ?_, fun t move away => ?_, fun p home => ?_⟩
  · rw [Work.takeWaiting_move queued move, if_pos (by exact done)] at run kept
    exact ((start.queueBecomes _).damperBecomes d _).granted kept run
  · rw [Work.takeWaiting_move queued move, if_neg (by exact away)] at run kept
    exact ((requeue _ (by exact same)).damperBecomes d _).granted kept run
  · rw [Work.takeWaiting_home queued home] at run kept
    exact ((requeue _ (by exact same)).damperBecomes d _).granted kept run

theorem Damper.stepsUp_moving (moving : c.state = .moving) (onTheWay : c.overtravel = false) {p t : Nat}
    (position : c.position = some p) (target : c.target = some t) : c.stepsUp = decide (p < t) := by
  simp [Damper.stepsUp, moving, onTheWay, position, target]

/-- The record of a damper as an order leaves its order in hand (R100). -/
def Damper.ordered (c : Damper) (k : OrderClass) (src : OrderSource) : Damper :=
  { c with order := c.order.map fun o => o.supersede k src }

theorem Work.takeMoving_eq (w : Work) :
    w.takeMoving d n k src =
      if ((w.damper d).ordered k src).overtravel = true then
        w.putDamper d { (w.damper d).ordered k src with target := some n, last := .superseded }
      else if n = ((w.damper d).ordered k src).position.getD 0 then
        (w.putDamper d { (w.damper d).ordered k src with target := some n }).arriveChecked d
      else if decide (((w.damper d).ordered k src).position.getD 0 < n) = ((w.damper d).ordered k src).stepsUp then
        w.putDamper d { (w.damper d).ordered k src with target := some n, last := .superseded }
      else (w.putDamper d { (w.damper d).ordered k src with last := .superseded }).reverse d n := rfl

theorem Work.takeMoving_overtravel {w : Work} (search : (w.damper d).overtravel = true) :
    w.takeMoving d n k src =
      w.putDamper d { (w.damper d).ordered k src with target := some n, last := .superseded } := if_pos search

theorem Work.takeMoving_onTheWay {w : Work} {p t : Nat} (moving : (w.damper d).state = .moving)
    (onTheWay : (w.damper d).overtravel = false) (position : (w.damper d).position = some p)
    (target : (w.damper d).target = some t) :
    w.takeMoving d n k src =
      if n = p then (w.putDamper d { (w.damper d).ordered k src with target := some n }).arriveChecked d
      else if p < n ↔ p < t then
        w.putDamper d { (w.damper d).ordered k src with target := some n, last := .superseded }
      else (w.putDamper d { (w.damper d).ordered k src with last := .superseded }).reverse d n := by
  have up : ((w.damper d).ordered k src).stepsUp = decide (p < t) := Damper.stepsUp_moving moving onTheWay position target
  have pos : ((w.damper d).ordered k src).position.getD 0 = p :=
    (congrArg (fun x : Option Nat => x.getD 0) position : (w.damper d).position.getD 0 = p)
  rw [Work.takeMoving_eq, if_neg (ne_true_of_eq_false (by exact onTheWay)), up, pos]
  simp only [decide_eq_decide]

theorem Work.arriveChecked_away {w : Work} (away : c.position ≠ some c.homePosition ∨ c.homeInput = true) :
    (w.putDamper d c).arriveChecked d = (w.putDamper d c).arrive d := by
  simp only [Work.arriveChecked, Work.damper_putDamper]
  refine if_neg fun unchecked => ?_
  rcases away with away | input
  · exact away unchecked.1
  · exact absurd (input.symm.trans unchecked.2) (by decide)

/-- R104: at the home position without HOME the damper goes on into the overtravel search. -/
theorem Work.arriveChecked_search {w : Work} (same : c.state = (w.damper d).state) (here : c.position = some c.homePosition)
    (noInput : c.homeInput = false) :
    ((w.putDamper d c).arriveChecked d).Like (w.putDamper d
      { c with overtravel := true, stepCount := 0, stepDue := some (c.stepDue.getD (w.now + c.period)) }) := by
  simp only [Work.arriveChecked, Work.damper_putDamper]
  rw [if_pos ⟨here, noInput⟩]
  exact w.putDamper_putDamper_like (.inl same)

theorem Damper.arrived_target (c : Damper) (now : Time) (t : Option Nat) :
    ({ c with target := t } : Damper).arrived now = c.arrived now := rfl

theorem State.order_moving (weak : u.ddr.Weak present laid) (is : u.ddr.dampers[d] = c) (moving : c.state = .moving)
    {p t : Nat} (position : c.position = some p) (target : c.target = some t) (percent : Nat)
    (n_eq : toSteps c.settings.span percent = n) :
    (c.overtravel = true →
      u.order d percent k src =
        (u.damperBecomes d { c.ordered k src with target := some n, last := .superseded }).arbitrated u.handed) ∧
    (c.overtravel = false → (n < p ∧ t < p ∨ p < n ∧ p < t) →
      u.order d percent k src =
        (u.damperBecomes d { c.ordered k src with target := some n, last := .superseded }).arbitrated u.handed) ∧
    (c.overtravel = false → (n < p ∧ p < t ∨ p < n ∧ t < p) →
      u.order d percent k src =
        (u.damperReverses d { c.ordered k src with last := .superseded } n).arbitrated u.handed) ∧
    (c.overtravel = false → n = p → p ≠ c.homePosition ∨ c.homeInput = true → ∀ l, c.lane = some l →
      u.order d percent k src =
        ((u.laneFreed l).damperBecomes d ((c.ordered k src).arrived u.now)).arbitrated u.handed) ∧
    (c.overtravel = false → n = p → p = c.homePosition → c.homeInput = false → c.stepDue.isSome = true →
      u.order d percent k src =
        (u.damperBecomes d { c.ordered k src with target := some n, overtravel := true, stepCount := 0 }).arbitrated
          u.handed) := by
  have bound : d.val < 8 := d.isLt
  subst is n_eq
  have start := State.Mirrors.start u
  have run : u.work.takeOrder d percent k src =
      (u.work.takeMoving d (toSteps u.ddr.dampers[d].settings.span percent) k src).grant := by
    simp only [Work.takeOrder, State.work_damper, moving]
  have kept := Ddr.Weak.takeMoving (w := u.work) weak moving (toSteps u.ddr.dampers[d].settings.span percent) k src
  have lawful := Ddr.Weak.lawful (w := u.work) weak d
  simp only [Damper.Lawful, State.work_damper, moving] at lawful
  obtain ⟨-, -, -, -, -, deferred, -⟩ := lawful
  refine ⟨fun search => ?_, fun onTheWay ahead => ?_, fun onTheWay back => ?_, fun onTheWay here home l lane => ?_,
    fun onTheWay here home noInput due => ?_⟩
  · rw [Work.takeMoving_overtravel (w := u.work) search] at run kept
    exact (start.damperBecomes d _).granted kept run
  all_goals rw [Work.takeMoving_onTheWay (w := u.work) moving onTheWay position target] at run kept
  · rw [if_neg (by omega), if_pos (by omega)] at run kept
    exact (start.damperBecomes d _).granted kept run
  · rw [if_neg (by omega), if_neg (by omega)] at run kept
    refine (start.reverses ?_ ?_ ?_).granted kept run
    · rfl
    · exact fun settling => absurd (moving.symm.trans settling) (by decide)
    · intro at_n
      have := Option.some.inj (position.symm.trans at_n)
      omega
  · rw [if_pos here] at run kept
    have away : u.ddr.dampers[d].position ≠ some u.ddr.dampers[d].homePosition ∨ u.ddr.dampers[d].homeInput = true :=
      home.imp_left fun away at_home => away (Option.some.inj (position.symm.trans at_home))
    rw [Work.arriveChecked_away (by exact away)] at run kept
    refine State.Mirrors.granted ?_ kept run
    rw [← Damper.arrived_target (u.ddr.dampers[d].ordered k src) u.now]
    exact start.arrives lane lane rfl (fun idle => absurd (moving.symm.trans idle) (by decide)) deferred
  · rw [if_pos here] at run kept
    refine State.Mirrors.granted ?_ kept run
    refine State.Mirrors.like ?_ (Work.arriveChecked_search rfl ?_ noInput)
    · obtain ⟨due, at_due⟩ := Option.isSome_iff_exists.mp due
      simp only [show u.work.damper d = u.ddr.dampers[d] from rfl, Damper.ordered, at_due, Option.getD_some]
      exact start.damperBecomes d _
    · exact position.trans (congrArg some home)

theorem State.order_homing (weak : u.ddr.Weak present laid) (is : u.ddr.dampers[d] = c) (homing : c.state = .homing)
    (percent : Nat) (n_eq : toSteps c.settings.span percent = n) :
    u.order d percent k src = (u.damperBecomes d
      { c.ordered k src with
        pending := some n, last := if c.pending.isSome then .superseded else c.last }).arbitrated u.handed := by
  subst is n_eq
  refine ((State.Mirrors.start u).damperBecomes d _).granted (Ddr.Weak.takeHoming (w := u.work) weak homing _ k src) ?_
  simp only [Work.takeOrder, State.work_damper, homing]
  rfl

theorem State.order_settling (weak : u.ddr.Weak present laid) (is : u.ddr.dampers[d] = c) (settling : c.state = .settling)
    (percent : Nat) (n_eq : toSteps c.settings.span percent = n) :
    (c.lane = none →
      u.order d percent k src = (u.damperBecomes d { c with deferred := some ⟨n, k, src⟩ }).arbitrated u.handed) ∧
    (c.lane.isSome = true →
      u.order d percent k src =
        (u.damperBecomes d { c.ordered k src with target := some n, last := .superseded }).arbitrated u.handed) := by
  have bound := d.isLt
  subst is n_eq
  have start := State.Mirrors.start u
  have run : u.work.takeOrder d percent k src =
      (u.work.takeSettling d (toSteps u.ddr.dampers[d].settings.span percent) k src).grant := by
    simp only [Work.takeOrder, State.work_damper, settling]
  have kept := Ddr.Weak.takeSettling (w := u.work) weak settling (toSteps u.ddr.dampers[d].settings.span percent) k src
  simp only [Work.takeSettling] at run kept
  refine ⟨fun released => ?_, fun held => ?_⟩
  · rw [if_pos (Option.isNone_iff_eq_none.mpr (by exact released))] at run kept
    exact (start.damperBecomes d _).granted kept run
  · rw [if_neg (by rw [Option.isNone_iff_eq_none]; exact Option.isSome_iff_ne_none.mp held)] at run kept
    exact (start.damperBecomes d _).granted kept run

/-- A MOVE in CONFIG is an order of the LINK, and its reply. -/
theorem execMove_eq {s : State} (config : s.part.state = .config) (percent cls : Byte) (small : cls.toNat ≤ 1) :
    exec (.move (BitVec.ofNat 8 d.val) percent cls) s =
      .next ((s.replied (.move (BitVec.ofNat 8 d.val) percent cls) 0xB1#8
        [if s.ddr.dampers[d].state = .absent then 23#8 else if s.ddr.dampers[d].state = .jammed then 25#8
          else if 100 < percent.toNat then 1#8 else 0#8]).order d (min 100 percent.toNat)
        (if cls = 1#8 then .safety else .normal) .link) := by
  have outside : s.part.state ≠ .init := by simp [config]
  show execMove _ percent cls s = _
  rw [execMove, State.take_next _ _ _ outside]
  have idle : (s.strike (.move (BitVec.ofNat 8 d.val) percent cls)).inRun = false := by simp [State.inRun, config]
  simp only [idle, indexOf_ofNat 8 d (by decide)]
  rw [if_neg (by simp), if_neg (Nat.not_lt.mpr small), Nat.min_comm]
  have told : ∀ st, ((s.strike (.move (BitVec.ofNat 8 d.val) percent cls)).order d (min 100 percent.toNat)
      (OrderClass.ofField cls) .link).status .move st = (s.replied (.move (BitVec.ofNat 8 d.val) percent cls) 0xB1#8
        [st.code]).order d (min 100 percent.toNat) (if cls = 1#8 then .safety else .normal) .link := by
    intro st
    rw [State.order, State.drive_status, State.strike_status]
    rfl
  simp only [told]
  generalize is : s.ddr.dampers[d].state = state
  rw [show ((s.strike (.move (BitVec.ofNat 8 d.val) percent cls)).damper d).state = state from is]
  cases state <;> simp only [clampStatus_code, decide_eq_true_eq] <;> rfl

/-- An order that the owner gives in any part state, and a MOVE in CONFIG: the records that the one and the other leave. -/
theorem order_and_move {s : State} {percent cls status : Byte} (small : cls.toNat ≤ 1) {f : State → OrderSource → State}
    (answer : (if s.ddr.dampers[d].state = .absent then 23#8 else if s.ddr.dampers[d].state = .jammed then 25#8
      else if 100 < percent.toNat then 1#8 else 0#8) = status)
    (orders : ∀ (u : State) (src : OrderSource), u.ddr = s.ddr → u.now = s.now →
      u.order d (min 100 percent.toNat) (if cls = 1#8 then .safety else .normal) src = (f u src).arbitrated u.handed)
    (src : OrderSource) :
    (s.part.state = .config →
      exec (.move (BitVec.ofNat 8 d.val) percent cls) s =
        .next ((f (s.replied (.move (BitVec.ofNat 8 d.val) percent cls) 0xB1#8 [status]) .link).arbitrated
          (s.handed.erase (.move (BitVec.ofNat 8 d.val) percent cls)))) ∧
    s.order d (min 100 percent.toNat) (if cls = 1#8 then .safety else .normal) src = (f s src).arbitrated s.handed := by
  refine ⟨fun config => ?_, orders s src rfl rfl⟩
  rw [execMove_eq config percent cls small, answer]
  exact congrArg Host.Outcome.next (orders (s.replied _ 0xB1#8 [status]) .link rfl rfl)

end Orders

end Sys2Proof.Machine

namespace Sys2Proof
open Sys2Proof.Machine

/-- Settles O45, by the state of the damper. -/
theorem ordersByDamperState : Obligations.OrdersByDamperState := by
  intro d percent cls src s small law room c cmd n k home ok inHand takes
  have bound := d.isLt
  have weak := ((State.driveLaw_iff s).mp law).1
  have all : ∀ {status : Byte} {f : State → OrderSource → State},
      (if c.state = .absent then 23#8 else if c.state = .jammed then 25#8 else ok) = status →
      (∀ (u : State) (src : OrderSource), u.ddr = s.ddr → u.now = s.now →
        u.order d (min 100 percent.toNat) k src = (f u src).arbitrated u.handed) → takes status f :=
    fun answer orders => order_and_move small answer orders src
  clear_value takes
  have okay : c.state ≠ .absent → c.state ≠ .jammed →
      (if c.state = .absent then 23#8 else if c.state = .jammed then 25#8 else ok) = ok :=
    fun there works => (if_neg there).trans (if_neg works)
  refine ⟨fun absent => ?_, fun jammed => ?_, fun unhomed => ?_, fun idle t target => ?_,
    fun waits o queued => ?_, fun moving p position t target => ?_, fun homing => ?_, fun settling released => ?_, fun settling held => ?_⟩
  · refine all (if_pos absent) ?_
    intro u src ddr _
    exact State.order_refused (ddr ▸ weak) (by rw [ddr]) (.inl absent) _
  · refine all ((if_neg (by simp [jammed])).trans (if_pos jammed)) ?_
    intro u src ddr _
    exact State.order_refused (ddr ▸ weak) (by rw [ddr]) (.inr jammed) _
  · refine all (okay (by simp [unhomed]) (by simp [unhomed])) ?_
    intro u src ddr _
    exact State.order_unhomed (ddr ▸ weak) (by rw [ddr]) unhomed (ddr ▸ room) _
  · have orders := fun (u : State) (src : OrderSource) (ddr : u.ddr = s.ddr) =>
      State.order_idle (k := k) (src := src) (ddr ▸ weak) (by rw [ddr] : u.ddr.dampers[d] = c) idle target
        (min 100 percent.toNat) (n := n) rfl
    refine ⟨fun near => ?_, fun far done => ?_, fun far away => ?_⟩ <;>
      refine all (okay (by simp [idle]) (by simp [idle])) ?_ <;> intro u src ddr _
    · exact (orders u src ddr).1 near
    · exact (orders u src ddr).2.1 far done
    · exact (orders u src ddr).2.2 far away (ddr ▸ room)
  · have orders := fun (u : State) (src : OrderSource) (ddr : u.ddr = s.ddr) =>
      State.order_waiting (k := k) (src := src) (ddr ▸ weak) (by rw [ddr] : u.ddr.dampers[d] = c) waits
        (ddr ▸ queued : u.ddr.queuedOrder d = some o) (min 100 percent.toNat) (n := n) rfl
    have okay := okay (by simp [waits]) (by simp [waits])
    cases goal : o.goal with
    | move t =>
      refine ⟨fun _ done => ?_, fun _ away => ?_, nofun⟩ <;> refine all okay ?_ <;> intro u src ddr _
      · rw [← ddr]
        exact (orders u src ddr).1 t goal done
      · rw [← ddr]
        exact (orders u src ddr).2.1 t goal away
    | home p =>
      refine ⟨nofun, nofun, fun _ => all okay ?_⟩
      intro u src ddr _
      rw [← ddr]
      exact (orders u src ddr).2.2 p goal
  · have orders := fun (u : State) (src : OrderSource) (ddr : u.ddr = s.ddr) =>
      State.order_moving (k := k) (src := src) (ddr ▸ weak) (by rw [ddr] : u.ddr.dampers[d] = c) moving position target
        (min 100 percent.toNat) (n := n) rfl
    have okay := okay (by simp [moving]) (by simp [moving])
    refine ⟨fun search => ?_, fun onTheWay ahead => ?_, fun onTheWay back => ?_, fun onTheWay here home l lane => ?_,
      fun onTheWay here home noInput due => ?_⟩ <;> refine all okay ?_ <;> intro u src ddr now
    · obtain ⟨arrives, -⟩ := orders u src ddr
      exact arrives search
    · obtain ⟨-, goes, -⟩ := orders u src ddr
      exact goes onTheWay ahead
    · obtain ⟨-, -, reverses, -⟩ := orders u src ddr
      exact reverses onTheWay back
    · obtain ⟨-, -, -, arrives, -⟩ := orders u src ddr
      rw [← now]
      exact arrives onTheWay here home l lane
    · obtain ⟨-, -, -, -, searches⟩ := orders u src ddr
      exact searches onTheWay here home noInput due
  · refine all (okay (by simp [homing]) (by simp [homing])) ?_
    intro u src ddr _
    exact State.order_homing (ddr ▸ weak) (by rw [ddr]) homing _ rfl
  · refine all (okay (by simp [settling]) (by simp [settling])) ?_
    intro u src ddr _
    exact (State.order_settling (ddr ▸ weak) (by rw [ddr]) settling _ rfl).1 released
  · refine all (okay (by simp [settling]) (by simp [settling])) ?_
    intro u src ddr _
    exact (State.order_settling (ddr ▸ weak) (by rw [ddr]) settling _ rfl).2 held

end Sys2Proof

/-! ### Steps, settles and HOME (R95, R100 to R107) -/

namespace Sys2Proof.Machine

section Events

variable {s t u : State} {w : Work} {present : DamperIx → Bool} {laid : LaneIx → Bool} {d : DamperIx} {l : LaneIx}
  {c c₁ c₂ : Damper}

/-- A record replaced twice, its state as it stood at first. -/
theorem Work.putDamper_putDamper (same : c₁.state = (w.damper d).state) :
    (w.putDamper d c₁).putDamper d c₂ = w.putDamper d c₂ := by
  have changed : ((w.putDamper d c₁).putDamper d c₂).changed = (w.putDamper d c₂).changed := by
    rw [Work.changed_putDamper, Work.changed_putDamper, Work.changed_putDamper, DriveUnit.ifMoved_same _ same,
      Work.damper_putDamper, List.append_nil, same]
  have ddr : ((w.putDamper d c₁).putDamper d c₂).ddr = (w.putDamper d c₂).ddr := by simp [Work.putDamper]
  calc (w.putDamper d c₁).putDamper d c₂
      = { w.putDamper d c₂ with
          ddr := ((w.putDamper d c₁).putDamper d c₂).ddr
          changed := ((w.putDamper d c₁).putDamper d c₂).changed } := rfl
    _ = w.putDamper d c₂ := by rw [ddr, changed]

/-! #### Steps -/

theorem Work.moveStep_eq {p n : Nat} (moving : (w.damper d).state = .moving)
    (onTheWay : (w.damper d).overtravel = false) (position : (w.damper d).position = some p)
    (target : (w.damper d).target = some n) :
    w.moveStep d =
      if n = (if p < n then p + 1 else p - 1) then
        (w.putDamper d { w.damper d with position := some (if p < n then p + 1 else p - 1), stepDue := none }).arriveChecked d
      else w.putDamper d
        { w.damper d with
          position := some (if p < n then p + 1 else p - 1), stepDue := some (w.now + (w.damper d).period) } := by
  have up := Damper.stepsUp_moving moving onTheWay position target
  simp only [Work.moveStep, up, position, target, Option.getD_some, decide_eq_true_eq, Option.some.injEq]

theorem Work.stepComplete_moving (moving : (w.damper d).state = .moving) (onTheWay : (w.damper d).overtravel = false) :
    w.stepComplete d = ((w.pulse d).moveStep d).grant := by
  simp only [Work.stepComplete, moving, onTheWay, Bool.false_eq_true, if_false]

theorem Work.stepComplete_overtravel (moving : (w.damper d).state = .moving) (search : (w.damper d).overtravel = true) :
    w.stepComplete d = ((w.pulse d).searchStep d 16).grant := by
  simp only [Work.stepComplete, moving, search, if_true]

theorem Work.stepComplete_homing (homing : (w.damper d).state = .homing) :
    w.stepComplete d = ((w.pulse d).searchStep d ((w.damper d).settings.span + 64)).grant := by
  simp only [Work.stepComplete, homing]

@[simp] theorem Work.now_pulse (w : Work) (d : DamperIx) : (w.pulse d).now = w.now := by
  unfold Work.pulse
  split <;> rfl

/-- A step of a search, short of its limit or at it. -/
theorem State.Mirrors.searchStep (m : s.Mirrors w t) (holds : (w.damper d).lane = some l) (limit : Nat) :
    ((w.damper d).stepCount + 1 < limit →
      s.Mirrors (w.searchStep d limit) (t.damperBecomes d
        { w.damper d with
          stepCount := (w.damper d).stepCount + 1, stepDue := some (w.now + (w.damper d).period) })) ∧
    (limit ≤ (w.damper d).stepCount + 1 →
      s.Mirrors (w.searchStep d limit)
        { (t.laneFreed l).damperBecomes d (w.damper d).nowJammed with atn := t.atn.raise asDamper (d.val + 256) }) := by
  refine ⟨fun short => ?_, fun out => ?_⟩
  · rw [show w.searchStep d limit = _ from if_neg (Nat.not_le.mpr short)]
    exact m.damperBecomes d _
  · rw [show w.searchStep d limit = w.jam d from if_pos out]
    exact ((m.laneFreed holds).damperBecomes d _).raise asDamper _

/-- What a step completion leaves to be granted keeps the law. -/
theorem Ddr.Weak.stepped (h : w.ddr.Weak present laid) (works : (w.damper d).state = .homing ∨ (w.damper d).state = .moving) :
    (∀ limit, ((w.pulse d).searchStep d limit).ddr.Weak present laid) ∧
      ((w.damper d).state = .moving → ((w.pulse d).moveStep d).ddr.Weak present laid) := by
  have there := h.there (d := d) (by rcases works with state | state <;> simp [state])
  have unqueued := h.unqueued (d := d) (by rcases works with state | state <;> simp [state])
  have apart := (h.open d).pulse rfl
  have lawful := h.lawful d
  rw [unqueued] at apart lawful
  refine ⟨fun limit => apart.searchStep ?_ there ?_ ?_ limit, fun moving => apart.moveStep ?_ there ?_ ?_⟩ <;>
    simp only [Work.damper_pulse] <;> assumption

theorem exec_stepCompletion (outside : s.part.state ≠ .init) :
    exec (.stepCompletion d) s = .next (s.drive fun w => w.stepComplete d) := by
  show execStepCompletion d s = _
  exact State.own_next s _ outside

theorem State.stepCompletion_moving (weak : s.ddr.Weak present laid) (outside : s.part.state ≠ .init)
    (is : s.ddr.dampers[d] = c) (holds : c.lane = some l) (moving : c.state = .moving) (onTheWay : c.overtravel = false)
    {p n : Nat} (position : c.position = some p) (target : c.target = some n) {q : Nat}
    (q_eq : (if p < n then p + 1 else p - 1) = q) :
    (q ≠ n → exec (.stepCompletion d) s = .next (((s.pulsed l).damperBecomes d
      { c with position := some q, stepDue := some (s.now + c.period) }).arbitrated s.handed)) ∧
    (q = n → q ≠ c.homePosition ∨ c.homeInput = true → exec (.stepCompletion d) s =
      .next ((((s.pulsed l).laneFreed l).damperBecomes d
        (({ c with position := some q } : Damper).arrived s.now)).arbitrated s.handed)) ∧
    (q = n → q = c.homePosition → c.homeInput = false → exec (.stepCompletion d) s =
      .next (((s.pulsed l).damperBecomes d
        { c with
          position := some q, overtravel := true, stepCount := 0
          stepDue := some (s.now + c.period) }).arbitrated s.handed)) := by
  subst is
  have taken := exec_stepCompletion (d := d) outside
  have lawful := Ddr.Weak.lawful (w := s.work) weak d
  simp only [Damper.Lawful, State.work_damper, moving] at lawful
  obtain ⟨-, -, -, -, -, deferred, -⟩ := lawful
  have run := Work.stepComplete_moving (w := s.work) (d := d) moving onTheWay
  have kept := (Ddr.Weak.stepped (w := s.work) (d := d) weak (.inr moving)).2 moving
  have step := Work.moveStep_eq (w := s.work.pulse d) (d := d) (p := p) (n := n)
  simp only [Work.damper_pulse, Work.now_pulse, q_eq] at step
  rw [step moving onTheWay position target] at run kept
  have pulsed := (State.Mirrors.start s).pulsed (d := d) holds
  have still : (s.work.damper d).state = ((s.work.pulse d).damper d).state := by rw [Work.damper_pulse]
  refine ⟨fun short => ?_, fun there away => ?_, fun there home noInput => ?_⟩ <;>
    refine taken.trans (congrArg Host.Outcome.next ?_)
  · rw [if_neg (Ne.symm short)] at run kept
    exact (pulsed.damperBecomes d _).granted kept run
  · rw [if_pos there.symm, Work.arriveChecked_away ?_] at run kept
    · refine State.Mirrors.granted ?_ kept run
      exact pulsed.arrives (d := d) (by rw [Work.damper_pulse]; exact holds) holds still
        (fun idle => absurd (moving.symm.trans idle) (by decide)) deferred
    · exact away.imp_left fun away here => away (Option.some.inj here)
    · exact away.imp_left fun away here => away (Option.some.inj here)
  · rw [if_pos there.symm] at run kept
    refine State.Mirrors.granted ?_ kept run
    refine State.Mirrors.like ?_ (Work.arriveChecked_search ?_ ?_ ?_)
    · simp only [Work.now_pulse]
      exact pulsed.damperBecomes d _
    · exact still
    · exact congrArg some home
    · exact noInput

theorem State.stepCompletion_search (weak : s.ddr.Weak present laid) (outside : s.part.state ≠ .init)
    (is : s.ddr.dampers[d] = c) (holds : c.lane = some l) {limit : Nat}
    (searches : c.state = .moving ∧ c.overtravel = true ∧ limit = 16 ∨
      c.state = .homing ∧ limit = c.settings.span + 64) :
    (c.stepCount + 1 < limit → exec (.stepCompletion d) s = .next (((s.pulsed l).damperBecomes d
      { c with stepCount := c.stepCount + 1, stepDue := some (s.now + c.period) }).arbitrated s.handed)) ∧
    (limit ≤ c.stepCount + 1 → exec (.stepCompletion d) s =
      .next (({ ((s.pulsed l).laneFreed l).damperBecomes d c.nowJammed with
        atn := s.atn.raise asDamper (d.val + 256) } : State).arbitrated s.handed)) := by
  have bound := d.isLt
  subst is
  have taken := exec_stepCompletion (d := d) outside
  have run : s.work.stepComplete d = ((s.work.pulse d).searchStep d limit).grant := by
    rcases searches with ⟨moving, search, rfl⟩ | ⟨homing, rfl⟩
    · exact Work.stepComplete_overtravel moving search
    · exact Work.stepComplete_homing homing
  have works : s.ddr.dampers[d].state = .homing ∨ s.ddr.dampers[d].state = .moving :=
    searches.elim (fun h => .inr h.1) fun h => .inl h.1
  have kept := (Ddr.Weak.stepped (w := s.work) (d := d) weak works).1 limit
  have pulsed := (State.Mirrors.start s).pulsed (d := d) holds
  obtain ⟨short, out⟩ := pulsed.searchStep (d := d) (by rw [Work.damper_pulse]; exact holds) limit
  simp only [Work.damper_pulse, Work.now_pulse] at short out
  exact ⟨fun h => taken.trans (congrArg Host.Outcome.next ((short h).granted kept run)),
    fun h => taken.trans (congrArg Host.Outcome.next ((out h).granted kept run))⟩

/-! #### Settles -/

theorem exec_settleTimerExpiry (outside : s.part.state ≠ .init) :
    exec (.settleTimerExpiry d) s = .next (s.drive fun w => w.settleExpire d) := by
  show execSettleTimerExpiry d s = _
  exact State.own_next s _ outside

theorem Work.settleExpire_eq (runs : (w.damper d).settle.isSome = true) :
    w.settleExpire d = (if (w.damper d).lane.isNone = true then w.settled d else w.continueMove d).grant := by
  obtain ⟨due, settle⟩ := Option.isSome_iff_exists.mp runs
  simp only [Work.settleExpire, settle]

/-- R103: a damper at rest after its settle. -/
def Damper.done (c : Damper) : Damper :=
  { c with state := .idle, settle := none, order := none, last := .done, deferred := none }

@[simp] theorem Work.damper_enqueueNew (w : Work) (d e : DamperIx) (g : Goal) (k : OrderClass) (src : OrderSource) :
    (w.enqueueNew d g k src).damper e = w.damper e :=
  congrArg (fun v : Vector Damper 8 => v[e]) (Work.dampers_advanceSeq (w.enqueue ⟨d, g, k, src, w.ddr.seq⟩))

theorem Work.enqueueNew_putDamper (w : Work) (d e : DamperIx) (c : Damper) (g : Goal) (k : OrderClass)
    (src : OrderSource) : (w.putDamper e c).enqueueNew d g k src = (w.enqueueNew d g k src).putDamper e c := by
  unfold Work.enqueueNew Work.advanceSeq
  by_cases room : w.ddr.seq + 1 < 4294967296
  · rw [if_pos (by exact room), if_pos (by exact room)]
    rfl
  · rw [if_neg (by exact room), if_neg (by exact room)]
    rfl

/-- R103: the order that was deferred to the end of a settle. -/
theorem Work.settled_like {o : DeferredOrder} {n : Nat} (deferred : (w.damper d).deferred = some o)
    (target : (w.damper d).target = some n) (settling : (w.damper d).state = .settling) :
    (o.cls = .normal ∧ o.target ≤ n + 8 ∧ n ≤ o.target + 8 ∨ (w.damper d).position = some o.target →
      (w.settled d).Like (w.putDamper d (w.damper d).done)) ∧
    (¬ (o.cls = .normal ∧ o.target ≤ n + 8 ∧ n ≤ o.target + 8) → (w.damper d).position ≠ some o.target →
      (w.settled d).Like ((w.enqueueNew d (.move o.target) o.cls o.source).putDamper d
        { (w.damper d).done with state := .waiting, target := some o.target })) := by
  have settled : w.settled d = (w.putDamper d (w.damper d).done).takeIdle d o.target o.cls o.source := by
    simp only [Work.settled, deferred]
    rfl
  have target' : ((w.putDamper d (w.damper d).done).damper d).target = some n := by
    rw [Work.damper_putDamper]
    exact target
  rw [settled]
  refine ⟨fun drops => ?_, fun far away => ?_⟩
  · by_cases near : o.cls = .normal ∧ o.target ≤ n + 8 ∧ n ≤ o.target + 8
    · rw [Work.takeIdle_near target' near]
      exact .refl _
    · rw [Work.takeIdle_far target' near, Work.damper_putDamper, if_pos (by exact drops.resolve_left near)]
      exact w.putDamper_putDamper_like (.inr (by simp [Damper.done, settling]))
  · rw [Work.takeIdle_far target' far, Work.damper_putDamper, if_neg (by exact away),
      Work.enqueueNew_putDamper]
    exact (w.enqueueNew d _ _ _).putDamper_putDamper_like (.inr (by simp [settling]))

theorem State.settleTimerExpiry_arrived (weak : s.ddr.Weak present laid) (outside : s.part.state ≠ .init)
    (is : s.ddr.dampers[d] = c) (runs : c.settle.isSome = true) (released : c.lane = none) :
    (c.deferred = none → exec (.settleTimerExpiry d) s = .next ((s.damperBecomes d c.done).arbitrated s.handed)) ∧
    (∀ o n, c.deferred = some o → c.target = some n →
      (o.cls = .normal ∧ o.target ≤ n + 8 ∧ n ≤ o.target + 8 ∨ c.position = some o.target →
        exec (.settleTimerExpiry d) s = .next ((s.damperBecomes d c.done).arbitrated s.handed)) ∧
      (¬ (o.cls = .normal ∧ o.target ≤ n + 8 ∧ n ≤ o.target + 8) → c.position ≠ some o.target →
        s.ddr.seq + 1 < 4294967296 →
        exec (.settleTimerExpiry d) s = .next (((s.queued d (.move o.target) o.cls o.source).damperBecomes d
          { c.done with state := .waiting, target := some o.target }).arbitrated s.handed))) := by
  have bound := d.isLt
  subst is
  have taken := exec_settleTimerExpiry (d := d) outside
  have run := Work.settleExpire_eq (w := s.work) (d := d) runs
  rw [if_pos (Option.isNone_iff_eq_none.mpr (by exact released))] at run
  have start := State.Mirrors.start s
  obtain ⟨-, -, -, -, -, settles, -⟩ := (Damper.lawful_iff _ _).mp (Ddr.Weak.lawful (w := s.work) weak d)
  have settling : s.ddr.dampers[d].state = .settling := settles.mp runs
  have kept := Ddr.Weak.settled (w := s.work) (d := d) weak settling released
  refine ⟨fun nothing => ?_, fun o n deferred target => ⟨fun drops => ?_, fun far away room => ?_⟩⟩ <;>
    refine taken.trans (congrArg Host.Outcome.next (State.Mirrors.granted ?_ kept run))
  · rw [show s.work.settled d = s.work.putDamper d s.ddr.dampers[d].done by
      simp only [Work.settled, State.work_damper, nothing]
      rfl]
    exact start.damperBecomes d _
  · exact (start.damperBecomes d _).like ((Work.settled_like (w := s.work) deferred target settling).1 drops)
  · exact ((start.queued d _ _ _ room).damperBecomes d _).like
      ((Work.settled_like (w := s.work) deferred target settling).2 far away)

theorem State.settleTimerExpiry_reversed (weak : s.ddr.Weak present laid) (outside : s.part.state ≠ .init)
    (is : s.ddr.dampers[d] = c) (runs : c.settle.isSome = true) (holds : c.lane = some l) :
    (c.target = c.position → exec (.settleTimerExpiry d) s = .next (((s.laneFreed l).damperBecomes d
      { c with
        state := .idle, lane := none, settle := none, order := none, stepDue := none, last := .done }).arbitrated
          s.handed)) ∧
    (c.target ≠ c.position → exec (.settleTimerExpiry d) s = .next ((s.damperBecomes d
      { c with state := .moving, settle := none, stepDue := some (s.now + c.period) }).arbitrated s.handed)) := by
  subst is
  have taken := exec_settleTimerExpiry (d := d) outside
  have run := Work.settleExpire_eq (w := s.work) (d := d) runs
  rw [if_neg (by rw [State.work_damper, holds]; simp)] at run
  have start := State.Mirrors.start s
  obtain ⟨-, -, -, -, -, settles, -⟩ := (Damper.lawful_iff _ _).mp (Ddr.Weak.lawful (w := s.work) weak d)
  have settling : s.ddr.dampers[d].state = .settling := settles.mp runs
  have kept := Ddr.Weak.continueMove (w := s.work) (d := d) weak settling (by rw [State.work_damper, holds]; rfl)
  refine ⟨fun there => ?_, fun away => ?_⟩ <;>
    refine taken.trans (congrArg Host.Outcome.next (State.Mirrors.granted ?_ kept run))
  · rw [show s.work.continueMove d = _ from if_pos there]
    exact (start.laneFreed (d := d) holds).damperBecomes d _
  · rw [show s.work.continueMove d = _ from if_neg away]
    exact start.damperBecomes d _

end Events

end Sys2Proof.Machine

namespace Sys2Proof
open Sys2Proof.Machine

/-- Settles O47, by the state of the damper that steps. -/
theorem steps : Obligations.Steps := by
  intro d l s outside law c home due jams answers holds
  have weak := ((State.driveLaw_iff s).mp law).1
  refine ⟨fun moving onTheWay p position t target => ?_, fun moving search => ?_, fun homing => ?_⟩
  · exact State.stepCompletion_moving weak outside rfl holds moving onTheWay position target rfl
  · exact State.stepCompletion_search weak outside rfl holds (.inl ⟨moving, search, rfl⟩)
  · exact State.stepCompletion_search weak outside rfl holds (.inr ⟨homing, rfl⟩)

/-- Settles O48, by the lane that the damper holds or has released. -/
theorem settles : Obligations.Settles := by
  intro d s outside law runs c rested answers
  have weak := ((State.driveLaw_iff s).mp law).1
  refine ⟨fun released => ?_, fun l holds => State.settleTimerExpiry_reversed weak outside rfl runs holds⟩
  obtain ⟨plain, deferred⟩ := State.settleTimerExpiry_arrived weak outside rfl runs released
  exact ⟨plain, fun o ho t ht => deferred o t ho ht⟩

end Sys2Proof

/-! ### HOME changes (R104 to R106) -/

namespace Sys2Proof.Machine

section Home

variable {s t u : State} {w : Work} {present : DamperIx → Bool} {laid : LaneIx → Bool} {d : DamperIx} {l : LaneIx}
  {c c₁ c₂ : Damper} {b : Bool}

/-- The record of a damper with HOME as it now stands. -/
def Damper.sees (c : Damper) (b : Bool) : Damper := { c with homeInput := b }

/-- R104, R105: the record of a damper at its home end with a slip of `n` steps. -/
def Damper.slipped (c : Damper) (n : Nat) : Damper :=
  { c with position := some c.homePosition, slip := min 65535 (c.slip + n) }

/-- What a slip of `n` steps has to raise. -/
def Work.warned (w : Work) (d : DamperIx) (c : Damper) (n : Nat) : Work :=
  if 0 < n ∧ 24 < min 65535 (c.slip + n) then w.alarm asDamper (d.val + 512) else w

theorem State.Mirrors.warned (m : s.Mirrors w t) (d : DamperIx) (c : Damper) (n : Nat) :
    s.Mirrors (w.warned d c n)
      { t with atn := if 0 < n ∧ 24 < min 65535 (c.slip + n) then t.atn.raise asDamper (d.val + 512) else t.atn } := by
  unfold Work.warned
  split
  · exact m.raise asDamper _
  · exact m

@[simp] theorem Work.damper_warned (w : Work) (d e : DamperIx) (c : Damper) (n : Nat) :
    (w.warned d c n).damper e = w.damper e := by
  unfold Work.warned
  split <;> rfl

@[simp] theorem Work.now_warned (w : Work) (d : DamperIx) (c : Damper) (n : Nat) : (w.warned d c n).now = w.now := by
  unfold Work.warned
  split <;> rfl

theorem Work.addSlip_eq (n : Nat) (same : c.state = (w.damper d).state) :
    (w.putDamper d c).addSlip d n =
      (w.warned d c n).putDamper d { c with slip := min 65535 (c.slip + n) } := by
  simp only [Work.addSlip, Work.damper_putDamper, Work.warned, Work.putDamper_putDamper same]
  split <;> rfl

theorem exec_homeChange (outside : s.part.state ≠ .init) :
    exec (.homeChange d b) s = .next ((s.strike (.homeChange d b)).drive fun w => w.homeChange d b) := by
  show execHomeChange d b s = _
  exact State.take_next s _ _ outside

theorem Work.homeChange_recorded
    (nothing : b = false ∨ (w.damper d).state ≠ .homing ∧ (w.damper d).state ≠ .moving) :
    w.homeChange d b = (w.putDamper d ((w.damper d).sees b)).grant := by
  simp only [Work.homeChange, Damper.sees]
  rcases nothing with rfl | ⟨notHoming, notMoving⟩
  · rfl
  · cases b with
    | false => rfl
    | true => cases state : (w.damper d).state <;> simp_all

theorem Work.homeChange_homing (homing : (w.damper d).state = .homing) :
    w.homeChange d true = ((w.putDamper d ((w.damper d).sees true)).homeFound d).grant := by
  simp only [Work.homeChange, Damper.sees, homing, if_true]

theorem Work.homeChange_moving (moving : (w.damper d).state = .moving) :
    w.homeChange d true =
      (if (w.damper d).overtravel = true then (w.putDamper d ((w.damper d).sees true)).overtravelFound d
        else (w.putDamper d ((w.damper d).sees true)).slipJudge d).grant := by
  simp only [Work.homeChange, Damper.sees, moving, if_true]

theorem Damper.sees_lawful {queued : Bool} : (c.sees b).Lawful queued ↔ c.Lawful queued := .rfl

theorem Ddr.Weak.sees (h : w.ddr.Weak present laid) (b : Bool) :
    (w.putDamper d ((w.damper d).sees b)).ddr.Weak present laid :=
  h.putDamper rfl .rfl (h.lawful d) fun _ => h.fitting

theorem Ddr.Weak.homeFound (h : w.ddr.Weak present laid) (homing : (w.damper d).state = .homing) :
    (w.homeFound d).ddr.Weak present laid := by
  have lawful := h.lawful d
  simp only [Damper.Lawful, homing] at lawful
  obtain ⟨-, holds, order, -, -, deferred, -⟩ := lawful
  have apart := h.open d
  rw [h.unqueued (by simp [homing])] at apart
  exact apart.homeFound rfl (h.there (by simp [homing])) homing holds order deferred

theorem Ddr.Weak.homeMet (h : w.ddr.Weak present laid) (moving : (w.damper d).state = .moving) :
    (w.overtravelFound d).ddr.Weak present laid ∧ (w.slipJudge d).ddr.Weak present laid := by
  have lawful := h.lawful d
  have apart := h.open d
  rw [h.unqueued (by simp [moving])] at apart lawful
  have there := h.there (d := d) (by simp [moving])
  exact ⟨apart.overtravelFound rfl there lawful moving, apart.slipJudge rfl there lawful moving⟩

/-- What HOME asserted leaves to be granted keeps the law. -/
theorem Ddr.Weak.homeSeen (h : w.ddr.Weak present laid) :
    ((w.damper d).state = .homing → ((w.putDamper d ((w.damper d).sees true)).homeFound d).ddr.Weak present laid) ∧
    ((w.damper d).state = .moving →
      ((w.putDamper d ((w.damper d).sees true)).overtravelFound d).ddr.Weak present laid ∧
      ((w.putDamper d ((w.damper d).sees true)).slipJudge d).ddr.Weak present laid) :=
  ⟨fun homing => (h.sees true).homeFound (by rw [Work.damper_putDamper]; exact homing),
    fun moving => (h.sees true).homeMet (by rw [Work.damper_putDamper]; exact moving)⟩

/-! #### HOME in a homing search -/

/-- R106: the record of a damper that has found its home end. -/
def Damper.found (c : Damper) : Damper := { c with position := some c.homePosition, slip := 0, stepCount := 0, pending := none }

theorem Work.homeFound_eq (same : c.state = (w.damper d).state) :
    (w.putDamper d c).homeFound d =
      if c.pending.getD c.homePosition = c.homePosition then
        (w.putDamper d { c.found with target := some c.homePosition }).arrive d
      else (w.putDamper d
        { c.found with
          target := some (c.pending.getD c.homePosition)
          order := c.order.map fun o => { o with kind := .move } }).reverse d (c.pending.getD c.homePosition) := by
  simp only [Work.homeFound, Work.damper_putDamper, Work.putDamper_putDamper same, Damper.found]

theorem State.damperReverses_target (t : State) (d : DamperIx) (c : Damper) (n : Nat) (x : Option Nat) :
    t.damperReverses d { c with target := x } n = t.damperReverses d c n := rfl

theorem State.homeChange_homing (weak : s.ddr.Weak present laid) (outside : s.part.state ≠ .init)
    (is : (s.ddr.dampers[d]).sees true = c) (holds : c.lane = some l) (homing : c.state = .homing) :
    let u : State := s.strike (.homeChange d true)
    (c.pending.getD c.homePosition = c.homePosition → exec (.homeChange d true) s =
      .next (((u.laneFreed l).damperBecomes d (c.found.arrived s.now)).arbitrated u.handed)) ∧
    (c.pending.getD c.homePosition ≠ c.homePosition → exec (.homeChange d true) s =
      .next ((u.damperReverses d { c.found with order := c.order.map fun o => { o with kind := .move } }
        (c.pending.getD c.homePosition)).arbitrated u.handed)) := by
  have bound := d.isLt
  subst is
  intro u
  have taken := exec_homeChange (d := d) (b := true) outside
  have start := State.Mirrors.start u
  have kept := (Ddr.Weak.homeSeen (w := u.work) (d := d) weak).1 homing
  have run := Work.homeChange_homing (w := u.work) (d := d) homing
  have lawful := Ddr.Weak.lawful (w := u.work) weak d
  simp only [Damper.Lawful, show (u.work.damper d).state = .homing from homing] at lawful
  obtain ⟨-, -, -, -, -, deferred, -⟩ := lawful
  rw [Work.homeFound_eq (by rfl)] at run kept
  refine ⟨fun here => ?_, fun away => ?_⟩ <;> refine taken.trans (congrArg Host.Outcome.next ?_)
  · rw [if_pos (by exact here)] at run kept
    refine State.Mirrors.granted ?_ kept run
    exact start.arrives (d := d) holds holds rfl (fun idle => absurd (homing.symm.trans idle) (by decide)) deferred
  · rw [if_neg (by exact away)] at run kept
    refine State.Mirrors.granted ?_ kept run
    rw [← State.damperReverses_target u d _ _ (some (((s.ddr.dampers[d]).sees true).pending.getD
      ((s.ddr.dampers[d]).sees true).homePosition))]
    exact start.reverses rfl (fun settling => absurd (homing.symm.trans settling) (by decide))
      fun here => away (Option.some.inj here).symm

/-! #### HOME while moving -/

theorem Work.overtravelFound_eq {n : Nat} (same : c.state = (w.damper d).state)
    (atHome : c.position = some c.homePosition) (target : c.target = some n) :
    (w.putDamper d c).overtravelFound d =
      if n = c.homePosition then
        ((w.warned d c c.stepCount).putDamper d { c.slipped c.stepCount with stepCount := 0, overtravel := false }).arrive d
      else
        ((w.warned d c c.stepCount).putDamper d
          { c.slipped c.stepCount with stepCount := 0, overtravel := false }).reverse d n := by
  have record : ({ c.slipped c.stepCount with stepCount := 0, overtravel := false } : Damper) =
      { c with slip := min 65535 (c.slip + c.stepCount), stepCount := 0, overtravel := false } := by
    rw [Damper.slipped, ← atHome]
  simp only [Work.overtravelFound, Work.damper_putDamper, Work.addSlip_eq _ same, target, Option.getD_some, record]
  rw [Work.putDamper_putDamper (by rw [Work.damper_warned]; exact same)]
  rfl

theorem Work.slipJudge_near {p : Nat} (position : c.position = some p)
    (near : (p - c.homePosition) + (c.homePosition - p) ≤ 16) :
    (w.putDamper d c).slipJudge d = w.putDamper d c := by
  simp only [Work.slipJudge, Work.damper_putDamper, position, Option.getD_some]
  exact if_pos near

theorem Work.slipJudge_far {p n far : Nat} (same : c.state = (w.damper d).state) (moving : c.state = .moving)
    (onTheWay : c.overtravel = false) (position : c.position = some p) (target : c.target = some n)
    (is : (p - c.homePosition) + (c.homePosition - p) = far) (beyond : 16 < far) :
    (w.putDamper d c).slipJudge d =
      if n = c.homePosition then ((w.warned d c far).putDamper d (c.slipped far)).arrive d
      else if c.homePosition < n ↔ p < n then (w.warned d c far).putDamper d (c.slipped far)
      else ((w.warned d c far).putDamper d (c.slipped far)).reverse d n := by
  have slip : (w.putDamper d { c with position := some c.homePosition }).addSlip d far =
      (w.warned d c far).putDamper d (c.slipped far) := Work.addSlip_eq far same
  have distance : stepDistance (c.position.getD 0) c.homePosition = far := by
    rw [position]
    exact is
  have goal : c.target.getD c.homePosition = n := by rw [target]; rfl
  simp only [Work.slipJudge, Work.damper_putDamper, distance, goal, Work.putDamper_putDamper same,
    Damper.stepsUp_moving moving onTheWay position target, decide_eq_decide]
  rw [if_neg (Nat.not_le.mpr beyond), slip]

/-- R104, R105: what `n` steps of slip leave of ATN. -/
def State.toldOf (s : State) (d : DamperIx) (c : Damper) (n : Nat) (t : State) : State :=
  { t with atn := if 0 < n ∧ 24 < min 65535 (c.slip + n) then s.atn.raise asDamper (d.val + 512) else s.atn }

theorem State.homeChange_moving (weak : s.ddr.Weak present laid) (outside : s.part.state ≠ .init)
    (is : (s.ddr.dampers[d]).sees true = c) (holds : c.lane = some l) (moving : c.state = .moving)
    (onTheWay : c.overtravel = false) {p n far : Nat} (position : c.position = some p) (target : c.target = some n)
    (far_eq : (p - c.homePosition) + (c.homePosition - p) = far) :
    let u : State := s.strike (.homeChange d true)
    let answers (t : State) : Prop := exec (.homeChange d true) s = .next (t.arbitrated u.handed)
    (far ≤ 16 → answers (u.damperBecomes d c)) ∧
    (16 < far → n = c.homePosition →
      answers (s.toldOf d c far ((u.laneFreed l).damperBecomes d ((c.slipped far).arrived s.now)))) ∧
    (16 < far → n ≠ c.homePosition → (c.homePosition < n ↔ p < n) →
      answers (s.toldOf d c far (u.damperBecomes d (c.slipped far)))) ∧
    (16 < far → n ≠ c.homePosition → ¬ (c.homePosition < n ↔ p < n) →
      answers (s.toldOf d c far (u.damperReverses d (c.slipped far) n))) := by
  have bound : d.val < 8 := d.isLt
  subst is
  intro u answers
  have taken := exec_homeChange (d := d) (b := true) outside
  have start := State.Mirrors.start u
  have kept := ((Ddr.Weak.homeSeen (w := u.work) (d := d) weak).2 moving).2
  have run := Work.homeChange_moving (w := u.work) (d := d) moving
  rw [if_neg (ne_true_of_eq_false (by exact onTheWay)), show u.work.damper d = s.ddr.dampers[d] from rfl] at run
  rw [show u.work.damper d = s.ddr.dampers[d] from rfl] at kept
  have lawful := Ddr.Weak.lawful (w := u.work) weak d
  simp only [Damper.Lawful, show (u.work.damper d).state = .moving from moving] at lawful
  obtain ⟨-, -, -, -, -, deferred, -⟩ := lawful
  have warned := start.warned d ((s.ddr.dampers[d]).sees true) far
  have still : ((s.ddr.dampers[d]).sees true).state =
      ((u.work.warned d ((s.ddr.dampers[d]).sees true) far).damper d).state := by rw [Work.damper_warned]; rfl
  refine ⟨fun near => ?_, fun beyond here => ?_, fun beyond away ahead => ?_, fun beyond away back => ?_⟩ <;>
    refine taken.trans (congrArg Host.Outcome.next ?_)
  · rw [Work.slipJudge_near position (by exact far_eq ▸ near)] at run kept
    exact (start.damperBecomes d _).granted kept run
  all_goals
    rw [Work.slipJudge_far (by rfl) moving onTheWay position target far_eq beyond] at run kept
    refine State.Mirrors.granted ?_ kept run
  · rw [if_pos here]
    exact warned.arrives (d := d) (by rw [Work.damper_warned]; exact holds) holds still
      (fun idle => absurd (moving.symm.trans idle) (by decide)) deferred
  · rw [if_neg away, if_pos ahead]
    exact warned.damperBecomes d _
  · rw [if_neg away, if_neg back]
    exact warned.reverses still (fun settling => absurd (moving.symm.trans settling) (by decide))
      fun here => away (Option.some.inj here).symm

theorem State.homeChange_overtravel (weak : s.ddr.Weak present laid) (outside : s.part.state ≠ .init)
    (is : (s.ddr.dampers[d]).sees true = c) (holds : c.lane = some l) (moving : c.state = .moving)
    (search : c.overtravel = true) (atHome : c.position = some c.homePosition) {n : Nat} (target : c.target = some n) :
    let u : State := s.strike (.homeChange d true)
    let answers (t : State) : Prop := exec (.homeChange d true) s = .next (t.arbitrated u.handed)
    (n = c.homePosition →
      answers (s.toldOf d c c.stepCount ((u.laneFreed l).damperBecomes d ((c.slipped c.stepCount).arrived s.now)))) ∧
    (n ≠ c.homePosition → answers (s.toldOf d c c.stepCount (u.damperReverses d (c.slipped c.stepCount) n))) := by
  have bound : d.val < 8 := d.isLt
  subst is
  intro u answers
  have taken := exec_homeChange (d := d) (b := true) outside
  have start := State.Mirrors.start u
  have kept := ((Ddr.Weak.homeSeen (w := u.work) (d := d) weak).2 moving).1
  have run := Work.homeChange_moving (w := u.work) (d := d) moving
  rw [if_pos (by exact search), show u.work.damper d = s.ddr.dampers[d] from rfl] at run
  rw [show u.work.damper d = s.ddr.dampers[d] from rfl] at kept
  have lawful := Ddr.Weak.lawful (w := u.work) weak d
  simp only [Damper.Lawful, show (u.work.damper d).state = .moving from moving] at lawful
  obtain ⟨-, -, -, -, -, deferred, -⟩ := lawful
  have warned := start.warned d ((s.ddr.dampers[d]).sees true) ((s.ddr.dampers[d]).sees true).stepCount
  have still : ((s.ddr.dampers[d]).sees true).state =
      ((u.work.warned d ((s.ddr.dampers[d]).sees true) ((s.ddr.dampers[d]).sees true).stepCount).damper d).state := by
    rw [Work.damper_warned]
    rfl
  refine ⟨fun here => ?_, fun away => ?_⟩ <;> refine taken.trans (congrArg Host.Outcome.next ?_)
  all_goals
    rw [Work.overtravelFound_eq (by rfl) atHome target] at run kept
    refine State.Mirrors.granted ?_ kept run
  · rw [if_pos here]
    exact warned.arrives (d := d) (by rw [Work.damper_warned]; exact holds) holds still
      (fun idle => absurd (moving.symm.trans idle) (by decide)) deferred
  · rw [if_neg away]
    exact warned.reverses still (fun settling => absurd (moving.symm.trans settling) (by decide))
      fun here => away (Option.some.inj here).symm

theorem State.homeChange_recorded (weak : s.ddr.Weak present laid) (outside : s.part.state ≠ .init)
    (is : (s.ddr.dampers[d]).sees b = c) (nothing : b = false ∨ c.state ≠ .homing ∧ c.state ≠ .moving) :
    exec (.homeChange d b) s =
      .next (((s.strike (.homeChange d b)).damperBecomes d c).arbitrated (s.strike (.homeChange d b)).handed) := by
  subst is
  refine (exec_homeChange outside).trans (congrArg Host.Outcome.next ?_)
  exact ((State.Mirrors.start (s.strike (.homeChange d b))).damperBecomes d _).granted
    (Ddr.Weak.sees (w := (s.strike (.homeChange d b)).work) weak b) (Work.homeChange_recorded nothing)

end Home

end Sys2Proof.Machine

namespace Sys2Proof
open Sys2Proof.Machine

/-- Settles O49, by the state of the damper at whose end HOME changes. -/
theorem homeInputs : Obligations.HomeInputs := by
  intro d b s outside law c cmd u home answers slipped told
  have weak := ((State.driveLaw_iff s).mp law).1
  refine ⟨State.homeChange_recorded weak outside rfl, fun on l holds => ?_⟩
  subst on
  refine ⟨fun homing => ?_, fun moving onTheWay p position t target => ?_, fun moving search atHome t target => ?_⟩
  · exact State.homeChange_homing weak outside rfl holds homing
  · exact State.homeChange_moving weak outside rfl holds moving onTheWay position target rfl
  · exact State.homeChange_overtravel weak outside rfl holds moving search atHome target

end Sys2Proof

/-! ### Lane faults (R108, R109) and the requests of the drive (R113 to R116) -/

namespace Sys2Proof.Machine

section Lanes

variable {s t u : State} {w : Work} {present : DamperIx → Bool} {laid : LaneIx → Bool} {d : DamperIx} {l : LaneIx}
  {c : Damper} {r r' : Lane} {b : Bool}

theorem Work.eq_of_fields {v : Work} (ddr : w.ddr = v.ddr) (now : w.now = v.now) (free : w.free = v.free)
    (changed : w.changed = v.changed) (alarms : w.alarms = v.alarms) : w = v := by
  obtain ⟨_, _, _, _, _⟩ := w
  obtain ⟨_, _, _, _, _⟩ := v
  cases ddr
  cases now
  cases free
  cases changed
  cases alarms
  rfl

theorem Work.changed_putLane_same (same : r.state = (w.lane l).state) : (w.putLane l r).changed = w.changed := by
  rw [Work.changed_putLane, DriveUnit.ifMoved_same _ same, List.append_nil]

theorem Work.putLane_putLane (same : r.state = (w.lane l).state) :
    (w.putLane l r).putLane l r' = w.putLane l r' := by
  refine Work.eq_of_fields (by simp [Work.putLane]) rfl rfl ?_ rfl
  rw [Work.changed_putLane, Work.changed_putLane_same same, Work.lane_putLane, same, ← Work.changed_putLane]

/-- R109: the record of a lane with LANEFLT as it now stands. -/
def Lane.sees (r : Lane) (b : Bool) : Lane := { r with fltInput := b }

theorem Work.lane_stopHolder (w : Work) (d : DamperIx) (l : LaneIx) : (w.stopHolder d).lane l = w.lane l := by
  simp only [Work.stopHolder]
  cases (w.damper d).order <;> rfl

theorem Work.stopHolder_putLane (same : r.state = (w.lane l).state) (d : DamperIx) :
    (w.putLane l r).stopHolder d = (w.stopHolder d).putLane l r := by
  have still : r.state = ((w.stopHolder d).lane l).state := by rw [Work.lane_stopHolder, same]
  refine Work.eq_of_fields ?ddr ?now ?free ?changed ?alarms
  case changed =>
    rw [Work.changed_putLane_same still]
    simp only [Work.stopHolder, Work.damper_putLane]
    cases order : (w.damper d).order with
    | none =>
      simp only [Work.changed_putDamper, Work.changed_putLane_same same]
      rfl
    | some o =>
      simp only [Work.changed_putDamper, Work.enqueue, Work.putQueue, Work.changed_putLane_same same]
      rfl
  all_goals
    simp only [Work.stopHolder, Work.damper_putLane]
    cases (w.damper d).order <;> rfl

theorem Work.stopHolderOf_seen (w : Work) (l : LaneIx) (b : Bool) :
    ((w.putLane l ((w.lane l).sees b)).stopHolderOf l).putLane l r = (w.stopHolderOf l).putLane l r := by
  unfold Work.stopHolderOf
  rw [Work.lane_putLane, show ((w.lane l).sees b).holder = (w.lane l).holder from rfl]
  cases (w.lane l).holder with
  | none => exact Work.putLane_putLane rfl
  | some d =>
    dsimp only
    rw [Work.stopHolder_putLane (by rfl)]
    exact Work.putLane_putLane (by rw [Work.lane_stopHolder]; rfl)

/-- R108: the holder of a lane, where it has one, stops. -/
theorem State.Mirrors.holderStops (m : s.Mirrors w t) (l : LaneIx) : s.Mirrors (w.stopHolderOf l) (t.holderStops l) := by
  have bound := l.isLt
  unfold Work.stopHolderOf State.holderStops
  rw [m.ddr_eq]
  cases holder : (w.lane l).holder with
  | none =>
    rw [show w.ddr.lanes[l].holder = none from holder]
    exact m
  | some d =>
    rw [show w.ddr.lanes[l].holder = some d from holder]
    simp only [Work.stopHolder, show w.ddr.dampers[d] = w.damper d from rfl]
    have search : (decide ((w.damper d).state = .homing) || (w.damper d).overtravel) =
        decide ((w.damper d).state = .homing ∨ (w.damper d).overtravel = true) := by
      simp
    rw [search]
    cases order : (w.damper d).order with
    | none => exact m.damperBecomes d _
    | some o => exact (m.queueBecomes _).damperBecomes d _

theorem State.holderStops_atn (s : State) (l : LaneIx) : (s.holderStops l).atn = s.atn := by
  unfold State.holderStops
  cases s.ddr.lanes[l].holder with
  | none => rfl
  | some d =>
    dsimp only
    cases s.ddr.dampers[d].order <;> rfl

/-- R108, R109: the record of a lane after a fault. -/
def Lane.faulted (r : Lane) (now : Time) : Lane :=
  { r with
    state := if decide (2 ≤ r.history.length) then .lockedOut else .out
    holder := none
    recovery := none
    history := if decide (2 ≤ r.history.length) then r.history else r.history ++ [now]
    lockout := r.lockout || decide (2 ≤ r.history.length) }

theorem exec_laneFltChange (outside : s.part.state ≠ .init) :
    exec (.laneFltChange l b) s = .next ((s.strike (.laneFltChange l b)).drive fun w => w.laneFltChange l b) := by
  show execLaneFltChange l b s = _
  exact State.take_next s _ _ outside

theorem Work.laneFltChange_recorded
    (nothing : (w.lane l).state = .absent ∨ (w.lane l).state = .lockedOut ∨
      b = false ∧ ((w.lane l).state = .busy ∨ (w.lane l).state = .free) ∨
      b = true ∧ (w.lane l).state = .out ∧ (w.lane l).recovery = none) :
    w.laneFltChange l b = (w.putLane l ((w.lane l).sees b)).grant := by
  simp only [Work.laneFltChange, Lane.sees]
  rcases nothing with state | state | ⟨rfl, state | state⟩ | ⟨rfl, state, stopped⟩ <;> simp [state]
  rw [stopped]
  simp

theorem Work.laneFltChange_faults
    (faults : (w.lane l).state = .free ∨ (w.lane l).state = .busy ∨
      (w.lane l).state = .out ∧ (w.lane l).recovery.isSome = true) :
    w.laneFltChange l true = ((w.putLane l ((w.lane l).sees true)).laneFault l).grant := by
  simp only [Work.laneFltChange, Lane.sees]
  rcases faults with state | state | ⟨state, runs⟩ <;> simp [*]

theorem Work.laneFltChange_recovers (out : (w.lane l).state = .out) :
    w.laneFltChange l false =
      (w.putLane l { (w.lane l).sees false with
        recovery := some ((w.lane l).recovery.getD (w.now + 2000000)) }).grant := by
  simp only [Work.laneFltChange, out, Bool.false_eq_true, if_false]
  rw [Work.putLane_putLane (by rw [out])]
  refine congrArg (fun r => (w.putLane l r).grant) ?_
  simp only [Lane.sees, startIfStopped_eq, out]
  rfl

theorem Work.laneFault_seen (w : Work) (l : LaneIx) :
    (w.putLane l ((w.lane l).sees true)).laneFault l =
      ((w.stopHolderOf l).putLane l (((w.lane l).sees true).faulted w.now)).alarm asLane
        (l.val + 256 * (if decide (2 ≤ (w.lane l).history.length) then 2 else 1)) := by
  simp only [Work.laneFault, Work.lane_putLane, Work.stopHolderOf_seen]
  rfl

theorem Ddr.Weak.laneSees (h : w.ddr.Weak present laid) (b : Bool) :
    (w.putLane l ((w.lane l).sees b)).ddr.Weak present laid := h.touchLane rfl rfl rfl

theorem Ddr.Weak.recovers (h : w.ddr.Weak present laid) (out : (w.lane l).state = .out) (r : Lane)
    (state : r.state = .out) (holder : r.holder = (w.lane l).holder) : (w.putLane l r).ddr.Weak present laid := by
  obtain ⟨busy, -⟩ := h.laneLawful l
  refine h.putLane (fun _ _ => rfl) ?_ holder ⟨?_, fun _ => state⟩
  · rw [state, ← out]
    exact (h.lanes l).1
  · rw [state, holder, ← out]
    exact busy

theorem State.laneFltChange_answers (weak : s.ddr.Weak present laid) (outside : s.part.state ≠ .init)
    (is : (s.ddr.lanes[l]).sees b = r) :
    let u : State := s.strike (.laneFltChange l b)
    let answers (t : State) : Prop := exec (.laneFltChange l b) s = .next (t.arbitrated u.handed)
    (r.state = .absent ∨ r.state = .lockedOut ∨ b = false ∧ (r.state = .busy ∨ r.state = .free) ∨
      b = true ∧ r.state = .out ∧ r.recovery = none → answers (u.laneBecomes l r)) ∧
    (b = true → r.state = .free ∨ r.state = .busy ∨ r.state = .out ∧ r.recovery.isSome = true →
      answers { (u.holderStops l).laneBecomes l (r.faulted s.now) with
        atn := s.atn.raise asLane (l.val + 256 * (if decide (2 ≤ r.history.length) then 2 else 1)) }) ∧
    (b = false → r.state = .out →
      answers (u.laneBecomes l { r with recovery := some (r.recovery.getD (s.now + 2000000)) })) := by
  have bound := l.isLt
  subst is
  intro u answers
  have taken := exec_laneFltChange (l := l) (b := b) outside
  have start := State.Mirrors.start u
  have seen : (u.work.putLane l ((u.work.lane l).sees b)).ddr.Weak present laid :=
    Ddr.Weak.laneSees (w := u.work) weak b
  refine ⟨fun nothing => ?_, fun on faults => ?_, fun off out => ?_⟩ <;>
    refine taken.trans (congrArg Host.Outcome.next ?_)
  · exact (start.laneBecomes l _).granted seen (Work.laneFltChange_recorded (w := u.work) nothing)
  · subst on
    have run := Work.laneFltChange_faults (w := u.work) (l := l) faults
    have kept : ((u.work.putLane l ((u.work.lane l).sees true)).laneFault l).ddr.Weak present laid := by
      refine seen.laneFault ?_
      rw [Work.lane_putLane]
      rcases faults with state | state | ⟨state, -⟩ <;> exact fun absent => absurd (state.symm.trans absent) (by decide)
    rw [Work.laneFault_seen] at run kept
    have told := ((start.holderStops l).laneBecomes l (((s.ddr.lanes[l]).sees true).faulted s.now)).raise asLane
      (l.val + 256 * (if decide (2 ≤ (s.ddr.lanes[l]).history.length) then 2 else 1))
    rw [show ((u.holderStops l).laneBecomes l (((s.ddr.lanes[l]).sees true).faulted s.now)).atn = s.atn from
      u.holderStops_atn l] at told
    exact told.granted (f := fun w => w.laneFltChange l true) kept run
  · subst off
    have run := Work.laneFltChange_recovers (w := u.work) (l := l) out
    refine (start.laneBecomes l _).granted (present := present) (laid := laid) (f := fun w => w.laneFltChange l false) ?_ run
    exact Ddr.Weak.recovers (w := u.work) weak out _ out rfl
/-! #### Events at DDR that end without a grant -/

theorem State.drive_nothing {f : Work → Work} (run : f s.work = s.work) : s.drive f = s := by
  rw [State.drive_eq, show f ⟨s.ddr, s.now, s.free, [], []⟩ = s.work from run]
  simp [State.work]

theorem State.drive_laneBecomes {f : Work → Work} (run : f s.work = s.work.putLane l r) : s.drive f = s.laneBecomes l r := by
  have bound := l.isLt
  have news : (s.work.putLane l r).changed.dedup.flatMap (s.work.putLane l r).ddr.reportOf =
      if s.ddr.lanes[l].state = r.state then [] else [.damperStateReport (.lane l r.state)] := by
    rw [Work.changed_putLane]
    by_cases same : r.state = s.ddr.lanes[l].state
    · rw [DriveUnit.ifMoved_same _ (by exact same), if_pos same.symm]
      rfl
    · rw [DriveUnit.ifMoved_ne _ (by exact same), if_neg fun h => same h.symm]
      simp [State.work, Ddr.reportOf, Work.putLane]
  rw [State.drive_eq, show f ⟨s.ddr, s.now, s.free, [], []⟩ = s.work.putLane l r from run, news]
  rfl

theorem State.drive_damperBecomes {f : Work → Work} (run : f s.work = s.work.putDamper d c) :
    s.drive f = s.damperBecomes d c := by
  have bound := d.isLt
  have news : (s.work.putDamper d c).changed.dedup.flatMap (s.work.putDamper d c).ddr.reportOf =
      damperNews d s.ddr.dampers[d] c := by
    rw [Work.changed_putDamper, damperNews]
    by_cases same : c.state = s.ddr.dampers[d].state
    · rw [DriveUnit.ifMoved_same _ (by exact same), if_pos same.symm]
      rfl
    · rw [DriveUnit.ifMoved_ne _ (by exact same), if_neg fun h => same h.symm]
      simp [State.work, Ddr.reportOf, Work.putDamper]
  rw [State.drive_eq, show f ⟨s.ddr, s.now, s.free, [], []⟩ = s.work.putDamper d c from run, news]
  rfl

/-! #### The expiries of a lane -/

theorem exec_laneRecoveryExpiry (outside : s.part.state ≠ .init) :
    exec (.laneRecoveryExpiry l) s = .next (s.drive fun w => w.laneRecover l) := by
  show execLaneRecoveryExpiry l s = _
  exact State.own_next s _ outside

theorem Work.laneRecover_eq (runs : (w.lane l).recovery.isSome = true) :
    w.laneRecover l = (w.putLane l { w.lane l with state := .free, recovery := none }).grant := by
  obtain ⟨due, recovery⟩ := Option.isSome_iff_exists.mp runs
  simp only [Work.laneRecover, recovery]

theorem Ddr.Weak.laneRecovers (h : w.ddr.Weak present laid) (runs : (w.lane l).recovery.isSome = true) :
    (w.putLane l { w.lane l with state := .free, recovery := none }).ddr.Weak present laid := by
  obtain ⟨-, recovery⟩ := h.laneLawful l
  have out := recovery runs
  refine h.idleLane (fun _ _ => rfl) ?_ ?_ ?_ (h.not_busy ?_) ?_
  · simp [h.laneLaid (l := l) (by simp [out])]
  all_goals simp [out]

theorem State.laneRecoveryExpiry_answers (weak : s.ddr.Weak present laid) (outside : s.part.state ≠ .init)
    (runs : s.ddr.lanes[l].recovery.isSome = true) :
    exec (.laneRecoveryExpiry l) s =
      .next ((s.laneBecomes l { s.ddr.lanes[l] with state := .free, recovery := none }).arbitrated s.handed) :=
  (exec_laneRecoveryExpiry outside).trans (congrArg Host.Outcome.next
    (((State.Mirrors.start s).laneBecomes l _).granted (Ddr.Weak.laneRecovers (w := s.work) weak runs)
      (Work.laneRecover_eq (w := s.work) runs)))

theorem exec_laneFaultHistoryExpiry (outside : s.part.state ≠ .init) :
    exec (.laneFaultHistoryExpiry l) s =
      .next (if s.ddr.lanes[l].state = .lockedOut then s
        else s.laneBecomes l { s.ddr.lanes[l] with history := s.ddr.lanes[l].history.tail }) := by
  show execLaneFaultHistoryExpiry l s = _
  rw [execLaneFaultHistoryExpiry, State.own_next s _ outside]
  refine congrArg Host.Outcome.next ?_
  split
  · next locked => exact s.drive_nothing (if_pos locked)
  · next unlocked => exact s.drive_laneBecomes (if_neg unlocked)

end Lanes

end Sys2Proof.Machine

namespace Sys2Proof
open Sys2Proof.Machine

/-- Settles O50, by the state of the lane and the level of LANEFLT. -/
theorem laneFaults : Obligations.LaneFaults := by
  intro l b s outside law r cmd u third faulted told answers
  have weak := ((State.driveLaw_iff s).mp law).1
  obtain ⟨recorded, faults, recovers⟩ := State.laneFltChange_answers (l := l) (b := b) weak outside rfl
  exact ⟨recorded, faults, recovers, fun runs => State.laneRecoveryExpiry_answers weak outside runs,
    exec_laneFaultHistoryExpiry outside⟩

end Sys2Proof

namespace Sys2Proof.Machine

section Requests

variable {s t u : State} {w : Work} {present : DamperIx → Bool} {laid : LaneIx → Bool} {d : DamperIx} {l : LaneIx}
  {c : Damper} {r r' : Lane} {b : Bool}

/-! #### REHOME (R115) -/

theorem Work.putDamper_self (w : Work) (d : DamperIx) : w.putDamper d (w.damper d) = w := by
  refine Work.eq_of_fields ?_ rfl rfl ?_ rfl
  · simp [Work.putDamper, Work.damper]
  · rw [Work.changed_putDamper, DriveUnit.ifMoved_same _ rfl, List.append_nil]

/-- R115: the record of a damper that has been sent home. -/
def Damper.sentHome (c : Damper) : Damper :=
  { c with
    state := .waiting, lane := none, position := none, target := none, pending := none, order := none
    deferred := none, stepCount := 0, overtravel := false, stepDue := none, settle := none, jam := false }

theorem State.Mirrors.queueRehome (m : s.Mirrors w t) (p : Option Nat) (room : w.ddr.seq + 1 < 4294967296) :
    s.Mirrors (w.queueRehome d p)
      ((t.queued d (.home p) (if d = 0 then .safety else .normal) .link).damperBecomes d (w.damper d).sentHome) :=
  (m.queued d _ _ _ room).damperBecomes d _

/-- R115: a damper that is at rest or stops where it is. -/
theorem Ddr.Weak.rehomed (h : w.ddr.Weak present laid) (there : (w.damper d).state ≠ .absent)
    (free : (w.damper d).state ≠ .waiting) (p : Option Nat) :
    ((w.freeLaneOf d).queueRehome d p).ddr.Weak present laid := by
  have apart := h.open d
  rw [h.unqueued free] at apart
  exact (apart.freeLaneOf rfl).queueRehome (h.there there) p

theorem Ddr.Weak.requeuedHome (h : w.ddr.Weak present laid) {o : QueuedOrder} (queued : w.ddr.queuedOrder d = some o)
    {c : Damper} (lane : c.lane = (w.damper d).lane) (state : c.state = (w.damper d).state)
    (lawful : c.Lawful true) (p : Option Nat) :
    ((w.requeue { o with goal := .home p }).putDamper d c).ddr.Weak present laid := by
  obtain ⟨-, same⟩ := queuedOrder_eq_some queued
  refine (Work.requeue_ddr_but (h.open d) (by exact same)).settle lane ?_ lawful (by simp [Damper.Fits, Goal.isHome])
  rw [state]
  exact h.absent_iff d

theorem exec_rehome (outside : s.part.state ≠ .init) (there : s.ddr.dampers[d].state ≠ .absent) :
    exec (.rehome (BitVec.ofNat 8 d.val)) s =
      .next ((s.replied (.rehome (BitVec.ofNat 8 d.val)) 0xB2#8 [0#8]).drive fun w =>
        w.rehome d s.inRun ((s.ownerTarget d).map (toSteps s.ddr.dampers[d].settings.span))) := by
  show execRehome _ s = _
  rw [execRehome, State.take_next _ _ _ outside]
  simp only [indexOf_ofNat 8 d (by decide)]
  rw [if_neg (by exact there), State.drive_status, State.strike_status]
  rfl

theorem Work.rehome_stops {run : Bool} {owner : Option Nat}
    (works : (w.damper d).state = .jammed ∨ (w.damper d).state = .unhomed ∨ (w.damper d).state = .idle ∨
      (w.damper d).state = .moving ∨ (w.damper d).state = .settling)
    (bare : (w.damper d).lane = none ∨ (w.damper d).state = .moving ∨ (w.damper d).state = .settling) :
    w.rehome d run owner =
      ((w.freeLaneOf d).queueRehome d (if run then owner else w.unfinishedTarget d)).grant := by
  rcases works with state | state | state | state | state
  case inr.inr.inr.inl => simp only [Work.rehome, state]
  case inr.inr.inr.inr => simp only [Work.rehome, state]
  all_goals
    rw [Work.freeLaneOf_none (bare.resolve_right (by simp [state]))]
    simp only [Work.rehome, state]

theorem Work.rehome_homing {run : Bool} {owner : Option Nat} (homing : (w.damper d).state = .homing) :
    w.rehome d run owner =
      (w.putDamper d { w.damper d with pending := if run then owner else (w.damper d).pending }).grant := by
  have each : w.rehome d run owner =
      (if run then w.putDamper d { w.damper d with pending := if run then owner else w.unfinishedTarget d } else w).grant := by
    simp only [Work.rehome, homing]
  rw [each]
  cases run with
  | true => rfl
  | false => exact congrArg Work.grant (w.putDamper_self d).symm

theorem Work.rehome_move {run : Bool} {owner : Option Nat} {o : QueuedOrder} {n : Nat}
    (waits : (w.damper d).state = .waiting) (queued : w.ddr.queuedOrder d = some o) (goal : o.goal = .move n) :
    w.rehome d run owner =
      ((w.requeue { o with goal := .home (if run then owner else some n) }).putDamper d
        { w.damper d with position := none, target := none }).grant := by
  simp only [Work.rehome, waits, queued, goal, Work.unfinishedTarget]

theorem Work.rehome_home {run : Bool} {owner p : Option Nat} {o : QueuedOrder}
    (waits : (w.damper d).state = .waiting) (queued : w.ddr.queuedOrder d = some o) (goal : o.goal = .home p) :
    w.rehome d run owner = (if run then w.requeue { o with goal := .home owner } else w).grant := by
  cases run <;> simp only [Work.rehome, waits, queued, goal, Bool.false_eq_true, if_true, if_false]

theorem Ddr.Weak.unqueuedLane (h : w.ddr.Weak present laid)
    (rests : (w.damper d).state = .jammed ∨ (w.damper d).state = .unhomed ∨ (w.damper d).state = .idle) :
    (w.damper d).lane = none := by
  have lawful := h.lawful d
  rcases rests with state | state | state <;> simp only [Damper.Lawful, state] at lawful <;> exact lawful.2.1

/-- R115: the target of an unfinished order, as REHOME in CONFIG takes it from a damper that is not searching. -/
def Damper.unfinished (c : Damper) : Option Nat :=
  if c.state = .moving then c.target
  else if c.state = .settling then (match c.deferred with | some o => some o.target | none => c.target) else none

theorem Work.unfinishedTarget_eq
    (works : (w.damper d).state = .jammed ∨ (w.damper d).state = .unhomed ∨ (w.damper d).state = .idle ∨
      (w.damper d).state = .moving ∨ (w.damper d).state = .settling) :
    w.unfinishedTarget d = (w.damper d).unfinished := by
  rcases works with state | state | state | state | state <;> cases deferred : (w.damper d).deferred <;>
    simp [Work.unfinishedTarget, Damper.unfinished, state, deferred]

theorem State.rehome_bare (weak : u.ddr.Weak present laid) (is : u.ddr.dampers[d] = c)
    (stops : c.state = .jammed ∨ c.state = .unhomed ∨ c.state = .idle ∨
      (c.state = .moving ∨ c.state = .settling) ∧ c.lane = none)
    (room : u.ddr.seq + 1 < 4294967296) (run : Bool) (owner : Option Nat) :
    (u.drive fun w => w.rehome d run owner) =
      ((u.queued d (.home (if run then owner else c.unfinished)) (if d = 0 then .safety else .normal) .link).damperBecomes d
        c.sentHome).arbitrated u.handed := by
  subst is
  have works : (u.work.damper d).state = .jammed ∨ (u.work.damper d).state = .unhomed ∨ (u.work.damper d).state = .idle ∨
      (u.work.damper d).state = .moving ∨ (u.work.damper d).state = .settling := by
    rcases stops with state | state | state | ⟨state, -⟩
    · exact .inl state
    · exact .inr (.inl state)
    · exact .inr (.inr (.inl state))
    · exact .inr (.inr (.inr state))
  have bare : (u.work.damper d).lane = none := by
    rcases stops with state | state | state | ⟨-, lane⟩
    · exact Ddr.Weak.unqueuedLane weak (.inl state)
    · exact Ddr.Weak.unqueuedLane weak (.inr (.inl state))
    · exact Ddr.Weak.unqueuedLane weak (.inr (.inr state))
    · exact lane
  have kept := Ddr.Weak.rehomed (w := u.work) (d := d) weak (by rcases works with h | h | h | h | h <;> rw [h] <;> decide)
    (by rcases works with h | h | h | h | h <;> rw [h] <;> decide) (if run then owner else u.work.unfinishedTarget d)
  have runs := Work.rehome_stops (run := run) (owner := owner) works (.inl bare)
  rw [Work.freeLaneOf_none bare, Work.unfinishedTarget_eq works] at runs kept
  exact ((State.Mirrors.start u).queueRehome _ room).granted (f := fun w => w.rehome d run owner) kept runs

theorem State.rehome_held (weak : u.ddr.Weak present laid) (is : u.ddr.dampers[d] = c)
    (stops : c.state = .moving ∨ c.state = .settling) (holds : c.lane = some l)
    (room : u.ddr.seq + 1 < 4294967296) (run : Bool) (owner : Option Nat) :
    (u.drive fun w => w.rehome d run owner) =
      (((u.laneFreed l).queued d (.home (if run then owner else c.unfinished))
        (if d = 0 then .safety else .normal) .link).damperBecomes d c.sentHome).arbitrated u.handed := by
  subst is
  have works : (u.work.damper d).state = .jammed ∨ (u.work.damper d).state = .unhomed ∨ (u.work.damper d).state = .idle ∨
      (u.work.damper d).state = .moving ∨ (u.work.damper d).state = .settling := .inr (.inr (.inr stops))
  have kept := Ddr.Weak.rehomed (w := u.work) (d := d) weak (by rcases works with h | h | h | h | h <;> rw [h] <;> decide)
    (by rcases works with h | h | h | h | h <;> rw [h] <;> decide) (if run then owner else u.work.unfinishedTarget d)
  have runs := Work.rehome_stops (run := run) (owner := owner) works (.inr stops)
  rw [Work.unfinishedTarget_eq works] at runs kept
  refine State.Mirrors.granted (f := fun w => w.rehome d run owner) ?_ kept runs
  have sent := ((State.Mirrors.start u).laneFreed (d := d) holds).queueRehome (d := d)
    (if run then owner else (u.work.damper d).unfinished) (by rw [Work.freeLaneOf_some (by exact holds)]; exact room)
  rw [Work.damper_freeLaneOf] at sent
  exact sent

theorem State.rehome_homing (weak : u.ddr.Weak present laid) (is : u.ddr.dampers[d] = c) (homing : c.state = .homing)
    (run : Bool) (owner : Option Nat) :
    (u.drive fun w => w.rehome d run owner) =
      (u.damperBecomes d { c with pending := if run then owner else c.pending }).arbitrated u.handed := by
  subst is
  refine ((State.Mirrors.start u).damperBecomes d _).granted (present := present) (laid := laid)
    (f := fun w => w.rehome d run owner) ?_ (Work.rehome_homing (w := u.work) homing)
  have lawful := Ddr.Weak.lawful (w := u.work) weak d
  have state : (u.work.damper d).state = .homing := homing
  refine Ddr.Weak.putDamper (w := u.work) weak rfl .rfl ?_ fun o mem => Ddr.Weak.fitting (w := u.work) weak mem
  simp only [Damper.Lawful, state, homing] at lawful ⊢
  exact lawful

theorem State.rehome_waiting (weak : u.ddr.Weak present laid) (is : u.ddr.dampers[d] = c) (waits : c.state = .waiting)
    {o : QueuedOrder} (queued : u.ddr.queuedOrder d = some o) (run : Bool) (owner : Option Nat) :
    (∀ n, o.goal = .move n → (u.drive fun w => w.rehome d run owner) =
      ((u.queueBecomes (insertOrder { o with goal := .home (if run then owner else some n) }
        (u.ddr.queue.filter fun x => x.damper ≠ d))).damperBecomes d
          { c with position := none, target := none }).arbitrated u.handed) ∧
    (∀ p, o.goal = .home p → run = true → (u.drive fun w => w.rehome d run owner) =
      (u.queueBecomes (insertOrder { o with goal := .home owner }
        (u.ddr.queue.filter fun x => x.damper ≠ d))).arbitrated u.handed) ∧
    (∀ p, o.goal = .home p → run = false → (u.drive fun w => w.rehome d run owner) = u.arbitrated u.handed) := by
  subst is
  obtain ⟨-, same⟩ := queuedOrder_eq_some queued
  have start := State.Mirrors.start u
  have state : (u.work.damper d).state = .waiting := waits
  have lawful := Ddr.Weak.lawful (w := u.work) weak d
  rw [show u.work.ddr.queuedOrder d = some o from queued] at lawful
  have requeued : ∀ x : QueuedOrder, x.damper = d →
      u.Mirrors (u.work.requeue x) (u.queueBecomes (insertOrder x (u.ddr.queue.filter fun y => y.damper ≠ d))) := by
    rintro x rfl
    exact start.queueBecomes _
  refine ⟨fun n move => ?_, fun p home runs => ?_, fun p home config => ?_⟩
  · refine State.Mirrors.granted (present := present) (laid := laid)
      (f := fun w => w.rehome d run owner) ((requeued { o with goal := .home (if run then owner else some n) } same).damperBecomes d _) ?_
      (Work.rehome_move (w := u.work) waits queued move)
    refine Ddr.Weak.requeuedHome (w := u.work) weak queued (by rfl) (by rfl) ?_ _
    simp only [Damper.Lawful, state, waits, Option.isSome_some] at lawful ⊢
    exact lawful
  · subst runs
    refine State.Mirrors.granted (present := present) (laid := laid)
      (f := fun w => w.rehome d true owner) (requeued { o with goal := .home owner } same) ?_ (Work.rehome_home (w := u.work) waits queued home)
    rw [← Work.putDamper_self (u.work.requeue _) d]
    exact Ddr.Weak.requeuedHome (w := u.work) weak queued (by rfl) (by rfl) lawful _
  · subst config
    exact start.granted (f := fun w => w.rehome d false owner) weak (Work.rehome_home (w := u.work) waits queued home)

/-! #### SET_DAMPER and LANE_ENABLE (R113, R116) -/

theorem DamperState.atWork_iff (x : DamperState) :
    x.atWork = true ↔ x = .waiting ∨ x = .homing ∨ x = .moving ∨ x = .settling := by
  cases x <;> simp [DamperState.atWork]

theorem DamperSettings.clamp_eq (span rate settle : Half) (b : Bool) :
    (damperSettingsOf span rate settle b).clamp =
      ⟨span.toNat, max 50 (min 500 rate.toNat), min 1000 settle.toNat, b⟩ := by
  simp only [damperSettingsOf, DamperSettings.clamp, clampNat, Nat.zero_max]

theorem execSetDamper_config {span rate settle : Half} {homeEnd : Byte} (config : s.part.state = .config) :
    let set : Instr := .setDamper (BitVec.ofNat 8 d.val) span rate settle homeEnd
    let settings : DamperSettings :=
      ⟨span.toNat, max 50 (min 500 rate.toNat), min 1000 settle.toNat, decide (homeEnd = 1#8)⟩
    let inRange : Prop := 1 ≤ span.toNat ∧ span.toNat ≤ 2000 ∧ homeEnd.toNat ≤ 1
    (¬ inRange → exec set s = .next (s.replied set 0xB0#8 [19#8])) ∧
    (inRange → s.ddr.dampers[d].state.atWork = true → exec set s = .next (s.replied set 0xB0#8 [20#8])) ∧
    (inRange → s.ddr.dampers[d].state.atWork = false → exec set s = .next ((s.replied set 0xB0#8
      [if settings.rate = rate.toNat ∧ settings.settle = settle.toNat then 0#8 else 1#8]).damperBecomes d
        (s.ddr.dampers[d].settleSettings settings))) := by
  intro set settings inRange
  have outside : s.part.state ≠ .init := by simp [config]
  have idle : ¬ (s.strike set).inRun = true := by simp [State.inRun, config]
  have sent : damperSettingsOf span rate settle (homeEnd == 1#8) = ⟨span.toNat, rate.toNat, settle.toNat,
      decide (homeEnd = 1#8)⟩ := rfl
  have bad : (span.toNat < 1 ∨ 2000 < span.toNat ∨ 1 < homeEnd.toNat) ↔ ¬ inRange := by
    show _ ↔ ¬ (1 ≤ span.toNat ∧ span.toNat ≤ 2000 ∧ homeEnd.toNat ≤ 1)
    omega
  have clamped : (⟨span.toNat, rate.toNat, settle.toNat, decide (homeEnd = 1#8)⟩ : DamperSettings).clamp = settings :=
    DamperSettings.clamp_eq span rate settle _
  have run : exec set s = .next (if ¬ inRange then (s.strike set).status .setDamper .range
      else if s.ddr.dampers[d].state.atWork = true then (s.strike set).status .setDamper .state
      else ((s.strike set).drive fun w => w.putDamper d ((w.damper d).settleSettings settings)).status .setDamper
        (clampStatus (settings != ⟨span.toNat, rate.toNat, settle.toNat, decide (homeEnd = 1#8)⟩))) := by
    show execSetDamper _ span rate settle homeEnd s = _
    rw [execSetDamper, State.take_next _ _ _ outside, if_neg idle]
    simp only [indexOf_ofNat 8 d (by decide), sent, clamped, bad]
    rfl
  refine ⟨fun out => ?_, fun fits works => ?_, fun fits rests => ?_⟩
  · rw [run, if_pos out, State.strike_status]
    rfl
  · rw [run, if_neg (not_not.mpr fits), if_pos works, State.strike_status]
    rfl
  · rw [run, if_neg (not_not.mpr fits), if_neg (ne_true_of_eq_false rests), State.drive_status, State.strike_status,
      clampStatus_code_ne]
    have same : settings = ⟨span.toNat, rate.toNat, settle.toNat, decide (homeEnd = 1#8)⟩ ↔
        settings.rate = rate.toNat ∧ settings.settle = settle.toNat := by
      simp [settings]
    simp only [same]
    exact congrArg Host.Outcome.next ((s.replied set 0xB0#8 _).drive_damperBecomes rfl)

theorem exec_laneEnable (outside : s.part.state ≠ .init) (there : s.ddr.lanes[l].state ≠ .absent) :
    exec (.laneEnable (BitVec.ofNat 8 l.val)) s =
      .next ((s.replied (.laneEnable (BitVec.ofNat 8 l.val)) 0xB3#8 [0#8]).drive fun w => w.enableLane l) := by
  show execLaneEnable _ s = _
  rw [execLaneEnable, State.take_next _ _ _ outside]
  simp only [indexOf_ofNat 2 l (by decide)]
  rw [if_neg (by exact there), State.drive_status, State.strike_status]
  rfl

/-- R116: the record of a lane that LANE_ENABLE has freed of its faults. -/
def Lane.enabled (r : Lane) : Lane :=
  if r.state = .lockedOut then { r with state := if r.fltInput = true then .out else .free, history := [], lockout := false }
  else { r with history := [] }

theorem Work.enableLane_eq (w : Work) (l : LaneIx) : w.enableLane l = (w.putLane l (w.lane l).enabled).grant := by
  simp only [Work.enableLane, Lane.enabled]
  split <;> rfl

theorem Ddr.Weak.enabled (h : w.ddr.Weak present laid) (there : (w.lane l).state ≠ .absent) :
    (w.putLane l (w.lane l).enabled).ddr.Weak present laid := by
  obtain ⟨-, recovery⟩ := h.laneLawful l
  rw [Lane.enabled]
  split
  · next locked =>
    have stopped : (w.lane l).recovery.isSome = false :=
      Bool.eq_false_iff.mpr fun runs => absurd (locked.symm.trans (recovery runs)) (by decide)
    refine h.idleLane (fun _ _ => rfl) ?_ (by simp [locked]) ?_ (h.not_busy (by simp [locked])) (by simp [stopped])
    · dsimp only
      split <;> simp [h.laneLaid there]
    · dsimp only
      split <;> simp
  · exact h.touchLane rfl rfl rfl

theorem State.laneEnable_answers (weak : s.ddr.Weak present laid) (outside : s.part.state ≠ .init)
    (there : s.ddr.lanes[l].state ≠ .absent) :
    let enable : Instr := .laneEnable (BitVec.ofNat 8 l.val)
    exec enable s =
      .next (((s.replied enable 0xB3#8 [0#8]).laneBecomes l s.ddr.lanes[l].enabled).arbitrated (s.handed.erase enable)) := by
  intro enable
  refine (exec_laneEnable outside there).trans (congrArg Host.Outcome.next ?_)
  exact ((State.Mirrors.start (s.replied enable 0xB3#8 [0#8])).laneBecomes l _).granted (f := fun w => w.enableLane l)
    (Ddr.Weak.enabled (w := (s.replied enable 0xB3#8 [0#8]).work) weak there) (Work.enableLane_eq _ l)

end Requests

end Sys2Proof.Machine

namespace Sys2Proof
open Sys2Proof.Machine

/-- Settles O51, by the state of damper and lane. -/
theorem driveRequests : Obligations.DriveRequests := by
  intro d l index homeEnd span rate settle s outside law c set settings status works inRange re owner unfinished goal k
    enable r homes ok waits enables
  have weak := ((State.driveLaw_iff s).mp law).1
  have running : s.inRun = true ↔ s.part.state = .run := s.inRun_iff
  have goal_eq : (if s.inRun = true then owner else c.unfinished) = goal := by
    simp only [running]
    rfl
  refine ⟨fun run => ?_, fun config => ⟨fun beyond => ?_, ?_⟩, fun beyond => ?_, fun absent => ?_,
    fun room => ⟨fun stops => ?_, fun stops m holds => ?_⟩, fun homing => ?_, fun waiting o queued => ⟨?_, ?_, ?_⟩,
    fun beyond => ?_, fun absent => ?_, fun present => ?_, fun locked => ?_⟩
  · show execSetDamper _ span rate settle homeEnd s = _
    rw [execSetDamper, State.take_next _ _ _ outside, if_pos (by exact running.mpr run), State.strike_status]
    rfl
  · show execSetDamper index span rate settle homeEnd s = _
    rw [execSetDamper, State.take_next _ _ _ outside, if_neg (by simp [State.inRun, config]),
      indexOf_none 8 index (by omega)]
    exact congrArg Host.Outcome.next (State.strike_status s _ _ _)
  · obtain ⟨bad, busy, rests⟩ := execSetDamper_config (s := s) (d := d) (span := span) (rate := rate) (settle := settle)
      (homeEnd := homeEnd) config
    refine ⟨bad, fun fits atWork => busy fits ((DamperState.atWork_iff _).mpr atWork), fun fits idle => ?_⟩
    exact rests fits (Bool.eq_false_iff.mpr fun atWork => idle ((DamperState.atWork_iff _).mp atWork))
  · show execRehome index s = _
    rw [execRehome, State.take_next _ _ _ outside, indexOf_none 8 index (by omega)]
    exact congrArg Host.Outcome.next (State.strike_status s _ _ _)
  · show execRehome _ s = _
    rw [execRehome, State.take_next _ _ _ outside]
    simp only [indexOf_ofNat 8 d (by decide)]
    rw [if_pos (by exact absent), State.strike_status]
    rfl
  · have there : c.state ≠ .absent := by
      rcases stops with state | state | state | ⟨state | state, -⟩ <;> rw [state] <;> decide
    rw [← goal_eq]
    exact (exec_rehome outside there).trans
      (congrArg Host.Outcome.next (State.rehome_bare (u := ok) weak rfl stops room s.inRun owner))
  · have there : c.state ≠ .absent := by rcases stops with state | state <;> rw [state] <;> decide
    rw [← goal_eq]
    exact (exec_rehome outside there).trans
      (congrArg Host.Outcome.next (State.rehome_held (u := ok) weak rfl stops holds room s.inRun owner))
  · have rehomed := State.rehome_homing (u := ok) weak rfl homing s.inRun owner
    simp only [running] at rehomed
    exact (exec_rehome outside (by rw [homing]; decide)).trans (congrArg Host.Outcome.next rehomed)
  · intro t move
    have rehomed := (State.rehome_waiting (u := ok) weak rfl waiting queued s.inRun owner).1
    have goal : o.goal = .move t := by cases goal : o.goal <;> simp_all
    have rehomed := rehomed t goal
    simp only [running] at rehomed
    exact (exec_rehome outside (by rw [waiting]; decide)).trans (congrArg Host.Outcome.next rehomed)
  · intro p home run
    have rehomed := (State.rehome_waiting (u := ok) weak rfl waiting queued s.inRun owner).2.1
    have goal : o.goal = .home p := by cases goal : o.goal <;> simp_all
    exact (exec_rehome outside (by rw [waiting]; decide)).trans
      (congrArg Host.Outcome.next (rehomed p goal (running.mpr run)))
  · intro p home config
    have rehomed := (State.rehome_waiting (u := ok) weak rfl waiting queued s.inRun owner).2.2
    have goal : o.goal = .home p := by cases goal : o.goal <;> simp_all
    exact (exec_rehome outside (by rw [waiting]; decide)).trans
      (congrArg Host.Outcome.next (rehomed p goal (by simp [State.inRun, config])))
  · show execLaneEnable index s = _
    rw [execLaneEnable, State.take_next _ _ _ outside, indexOf_none 2 index (by omega)]
    exact congrArg Host.Outcome.next (State.strike_status s _ _ _)
  · show execLaneEnable _ s = _
    rw [execLaneEnable, State.take_next _ _ _ outside]
    simp only [indexOf_ofNat 2 l (by decide)]
    rw [if_pos (by exact absent), State.strike_status]
    rfl
  · have enabled : r.enabled = { r with history := [] } :=
      if_neg (by rcases present with state | state | state <;> rw [state] <;> decide)
    rw [← enabled]
    exact State.laneEnable_answers weak outside (by rcases present with state | state | state <;> rw [state] <;> decide)
  · have enabled : r.enabled = { r with
        state := if r.fltInput = true then .out else .free, history := [], lockout := false } := if_pos locked
    rw [← enabled]
    exact State.laneEnable_answers weak outside (by rw [locked]; decide)

end Sys2Proof

/-! ### The grant of one lane, or of both (R102, R106) -/

namespace Sys2Proof.Machine

section Granted

variable {s t u : State} {w v : Work} {d e : DamperIx} {l : LaneIx} {c : Damper} {r : Lane} {o : QueuedOrder}
  {rest : List QueuedOrder}

/-- An event at DDR by what its work is like. -/
theorem State.drive_like {f : Work → Work} (like : (f s.work).Like v) :
    s.drive f = { s with
      ddr := v.ddr
      free := v.free
      atn := v.alarms.foldl (fun a p => a.raise p.1 p.2) s.atn
      handed := s.handed ++ v.changed.dedup.flatMap v.ddr.reportOf } := by
  obtain ⟨ddr, -, free, alarms, changed⟩ := like
  rw [State.drive_eq, show f ⟨s.ddr, s.now, s.free, [], []⟩ = f s.work from rfl, changed.reports, ddr, free, alarms]

theorem Ddr.reportOf_ifMoved {r : Ddr} (is : r.dampers[d] = c) (old : Damper) :
    ((DriveUnit.damper d).ifMoved c.state old.state).flatMap r.reportOf = damperNews d old c := by
  subst is
  unfold damperNews
  by_cases same : r.dampers[d].state = old.state
  · rw [DriveUnit.ifMoved_same _ same, if_pos same.symm]
    rfl
  · rw [DriveUnit.ifMoved_ne _ same, if_neg fun h => same h.symm]
    simp [Ddr.reportOf]

theorem Ddr.reportOf_lane {x : Ddr} (is : x.lanes[l] = r) :
    x.reportOf (.lane l) = [.damperStateReport (.lane l r.state)] := by
  subst is
  rfl

/-- An event at DDR that changes one lane, one damper and the queue. -/
theorem State.drive_lane_damper {f : Work → Work} {q : List QueuedOrder} {n : Nat} (moved : s.ddr.lanes[l].state ≠ r.state)
    (like : (f s.work).Like { s.work with
      ddr := { dampers := s.ddr.dampers.set d c, lanes := s.ddr.lanes.set l r, queue := q, seq := n }
      changed := .lane l :: (DriveUnit.damper d).ifMoved c.state s.ddr.dampers[d].state }) :
    s.drive f = { (s.laneBecomes l r).damperBecomes d c with
      ddr := { ((s.laneBecomes l r).damperBecomes d c).ddr with queue := q, seq := n } } := by
  have bound_d : d.val < 8 := d.isLt
  have bound_l : l.val < 2 := l.isLt
  have once : (DriveUnit.lane l :: (DriveUnit.damper d).ifMoved c.state s.ddr.dampers[d].state).dedup =
      .lane l :: (DriveUnit.damper d).ifMoved c.state s.ddr.dampers[d].state := by
    unfold DriveUnit.ifMoved
    split <;> rfl
  have told : (DriveUnit.lane l :: (DriveUnit.damper d).ifMoved c.state s.ddr.dampers[d].state).dedup.flatMap
      (Ddr.reportOf { dampers := s.ddr.dampers.set d c, lanes := s.ddr.lanes.set l r, queue := q, seq := n }) =
      (if s.ddr.lanes[l].state = r.state then [] else [Instr.damperStateReport (.lane l r.state)]) ++
        damperNews d s.ddr.dampers[d] c := by
    rw [once, List.flatMap_cons, Ddr.reportOf_ifMoved (by simp), Ddr.reportOf_lane (r := r) (by simp), if_neg moved]
  rw [State.drive_like like, told, ← List.append_assoc]
  rfl

theorem Work.grantUpTo_succ (n : Nat) (free : w.ddr.freeLanes ≠ []) (waits : w.ddr.queue ≠ []) :
    w.grantUpTo (n + 1) = (w.ddr.freeLanes.foldl Work.grantLane w).grantUpTo n :=
  if_neg fun h => h.elim free waits

/-- The grant of the one lane that is FREE, or to the one order that waits. -/
theorem Work.grant_hold {more : List LaneIx} (free : w.ddr.freeLanes = l :: more) (queue : w.ddr.queue = o :: rest)
    (goes : (w.putQueue rest).grantTo l o = (w.putQueue rest).hold l o.damper c)
    (done : more = [] ∧ ((w.putQueue rest).hold l o.damper c).ddr.freeLanes = [] ∨ rest = []) :
    w.grant = (w.putQueue rest).hold l o.damper c := by
  have first : w.grantLane l = (w.putQueue rest).hold l o.damper c := by
    simp only [Work.grantLane, queue, goes]
  rw [Work.grant, queue, List.length_cons, Work.grantUpTo_succ _ (by simp [free]) (by simp [queue]), free,
    List.foldl_cons, first]
  rcases done with ⟨rfl, stuck⟩ | rfl
  · exact Work.grantUpTo_idle _ (.inl stuck)
  · rw [Work.foldl_grantLane_nil (by rfl), Work.grantUpTo_idle _ (.inr rfl)]

theorem Work.grantTo_away {n : Nat} (goal : o.goal = .move n) (away : (w.damper o.damper).position ≠ some n) :
    w.grantTo l o = w.hold l o.damper ((w.damper o.damper).sent w.now l o n) :=
  (Work.grantTo_move goal).trans (if_neg away)

theorem Work.grantTo_search {p : Option Nat} (goal : o.goal = .home p) (noInput : (w.damper o.damper).homeInput = false) :
    w.grantTo l o = w.hold l o.damper ((w.damper o.damper).searching w.now l o p) :=
  (Work.grantTo_home goal).trans (if_neg (by simp [noInput]))

theorem Ddr.freeLanes_eq (r : Ddr) : r.freeLanes = [(0 : LaneIx), 1].filter fun l => decide (r.lanes[l].state = .free) :=
  rfl

theorem Ddr.freeLanes_first {r : Ddr} (free : r.lanes[l].state = .free) (first : l = 1 → r.lanes[(0 : LaneIx)].state ≠ .free) :
    ∃ more, r.freeLanes = l :: more := by
  rw [Ddr.freeLanes_eq]
  have two : l = 0 ∨ l = 1 := (show l.val = 0 ∨ l.val = 1 by omega).imp Fin.ext Fin.ext
  rcases two with rfl | rfl
  · exact ⟨_, List.filter_cons_of_pos (by simpa using free)⟩
  · rw [List.filter_cons_of_neg (by simpa using first rfl)]
    exact ⟨_, List.filter_cons_of_pos (by simpa using free)⟩

theorem Ddr.freeLanes_only {r : Ddr} (free : r.lanes[l].state = .free)
    (others : ∀ m : LaneIx, m ≠ l → r.lanes[m].state ≠ .free) : r.freeLanes = [l] := by
  rw [Ddr.freeLanes_eq]
  have two : l = 0 ∨ l = 1 := (show l.val = 0 ∨ l.val = 1 by omega).imp Fin.ext Fin.ext
  rcases two with rfl | rfl
  · rw [List.filter_cons_of_pos (by simpa using free),
      List.filter_cons_of_neg (by simpa using others 1 (by decide)), List.filter_nil]
  · rw [List.filter_cons_of_neg (by simpa using others 0 (by decide)),
      List.filter_cons_of_pos (by simpa using free), List.filter_nil]

theorem Ddr.freeLanes_none {r : Ddr} (none : ∀ m : LaneIx, r.lanes[m].state ≠ .free) : r.freeLanes = [] :=
  List.eq_nil_iff_forall_not_mem.mpr fun m mem => none m ((r.mem_freeLanes m).mp mem)

/-- R98, R102: a new order that finds the queue empty and a lane FREE. -/
theorem State.order_granted {percent : Nat} {g : Goal} {k : OrderClass} {src : OrderSource} {c₁ : Damper}
    (empty : u.ddr.queue = []) (room : u.ddr.seq + 1 < 4294967296) (free : u.ddr.lanes[l].state = .free)
    (first : l = 1 → u.ddr.lanes[(0 : LaneIx)].state ≠ .free)
    (run : u.work.takeOrder d percent k src = ((u.work.enqueueNew d g k src).putDamper d c₁).grant)
    (waits : c₁.state = .waiting) (left : u.ddr.dampers[d].state ≠ .waiting) (goes : c.state ≠ .waiting)
    (moves : c.state ≠ u.ddr.dampers[d].state)
    (holds : ∀ v : Work, v.damper d = c₁ → v.now = u.now →
      v.grantTo l ⟨d, g, k, src, u.ddr.seq⟩ = v.hold l d c) :
    u.order d percent k src =
      { (u.laneBecomes l { u.ddr.lanes[l] with state := .busy, holder := some d }).damperBecomes d c with
        ddr := { ((u.laneBecomes l { u.ddr.lanes[l] with state := .busy, holder := some d }).damperBecomes d c).ddr with
          queue := [], seq := u.ddr.seq + 1 } } := by
  refine State.drive_lane_damper (f := fun w => w.takeOrder d percent k src) (by rw [free]; simp) ?_
  have entered : u.work.enqueueNew d g k src =
      { u.work with ddr := { u.ddr with queue := [⟨d, g, k, src, u.ddr.seq⟩], seq := u.ddr.seq + 1 } } := by
    rw [Work.enqueueNew, Work.advanceSeq, if_pos (by exact room)]
    simp only [Work.enqueue, Work.putQueue, State.work, empty, insertOrder]
  rw [run, entered]
  generalize at_work : ({ u.work with
    ddr := { u.ddr with queue := [⟨d, g, k, src, u.ddr.seq⟩], seq := u.ddr.seq + 1 } } : Work) = v
  have lanes : v.ddr.lanes = u.ddr.lanes := by rw [← at_work]
  obtain ⟨more, freeLanes⟩ := Ddr.freeLanes_first (r := (v.putDamper d c₁).ddr) (l := l)
    (by rw [show (v.putDamper d c₁).ddr.lanes = u.ddr.lanes from lanes]; exact free)
    (by rw [show (v.putDamper d c₁).ddr.lanes = u.ddr.lanes from lanes]; exact first)
  rw [Work.grant_hold (c := c) freeLanes (o := ⟨d, g, k, src, u.ddr.seq⟩) (rest := [])
    (by rw [← at_work]; rfl) (holds _ (by exact v.damper_putDamper d c₁) (by rw [← at_work]; rfl)) (.inr rfl)]
  subst at_work
  refine ⟨?_, rfl, rfl, rfl, ?_⟩
  · simp [Work.hold, Work.putDamper, Work.putLane, Work.putQueue, Work.lane, State.work]
  · rw [Work.changed_hold (by exact free) (by exact (congrArg Damper.state (Work.damper_putDamper _ d c₁)).trans waits) goes,
      DriveUnit.ifMoved_ne _ (by exact moves)]
    rw [show (Work.putQueue _ []).changed = (Work.putDamper _ d c₁).changed from rfl, Work.changed_putDamper,
      DriveUnit.ifMoved_ne _ (by rw [waits]; exact left.symm)]
    exact sameNews_again (.damper d) [.lane l, .damper d] (by simp)

theorem Work.changed_recovered (out : s.ddr.lanes[l].state = .out) :
    (s.work.putLane l { s.work.lane l with state := .free, recovery := none }).changed = [.lane l] := by
  rw [Work.changed_putLane, DriveUnit.ifMoved_ne]
  · rfl
  · show LaneState.free ≠ s.ddr.lanes[l].state
    rw [out]
    decide

/-- R109, R102: a lane that has recovered, granted to the first order that waits. -/
theorem State.recovery_granted (outside : s.part.state ≠ .init) (runs : s.ddr.lanes[l].recovery.isSome = true)
    (out : s.ddr.lanes[l].state = .out) (others : ∀ m : LaneIx, m ≠ l → s.ddr.lanes[m].state ≠ .free)
    (queue : s.ddr.queue = o :: rest) (is : o.damper = d)
    (holds : ∀ v : Work, v.damper d = s.ddr.dampers[d] → v.now = s.now → v.grantTo l o = v.hold l d c) :
    exec (.laneRecoveryExpiry l) s = .next (((s.queueBecomes rest).laneBecomes l
      { s.ddr.lanes[l] with state := .busy, holder := some d, recovery := none }).damperBecomes d c) := by
  refine (exec_laneRecoveryExpiry outside).trans (congrArg Host.Outcome.next ?_)
  refine State.drive_lane_damper (f := fun w => w.laneRecover l) (q := rest) (n := s.ddr.seq) (by rw [out]; simp) ?_
  subst is
  rw [Work.laneRecover_eq (w := s.work) runs]
  have only : (s.work.putLane l { s.work.lane l with state := .free, recovery := none }).ddr.freeLanes = [l] :=
    Ddr.freeLanes_only (by rw [Work.putLane_getElem_self])
      fun m ne => by rw [Work.putLane_getElem_ne _ ne]; exact others m ne
  rw [Work.grant_hold (c := c) only queue (holds _ rfl rfl) (.inl ⟨rfl, Ddr.freeLanes_none fun m => ?_⟩)]
  · refine ⟨by simp [Work.hold, Work.putDamper, Work.putLane, Work.putQueue, Work.lane, State.work], rfl, rfl, rfl, ?_⟩
    rw [Work.hold, Work.changed_putDamper, Work.changed_putLane,
      show (Work.putQueue _ rest).changed = (Work.putLane _ l _).changed from rfl, Work.changed_recovered out,
      DriveUnit.ifMoved_ne (.lane l) (by simp [Work.putQueue, Work.lane, Work.putLane])]
    exact sameNews_again (.lane l) _ (by simp)
  · by_cases same : m = l
    · subst same
      simp [Work.hold, Work.putDamper, Work.putLane]
    · rw [show ((Work.putQueue _ rest).hold l o.damper c).ddr.lanes[m] = _ from Work.putLane_getElem_ne _ same _]
      rw [show (Work.putQueue _ rest).ddr.lanes[m] = _ from Work.putLane_getElem_ne _ same _]
      exact others m same

/-- R106: the one order that waits is a HOME at a damper that stands at its home end: it arrives at the grant. -/
theorem State.recovery_arrives {present : DamperIx → Bool} {laid : LaneIx → Bool} (weak : s.ddr.Weak present laid)
    (outside : s.part.state ≠ .init) (runs : s.ddr.lanes[l].recovery.isSome = true)
    (out : s.ddr.lanes[l].state = .out) (others : ∀ m : LaneIx, m ≠ l → s.ddr.lanes[m].state ≠ .free)
    (queue : s.ddr.queue = [o]) (is : o.damper = d) (released : c.lane = none)
    (moves : c.state ≠ s.ddr.dampers[d].state) (granted : s.ddr.dampers[d].grantedBy s.now l o = c) :
    exec (.laneRecoveryExpiry l) s = .next (((s.queueBecomes []).laneBecomes l
      { s.ddr.lanes[l] with state := .free, holder := none, recovery := none }).damperBecomes d c) := by
  refine (exec_laneRecoveryExpiry outside).trans (congrArg Host.Outcome.next ?_)
  refine State.drive_lane_damper (f := fun w => w.laneRecover l) (q := []) (n := s.ddr.seq) (by rw [out]; simp) ?_
  subst is granted
  rw [Work.laneRecover_eq (w := s.work) runs]
  have recovered := Ddr.Weak.laneRecovers (w := s.work) (l := l) weak runs
  have only : (s.work.putLane l { s.work.lane l with state := .free, recovery := none }).ddr.freeLanes = [l] :=
    Ddr.freeLanes_only (by rw [Work.putLane_getElem_self])
      fun m ne => by rw [Work.putLane_getElem_ne _ ne]; exact others m ne
  have grants := Ddr.grantsFrom_cons (r := (s.work.putLane l { s.work.lane l with state := .free, recovery := none }).ddr)
    (now := s.now) (ls := []) (o := o) (rest := []) (news := [.lane l]) ((if_pos rfl).trans only)
  refine (recovered.grant_like (news := [.lane l]) ?_).trans ⟨?_, rfl, rfl, rfl, ?_⟩
  · rw [Work.changed_recovered out]
    exact .refl _
  · rw [Work.arbitration, show (s.work.putLane l _).ddr.queue = [o] from queue]
    refine (congrArg Prod.fst grants).trans ?_
    rw [Lane.grantedTo_none _ _ (by exact released)]
    simp [Ddr.grantsFrom, Work.putLane, State.work, Work.lane]
  · rw [Work.arbitration, show (s.work.putLane l _).ddr.queue = [o] from queue, DriveUnit.ifMoved_ne _ moves]
    refine (congrArg (fun x => x.2.dedup.filter DriveUnit.heard) grants).trans ?_
    exact sameNews_again (.lane l) [.lane l, .damper o.damper] (by simp)

/-- R102: two lanes that are FREE together take the first two orders. -/
theorem State.recovery_grants_both {a b : QueuedOrder} {c₁ c₂ : Damper} (outside : s.part.state ≠ .init)
    (runs : s.ddr.lanes[l].recovery.isSome = true) (others : ∀ m : LaneIx, m ≠ l → s.ddr.lanes[m].state = .free)
    (queue : s.ddr.queue = a :: b :: rest) (ne : d ≠ e)
    (first : ∀ v : Work, v.damper d = s.ddr.dampers[d] → v.now = s.now → v.grantTo 0 a = v.hold 0 d c₁)
    (second : ∀ v : Work, v.damper e = s.ddr.dampers[e] → v.now = s.now → v.grantTo 1 b = v.hold 1 e c₂) :
    ∃ v, exec (.laneRecoveryExpiry l) s = .next v ∧ v.ddr.queue = rest ∧ v.ddr.lanes[(0 : LaneIx)].holder = some d ∧
      v.ddr.lanes[(1 : LaneIx)].holder = some e ∧ v.ddr.dampers[d] = c₁ ∧ v.ddr.dampers[e] = c₂ := by
  have bound_d : d.val < 8 := d.isLt
  have bound_e : e.val < 8 := e.isLt
  have bound_l : l.val < 2 := l.isLt
  have bound_0 : (0 : LaneIx).val < 2 := by decide
  have bound_1 : (1 : LaneIx).val < 2 := by decide
  refine ⟨_, exec_laneRecoveryExpiry outside, ?_⟩
  rw [State.drive_like (Work.Like.refl _), Work.laneRecover_eq (w := s.work) runs]
  generalize at_work : s.work.putLane l { s.work.lane l with state := .free, recovery := none } = w
  have now : w.now = s.now := by rw [← at_work]; rfl
  have dampers : ∀ x, w.damper x = s.damper x := fun x => by rw [← at_work]; rfl
  have waits : w.ddr.queue = a :: b :: rest := by rw [← at_work]; exact queue
  have free : ∀ m : LaneIx, w.ddr.lanes[m].state = .free := fun m => by
    rw [← at_work]
    by_cases same : m = l
    · subst same
      rw [Work.putLane_getElem_self]
    · rw [Work.putLane_getElem_ne _ same]
      exact others m same
  have both : w.ddr.freeLanes = [0, 1] := by
    rw [Ddr.freeLanes_eq]
    simp only [free]
    rfl
  have one : w.grantLane 0 = (w.putQueue (b :: rest)).hold 0 d c₁ := by
    simp only [Work.grantLane, waits]
    exact first _ (dampers d) now
  have other : ((w.putQueue (b :: rest)).hold 0 d c₁).damper e = s.ddr.dampers[e] :=
    (Work.damper_putDamper_ne _ ne.symm _).trans (dampers e)
  have two : ((w.putQueue (b :: rest)).hold 0 d c₁).grantLane 1 =
      (((w.putQueue (b :: rest)).hold 0 d c₁).putQueue rest).hold 1 e c₂ := second _ other now
  generalize held : (w.putQueue (b :: rest)).hold 0 d c₁ = v at one two other
  have laneFirst : v.ddr.lanes[(0 : LaneIx)] = { w.lane 0 with state := .busy, holder := some d } := by
    rw [← held]
    exact Work.putLane_getElem_self _ _ _
  have damperFirst : v.damper d = c₁ := by rw [← held, Work.damper_hold]
  have stuck : ((v.putQueue rest).hold 1 e c₂).ddr.freeLanes = [] := by
    refine Ddr.freeLanes_none fun m => ?_
    have either : m = 0 ∨ m = 1 := (show m.val = 0 ∨ m.val = 1 by omega).imp Fin.ext Fin.ext
    rcases either with rfl | rfl
    · rw [show ((v.putQueue rest).hold 1 e c₂).ddr.lanes[(0 : LaneIx)] = v.ddr.lanes[(0 : LaneIx)] from
        Work.putLane_getElem_ne _ (by decide) _, laneFirst]
      simp
    · rw [show ((v.putQueue rest).hold 1 e c₂).ddr.lanes[(1 : LaneIx)] = _ from Work.putLane_getElem_self _ _ _]
      simp
  have granted : w.grant = (v.putQueue rest).hold 1 e c₂ := by
    rw [Work.grant, Work.grantUpTo_succ _ (by simp [both]) (by simp [waits]), both, List.foldl_cons, List.foldl_cons,
      List.foldl_nil, one, two, Work.grantUpTo_idle _ (.inl stuck)]
  rw [granted]
  refine ⟨rfl, ?_, ?_, ?_, ?_⟩
  · exact (congrArg Lane.holder (Work.putLane_getElem_ne (v.putQueue rest) (show (0 : LaneIx) ≠ 1 by decide) _)).trans
      (congrArg Lane.holder laneFirst)
  · exact congrArg Lane.holder (Work.putLane_getElem_self (v.putQueue rest) 1 _)
  · exact (Work.damper_putDamper_ne _ ne _).trans damperFirst
  · exact Work.damper_hold _ 1 e c₂

end Granted

end Sys2Proof.Machine

namespace Sys2Proof
open Sys2Proof.Machine

/-- Settles O46: the refusals, a new order that finds one lane FREE, and a lane that has recovered. -/
theorem lanesAreGranted : Obligations.LanesAreGranted := by
  intro d e l index percent cls s c cmd n k due lane ok
  have bound : d.val < 8 := d.isLt
  refine ⟨fun run => ?_, fun config bad => ?_, fun config small empty room free first => ?_,
    fun outside runs out others => ⟨fun empty => ?_, fun o head is => ⟨?_, ?_, ?_⟩⟩,
    fun outside runs => ⟨fun law => ?_, fun a first b second is_a is_b ne others t goal away u goal' away' => ?_⟩⟩
  · have outside : s.part.state ≠ .init := by simp [run]
    show execMove index percent cls s = _
    rw [execMove, State.take_next _ _ _ outside, if_pos (by simp [State.inRun, run]), State.strike_status]
    rfl
  · have outside : s.part.state ≠ .init := by simp [config]
    show execMove index percent cls s = _
    rw [execMove, State.take_next _ _ _ outside, if_neg (by simp [State.inRun, config])]
    refine congrArg Host.Outcome.next ?_
    cases at_index : indexOf 8 index with
    | none => exact State.strike_status s _ _ _
    | some i =>
      have small : index.toNat < 8 := by
        by_contra big
        rw [indexOf_none 8 index (Nat.le_of_not_lt big)] at at_index
        exact absurd at_index (by simp)
      exact (if_pos (bad.resolve_left (by omega))).trans (State.strike_status s _ _ _)
  · intro granted
    refine ⟨fun idle far target away => ?_, fun unhomed noInput => ?_⟩
    · obtain ⟨t, target⟩ := Option.isSome_iff_exists.mp target
      have distant : ¬ (k = .normal ∧ n ≤ t + 8 ∧ t ≤ n + 8) := by
        rintro ⟨normal, near⟩
        rcases far t target with safety | beyond | beyond
        · exact absurd (normal.symm.trans safety) (by decide)
        · omega
        · omega
      have answer : execMove (BitVec.ofNat 8 d.val) percent cls s = .next (ok.order d (min 100 percent.toNat) k .link) := by
        refine (execMove_eq config percent cls small).trans ?_
        rw [if_neg (by rw [idle]; decide), if_neg (by rw [idle]; decide)]
      refine answer.trans (congrArg Host.Outcome.next ?_)
      refine State.order_granted (u := ok) (g := .move n) empty room free first
        (c₁ := { c with state := .waiting, target := some n }) ?_ rfl (by rw [show ok.ddr.dampers[d].state = .idle from idle]; decide)
        (by simp) (by rw [show ok.ddr.dampers[d].state = .idle from idle]; simp) fun v record now => ?_
      · rw [show ok.work.takeOrder d (min 100 percent.toNat) k .link = (ok.work.takeIdle d n k .link).grant by
          simp only [Work.takeOrder, show (ok.work.damper d).state = .idle from idle]
          rfl, Work.takeIdle_far (w := ok.work) target distant, if_neg (by exact away)]
        rfl
      · rw [Work.grantTo_away (n := n) rfl (by rw [record]; exact away), record, now]
        rfl
    · have answer : execMove (BitVec.ofNat 8 d.val) percent cls s = .next (ok.order d (min 100 percent.toNat) k .link) := by
        refine (execMove_eq config percent cls small).trans ?_
        rw [if_neg (by rw [unhomed]; decide), if_neg (by rw [unhomed]; decide)]
      refine answer.trans (congrArg Host.Outcome.next ?_)
      refine State.order_granted (u := ok) (g := .home (some n)) empty room free first
        (c₁ := { c with state := .waiting }) ?_ rfl (by rw [show ok.ddr.dampers[d].state = .unhomed from unhomed]; decide)
        (by simp) (by rw [show ok.ddr.dampers[d].state = .unhomed from unhomed]; simp) fun v record now => ?_
      · simp only [Work.takeOrder, show (ok.work.damper d).state = .unhomed from unhomed]
        rfl
      · rw [Work.grantTo_search (p := some n) rfl (by rw [record]; exact noInput), record, now]
        rfl
  · refine (exec_laneRecoveryExpiry outside).trans (congrArg Host.Outcome.next ?_)
    refine s.drive_laneBecomes ((Work.laneRecover_eq (w := s.work) runs).trans (Work.grant_idle _ (.inr empty)))
  · intro t goal away
    have goal : o.goal = .move t := by cases at_goal : o.goal <;> simp_all
    refine State.recovery_granted outside runs out others (List.eq_cons_of_mem_head? head) is fun v record now => ?_
    subst is
    rw [Work.grantTo_away goal (by rw [record]; exact away), record, now]
    rfl
  · intro p goal noInput
    have goal : o.goal = .home p := by cases at_goal : o.goal <;> simp_all
    refine State.recovery_granted outside runs out others (List.eq_cons_of_mem_head? head) is fun v record now => ?_
    subst is
    rw [Work.grantTo_search goal (by rw [record]; exact noInput), record, now]
    rfl
  · intro law p goal input alone home there
    have goal : o.goal = .home p := by cases at_goal : o.goal <;> simp_all
    have weak := ((State.driveLaw_iff s).mp law).1
    have queue : s.ddr.queue = [o] := (List.eq_cons_of_mem_head? head).trans (by rw [alone])
    have waiting : c.state = .waiting := by
      subst is
      obtain ⟨waits, -⟩ := (Damper.lawful_iff _ _).mp (Ddr.Weak.lawful (w := s.work) weak o.damper)
      exact waits.mpr (by
        rw [show s.work.ddr.queuedOrder o.damper = some o from queuedOrder_of_mem weak.once (by rw [queue]; exact .head _)]
        rfl)
    refine State.recovery_arrives weak outside runs out others queue is (Damper.arrived_lane _ _) ?_ ?_
    · rw [show s.ddr.dampers[d].state = .waiting from waiting]
      unfold Damper.arrived
      split <;> simp
    · rw [Damper.grantedBy_home _ goal, if_pos input, if_pos (by rcases there with rfl | rfl <;> rfl)]
      rfl
  · exact State.laneRecoveryExpiry_answers ((State.driveLaw_iff s).mp law).1 outside runs
  · have goal : a.goal = .move t := by cases at_goal : a.goal <;> simp_all
    have goal' : b.goal = .move u := by cases at_goal : b.goal <;> simp_all
    have queue : s.ddr.queue = a :: b :: s.ddr.queue.drop 2 := by
      rw [List.eq_cons_of_mem_head? first] at second ⊢
      rw [List.tail_cons] at second
      rw [List.eq_cons_of_mem_head? second]
      rfl
    refine State.recovery_grants_both outside runs others queue ne (fun v record now => ?_) fun v record now => ?_
    · subst is_a
      rw [Work.grantTo_away goal (by rw [record]; exact away), record, now]
      rfl
    · subst is_b
      rw [Work.grantTo_away goal' (by rw [record]; exact away'), record, now]
      rfl

end Sys2Proof

/-! ### The law of the drive through every step: events at DDR, the orders of its owners, and the bindings -/

namespace Sys2Proof.Machine

open State (Touches)

/-- The law of the drive over DDR's records: `present` and `laid` say which dampers and lanes are bound. -/
def Ddr.Full (r : Ddr) (present : DamperIx → Bool) (laid : LaneIx → Bool) : Prop := r.Weak present laid ∧ r.Granted

/-- A damper's pair is bound. -/
def State.paired (s : State) (d : DamperIx) : Bool := s.bound (.sel d) && s.bound (.home d)

/-- A lane's pair is bound. -/
def State.laid (s : State) (l : LaneIx) : Bool := s.bound (.step l) && s.bound (.dir l)

theorem State.driveLaw_iff_full (s : State) : s.DriveLaw ↔ s.ddr.Full s.paired s.laid := s.driveLaw_iff

section WorkKeeps

variable {w : Work} {present : DamperIx → Bool} {laid : LaneIx → Bool}

/-! #### Events at DDR -/

theorem Ddr.Weak.takeOrder (h : w.ddr.Weak present laid) (d : DamperIx) (percent : Nat) (k : OrderClass) (src : OrderSource) :
    (w.takeOrder d percent k src).ddr.Full present laid := by
  unfold Work.takeOrder
  refine Ddr.Weak.grant ?_
  split
  · exact h.putLast _
  · exact h.putLast _
  · exact h.takeUnhomed ‹_› _ _ _
  · exact h.takeIdle ‹_› _ _ _
  · exact h.takeWaiting ‹_› _ _ _
  · exact h.takeMoving ‹_› _ _ _
  · exact h.takeHoming ‹_› _ _ _
  · exact h.takeSettling ‹_› _ _ _

theorem Ddr.Weak.stepComplete (h : w.ddr.Weak present laid) (d : DamperIx) : (w.stepComplete d).ddr.Full present laid := by
  unfold Work.stepComplete
  refine Ddr.Weak.grant ?_
  split
  · next homing => exact (h.stepped (.inl homing)).1 _
  · next moving =>
    obtain ⟨searches, moves⟩ := h.stepped (.inr moving)
    split
    · exact searches _
    · exact moves moving
  all_goals exact h

theorem Ddr.Weak.settleExpire (h : w.ddr.Weak present laid) (d : DamperIx) : (w.settleExpire d).ddr.Full present laid := by
  unfold Work.settleExpire
  refine Ddr.Weak.grant ?_
  split
  · exact h
  · next due runs =>
    obtain ⟨-, -, -, -, -, settles, -⟩ := (Damper.lawful_iff _ _).mp (h.lawful d)
    have settling := settles.mp (by rw [runs]; rfl)
    split
    · next released => exact h.settled settling (Option.isNone_iff_eq_none.mp released)
    · next held => exact h.continueMove settling (Option.isSome_iff_ne_none.mpr fun none => held (by rw [none]; rfl))

theorem Ddr.Weak.homeChange (h : w.ddr.Weak present laid) (d : DamperIx) (on : Bool) :
    (w.homeChange d on).ddr.Full present laid := by
  unfold Work.homeChange
  refine Ddr.Weak.grant ?_
  cases on with
  | false => exact h.sees false
  | true =>
    obtain ⟨homing, moving⟩ := h.homeSeen (d := d)
    rw [if_pos rfl]
    split
    · exact homing ‹_›
    · split
      · exact (moving ‹_›).1
      · exact (moving ‹_›).2
    all_goals exact h.sees true

theorem Ddr.Weak.laneFltChange (h : w.ddr.Weak present laid) (l : LaneIx) (on : Bool) :
    (w.laneFltChange l on).ddr.Full present laid := by
  have seen := h.laneSees (l := l) on
  have fault (there : (w.lane l).state ≠ .absent) : ((w.putLane l ((w.lane l).sees on)).laneFault l).ddr.Weak present laid :=
    seen.laneFault (by rw [Work.lane_putLane]; exact there)
  unfold Work.laneFltChange
  refine Ddr.Weak.grant ?_
  split
  · next free =>
    split
    · exact fault (fun absent => absurd (free.symm.trans absent) (by decide))
    · exact seen
  · next busy =>
    split
    · exact fault (fun absent => absurd (busy.symm.trans absent) (by decide))
    · exact seen
  · next out =>
    split
    · split
      · exact fault (fun absent => absurd (out.symm.trans absent) (by decide))
      · exact seen
    · refine Ddr.Weak.recovers seen ?_ _ out ?_
      · rw [Work.lane_putLane]
        exact out
      · rw [Work.lane_putLane]
        rfl
  all_goals exact seen

theorem Ddr.Full.laneRecover (h : w.ddr.Full present laid) (l : LaneIx) : (w.laneRecover l).ddr.Full present laid := by
  unfold Work.laneRecover
  dsimp only
  split
  · exact h
  · next due runs => exact Ddr.Weak.grant (h.1.laneRecovers (by rw [runs]; rfl))

theorem Ddr.Full.historyExpire (h : w.ddr.Full present laid) (l : LaneIx) : (w.historyExpire l).ddr.Full present laid := by
  unfold Work.historyExpire
  dsimp only
  split
  · exact h
  · refine ⟨h.1.touchLane rfl rfl rfl, fun ⟨m, free⟩ => h.2 ⟨m, ?_⟩⟩
    by_cases same : m = l
    · subst same
      rwa [Work.putLane_getElem_self] at free
    · rwa [Work.putLane_getElem_ne _ same] at free

theorem Ddr.Full.settleSettings (h : w.ddr.Full present laid) (d : DamperIx) (set : DamperSettings) :
    (w.putDamper d ((w.damper d).settleSettings set)).ddr.Full present laid := ⟨h.1.settleSettings set, h.2⟩

theorem Ddr.Weak.rehome (h : w.ddr.Weak present laid) (d : DamperIx) (run : Bool) (owner : Option Nat) :
    (w.rehome d run owner).ddr.Full present laid := by
  have rests (p : Option Nat)
      (state : (w.damper d).state = .jammed ∨ (w.damper d).state = .unhomed ∨ (w.damper d).state = .idle) :
      (w.queueRehome d p).ddr.Weak present laid := by
    have stays := h.rehomed (d := d) (by rcases state with h | h | h <;> simp [h]) (by rcases state with h | h | h <;> simp [h]) p
    rwa [Work.freeLaneOf_none (h.unqueuedLane state)] at stays
  unfold Work.rehome
  refine Ddr.Weak.grant ?_
  split
  · exact h
  · exact rests _ (.inl ‹_›)
  · exact rests _ (.inr (.inl ‹_›))
  · exact rests _ (.inr (.inr ‹_›))
  · next waits =>
    split
    · exact h
    · next o queued =>
      have lawful := h.lawful d
      rw [queued] at lawful
      split
      · refine h.requeuedHome (c := { w.damper d with position := none, target := none }) queued rfl rfl ?_ _
        simpa [Damper.Lawful, waits] using lawful
      · split
        · obtain ⟨-, same⟩ := queuedOrder_eq_some queued
          exact (Work.requeue_ddr_but (h.open d) (by exact same)).close rfl (h.absent_iff d) lawful
            (by simp [Damper.Fits, Goal.isHome])
        · exact h
  · next homing =>
    split
    · refine h.putDamper rfl .rfl ?_ (by simp [h.unqueued (d := d) (by simp [homing])])
      simpa [Damper.Lawful, homing] using h.lawful d
    · exact h
  · next moving => exact h.rehomed (by simp [moving]) (by simp [moving]) _
  · next settling => exact h.rehomed (by simp [settling]) (by simp [settling]) _

theorem Ddr.Weak.enableLane (h : w.ddr.Weak present laid) {l : LaneIx} (there : (w.lane l).state ≠ .absent) :
    (w.enableLane l).ddr.Full present laid := by
  rw [Work.enableLane_eq]
  exact Ddr.Weak.grant (h.enabled there)

theorem Ddr.Weak.enterRun (h : w.ddr.Weak present laid) : w.enterRun.ddr.Full present laid :=
  Ddr.Weak.grant (Ddr.Weak.foldl (fun _ d law => law.startHoming d) _ h)

/-- R119: leaving RUN empties the queue. -/
theorem Work.queue_leaveRun (w : Work) : w.leaveRun.ddr.queue = [] := rfl

theorem Work.queue_linkReset (w : Work) (retain : Bool) : (w.linkReset retain).ddr.queue = [] := by
  unfold Work.linkReset
  split
  · exact w.queue_leaveRun
  · exact List.foldlRecOn (motive := fun v : Work => v.ddr.queue = []) _ _ w.queue_leaveRun fun _ empty _ _ => empty

theorem Ddr.Weak.leaveRun_full (h : w.ddr.Weak present laid) : w.leaveRun.ddr.Full present laid :=
  ⟨h.leaveRun, fun _ => w.queue_leaveRun⟩

theorem Ddr.Weak.linkReset_full (h : w.ddr.Weak present laid) (retain : Bool) :
    (w.linkReset retain).ddr.Full present laid := ⟨h.linkReset retain, fun _ => w.queue_linkReset retain⟩

/-! #### Presence -/

theorem Ddr.Full.damperPresent {present' : DamperIx → Bool} {d : DamperIx} (h : w.ddr.Full present laid)
    (absent : present d = false) (agree : ∀ e, e ≠ d → present' e = present e) (bound : present' d = true) :
    (w.damperPresent d).ddr.Full present' laid :=
  ⟨h.1.damperPresent ((h.1.absent_iff d).mpr absent) agree bound, h.2⟩

theorem Ddr.Weak.damperAbsent {present' : DamperIx → Bool} {d : DamperIx} (h : w.ddr.Weak present laid)
    (agree : ∀ e, e ≠ d → present' e = present e) (unbound : present' d = false) :
    (w.damperAbsent d).ddr.Full present' laid :=
  Ddr.Weak.grant (h.damperGone agree unbound _ rfl ⟨rfl, rfl, rfl, rfl, rfl⟩)

theorem Ddr.Weak.lanePresent {laid' : LaneIx → Bool} {l : LaneIx} (h : w.ddr.Weak present laid) (absent : laid l = false)
    (agree : ∀ m, m ≠ l → laid' m = laid m) (bound : laid' l = true) : (w.lanePresent l).ddr.Full present laid' := by
  have was : (w.lane l).state = .absent := (h.lanes l).1.mpr absent
  refine Ddr.Weak.grant (h.idleLane agree ?_ (by simp [was]) ?_ rfl (by simp))
  · dsimp only
    (repeat' split) <;> simp [bound]
  · dsimp only
    (repeat' split) <;> simp

theorem Ddr.Weak.laneAbsent {laid' : LaneIx → Bool} {l : LaneIx} (h : w.ddr.Weak present laid)
    (agree : ∀ m, m ≠ l → laid' m = laid m) (unbound : laid' l = false) : (w.laneAbsent l).ddr.Full present laid' :=
  Ddr.Weak.grant (h.loseLane agree (by simp [unbound]) (by simp) rfl (by simp))

end WorkKeeps

/-! #### Through the part: any operation, for fixed bindings -/

section PartKeeps

variable {s t : State} {present : DamperIx → Bool} {laid : LaneIx → Bool} (law : s.ddr.Full present laid)

theorem State.drive_ddr (s : State) (f : Work → Work) : (s.drive f).ddr = (f s.work).ddr := by
  rw [State.drive_eq]
  rfl

theorem State.full_of_touches {l : List Item} (law : s.ddr.Full present laid) (touched : Touches l s t) (ddr : Item.ddr ∉ l) :
    t.ddr.Full present laid := by
  have same : t.ddr = s.ddr := touched .ddr ddr
  rwa [same]

include law

theorem State.full_order (d : DamperIx) (percent : Nat) (k : OrderClass) (src : OrderSource) :
    (s.order d percent k src).ddr.Full present laid := by
  unfold State.order
  rw [State.drive_ddr]
  exact Ddr.Weak.takeOrder (w := s.work) law.1 _ _ _ _

theorem State.full_issueOrders (k : OrderClass) : (s.issueOrders k).ddr.Full present laid := by
  unfold State.issueOrders
  rw [State.drive_ddr]
  exact List.foldlRecOn (motive := fun v : Work => v.ddr.Full present laid) _ _ law
    fun _ kept _ _ => Ddr.Weak.takeOrder kept.1 _ _ _ _

omit law in
/-- What the stages of R44 do to the drive is their orders. -/
theorem State.admStages_ddr (s : State) (c : AdmCause) (before : Adm) :
    ∃ a atn k, (s.admStages c before).ddr = (State.issueOrders { s with adm := a, atn := atn } k).ddr := by
  have after (a : Adm) (l : List (SourceIx × Nat)) (k : OrderClass) (settles : Bool) (p : Picture) (b : Bool) :
      ∃ a' atn k', State.ddr ((if settles then ((({ s with adm := a }.raiseAll l).judgeFault).issueOrders k).judgeSettled
          else (({ s with adm := a }.raiseAll l).judgeFault).issueOrders k).handPicture p b) =
        (State.issueOrders { s with adm := a', atn := atn } k').ddr := by
    refine ⟨a, (({ s with adm := a }.raiseAll l).judgeFault).atn, k, ?_⟩
    rw [State.touches_handPicture _ p b .ddr (by decide), State.raiseAll_eq]
    split
    · exact State.touches_judgeSettled _ .ddr (by decide)
    · rfl
  unfold State.admStages
  dsimp only
  split <;> exact after _ _ _ _ _ _

theorem State.full_admStages (c : AdmCause) (before : Adm) : (s.admStages c before).ddr.Full present laid := by
  obtain ⟨a, atn, k, ddr⟩ := s.admStages_ddr c before
  rw [ddr]
  exact State.full_issueOrders (s := { s with adm := a, atn := atn }) law k

theorem State.full_admEvent {f : State → State} (kept : (f s).ddr.Full present laid) :
    (s.admEvent f).ddr.Full present laid := by
  unfold State.admEvent
  split
  · exact kept
  · exact law

theorem State.full_doorEffect (d : DoorIx) (on : Bool) : (s.doorEffect d on).ddr.Full present laid := by
  refine State.full_admEvent law ?_
  exact State.full_admStages (by exact law) _ _

theorem State.full_sealEffect (on : Bool) : (s.sealEffect on).ddr.Full present laid := by
  unfold State.sealEffect
  split
  · exact State.full_admStages (by exact law) _ _
  · split
    · unfold State.sealConfigOrder
      split
      · exact State.full_order law _ _ _ _
      · exact law
    · exact law

theorem State.full_levelEffect (f : Func) (on : Bool) : (s.levelEffect f on).ddr.Full present laid := by
  cases f with
  | home d =>
    show (s.drive _).ddr.Full present laid
    rw [State.drive_ddr]
    exact Ddr.Weak.homeChange (w := s.work) law.1 d on
  | door d => exact State.full_doorEffect law d on
  | laneFlt l =>
    show (s.drive _).ddr.Full present laid
    rw [State.drive_ddr]
    exact Ddr.Weak.laneFltChange (w := s.work) law.1 l on
  | sealReq => exact State.full_sealEffect law on
  | auxFlame => exact State.full_of_touches law (s.touches_flameEffect on) (by decide)
  | tach m => exact State.full_of_touches law (s.touches_tachEffect m) (by decide)
  | sc _ | sel _ | step _ | dir _ | hvOpen | auxRun | pwm _ => exact law

theorem State.full_flush (f : Func) : (s.flush f).ddr.Full present laid :=
  foldl_keeps (fun t => t.ddr.Full present laid) (fun _ b kept => State.full_levelEffect kept f b) _ law

theorem State.full_status (r : Req) (code : StatusCode) : (s.status r code).ddr.Full present laid := law

/-! #### ZON's orders -/

theorem State.full_orderBlend (z : ZoneIx) : (s.orderBlend z).ddr.Full present laid := by
  unfold State.orderBlend
  dsimp only
  split
  · exact law
  · exact State.full_order (s := s.putZone z _) law _ _ _ _

omit law in
theorem State.raiseHold_ddr (s : State) (z : ZoneIx) (m : ZoneMode) (st : Status) : (s.raiseHold z m st).ddr = s.ddr := by
  unfold State.raiseHold
  split <;> rfl

theorem State.full_stepZone (z : ZoneIx) : (s.stepZone z).ddr.Full present laid :=
  State.full_orderBlend (s := (s.putZone z _).raiseHold z _ _) (by rw [State.raiseHold_ddr]; exact law) z

theorem State.full_startZone (z : ZoneIx) : (s.startZone z).ddr.Full present laid :=
  State.full_stepZone (s := s.putZone z _) law z

theorem State.full_orderDefrost : s.orderDefrost.ddr.Full present laid :=
  State.full_order (s := { s with zon := { s.zon with orderedDefrost := some (defrostPercent s.zon.defrost) } }) law _ _ _ _

theorem State.full_recompute : s.recompute.ddr.Full present laid :=
  State.full_of_touches law (s.touches_setOutputs _) (by decide)

theorem State.full_recomputeGroups : s.recomputeGroups.ddr.Full present laid :=
  State.full_of_touches law (s.touches_setOutputs _) (by decide)

theorem State.full_setZone (z : ZoneIx) (on : Bool) (n : Nat) : (s.setZone z on n).ddr.Full present laid := by
  unfold State.setZone
  dsimp only
  split
  · refine State.full_recompute ?_
    split
    · exact State.full_startZone (by exact law) z
    · exact State.full_order (by exact law) _ _ _ _
  · exact law

theorem State.full_setDefrost (on : Bool) : (s.setDefrost on).ddr.Full present laid := by
  unfold State.setDefrost
  dsimp only
  split
  · refine State.full_recomputeGroups ?_
    split
    · exact law
    · exact State.full_orderDefrost (by exact law)
  · exact law

/-! #### The part-wide events -/

theorem State.full_enterBlock (b : Block) : (s.enterBlock b).ddr.Full present laid := by
  have touched := s.touches_enterBlock_own b
  cases b with
  | adm => exact State.full_admStages (s := { s with adm := s.admEntryRecord }) law _ _
  | zon =>
    refine State.full_recompute (State.full_orderDefrost ?_)
    refine foldl_keeps (fun t => t.ddr.Full present laid) (fun t z kept => ?_) _ law
    split
    · exact State.full_startZone kept z
    · exact kept
  | ddr =>
    show (s.drive _).ddr.Full present laid
    rw [State.drive_ddr]
    exact Ddr.Weak.enterRun (w := s.work) law.1
  | sns | asr | mov | heu | atn => exact State.full_of_touches law touched (by decide)

theorem State.full_leaveBlock (b : Block) : (s.leaveBlock b).ddr.Full present laid := by
  have touched := s.touches_leaveBlock_own b
  cases b with
  | ddr =>
    show (s.drive _).ddr.Full present laid
    rw [State.drive_ddr]
    exact Ddr.Weak.leaveRun_full (w := s.work) law.1
  | adm => exact State.full_of_touches law s.touches_admLeaveRun (by decide)
  | zon => exact State.full_of_touches law s.touches_zonLeaveRun (by decide)
  | sns | asr | mov | heu | atn => exact State.full_of_touches law touched (by decide)

theorem State.full_resetBlock (b : Block) : (s.resetBlock b).ddr.Full present laid := by
  have touched := s.touches_resetBlock_own b
  cases b with
  | ddr =>
    show (s.drive fun w => w.linkReset s.part.retain).ddr.Full present laid
    rw [State.drive_ddr]
    exact Ddr.Weak.linkReset_full (w := s.work) law.1 _
  | adm => exact State.full_of_touches law s.touches_admLinkReset (by decide)
  | zon => exact State.full_of_touches law s.touches_zonLinkReset (by decide)
  | sns | asr | mov | heu | atn => exact State.full_of_touches law touched (by decide)

end PartKeeps

end Sys2Proof.Machine

/-! ### The law of the drive through every step: the bindings, then every command -/

namespace Sys2Proof.Machine

open State (Touches)

section Bindings

variable {s t u : State} {f : Func}

theorem State.full_rebound (law : u.ddr.Full s.paired s.laid) (same : ∀ g, t.bound g = s.bound g) :
    u.ddr.Full t.paired t.laid := by
  have paired : t.paired = s.paired := funext fun d => by simp only [State.paired, same]
  have laid : t.laid = s.laid := funext fun l => by simp only [State.laid, same]
  rwa [paired, laid]

theorem State.driveLaw_of_same (law : s.DriveLaw) (ddr : t.ddr = s.ddr) (map : t.trm.map = s.trm.map) : t.DriveLaw := by
  rw [State.driveLaw_iff_full] at law ⊢
  rw [ddr]
  exact State.full_rebound law fun g => State.bound_congr map g

/-- A function of a pair whose partner stands otherwise than bound completes and breaks nothing. -/
theorem State.full_halfPair (law : u.ddr.Full s.paired s.laid) {v : Bool}
    (new : ∀ g, t.bound g = if f = g then v else s.bound g) (half : ∀ g, f.partner = some g → s.bound g = false)
    : u.ddr.Full t.paired t.laid := by
  have paired : t.paired = s.paired := by
    funext d
    simp only [State.paired, new]
    split
    · next same =>
      subst same
      simp [half (.home d) rfl]
    · split
      · next same =>
        subst same
        simp [half (.sel d) rfl]
      · rfl
  have laid : t.laid = s.laid := by
    funext l
    simp only [State.laid, new]
    split
    · next same =>
      subst same
      simp [half (.dir l) rfl]
    · split
      · next same =>
        subst same
        simp [half (.step l) rfl]
      · rfl
  rwa [paired, laid]

/-- A damper's pair completed or broken: the other pairs stand. -/
theorem State.paired_of_half {d : DamperIx} {v : Bool} (half : f = .sel d ∨ f = .home d)
    (new : ∀ g, t.bound g = if f = g then v else s.bound g) :
    (∀ e, e ≠ d → t.paired e = s.paired e) ∧ t.laid = s.laid := by
  refine ⟨fun e ne => ?_, funext fun l => ?_⟩
  · rcases half with rfl | rfl <;> simp [State.paired, new, ne.symm]
  · rcases half with rfl | rfl <;> simp [State.laid, new]

theorem State.laid_of_half {l : LaneIx} {v : Bool} (half : f = .step l ∨ f = .dir l)
    (new : ∀ g, t.bound g = if f = g then v else s.bound g) :
    (∀ m, m ≠ l → t.laid m = s.laid m) ∧ t.paired = s.paired := by
  refine ⟨fun m ne => ?_, funext fun d => ?_⟩
  · rcases half with rfl | rfl <;> simp [State.laid, new, ne.symm]
  · rcases half with rfl | rfl <;> simp [State.paired, new]

theorem State.partnerBound_eq {g : Func} (u : State) (partner : f.partner = some g) : u.partnerBound f = u.bound g := by
  simp [State.partnerBound, partner]

theorem State.full_damperPresent {d : DamperIx} (law : u.ddr.Full s.paired s.laid) (half : f = .sel d ∨ f = .home d)
    (fresh : s.bound f = false) (new : ∀ g, t.bound g = if f = g then true else s.bound g)
    {g : Func} (partner : f.partner = some g) (bound : s.bound g = true) :
    (u.drive fun w => w.damperPresent d).ddr.Full t.paired t.laid := by
  obtain ⟨agree, laid⟩ := State.paired_of_half half new
  rw [State.drive_ddr, laid]
  refine Ddr.Full.damperPresent (w := u.work) law ?_ agree ?_
  · rcases half with rfl | rfl <;> simp [State.paired, fresh]
  · rcases half with rfl | rfl <;> cases partner <;> simp [State.paired, new, bound]

theorem State.full_lanePresent {l : LaneIx} (law : u.ddr.Full s.paired s.laid) (half : f = .step l ∨ f = .dir l)
    (fresh : s.bound f = false) (new : ∀ g, t.bound g = if f = g then true else s.bound g)
    {g : Func} (partner : f.partner = some g) (bound : s.bound g = true) :
    (u.drive fun w => w.lanePresent l).ddr.Full t.paired t.laid := by
  obtain ⟨agree, paired⟩ := State.laid_of_half half new
  rw [State.drive_ddr, paired]
  refine Ddr.Weak.lanePresent (w := u.work) law.1 ?_ agree ?_
  · rcases half with rfl | rfl <;> simp [State.laid, fresh]
  · rcases half with rfl | rfl <;> cases partner <;> simp [State.laid, new, bound]

theorem State.full_ownerBind (law : u.ddr.Full s.paired s.laid) (fresh : s.bound f = false)
    (new : ∀ g, t.bound g = if f = g then true else s.bound g) (same : ∀ g, u.bound g = t.bound g) :
    (u.ownerBind f).ddr.Full t.paired t.laid := by
  have other (none : f.partner = none) : u.ddr.Full t.paired t.laid :=
    State.full_halfPair law new fun g some => by simp [none] at some
  have pair {g : Func} (partner : f.partner = some g) (ne : f ≠ g) {e : State}
      (completes : s.bound g = true → e.ddr.Full t.paired t.laid) :
      (if u.partnerBound f = true then e else u).ddr.Full t.paired t.laid := by
    rw [State.partnerBound_eq u partner, same, new, if_neg ne]
    split
    · exact completes ‹_›
    · next half =>
      refine State.full_halfPair law new fun g' some => ?_
      obtain rfl : g = g' := Option.some.inj (partner.symm.trans some)
      exact Bool.eq_false_iff.mpr half
  cases f with
  | home d => exact pair rfl nofun fun bound => State.full_damperPresent law (.inr rfl) fresh new rfl bound
  | sel d => exact pair rfl nofun fun bound => State.full_damperPresent law (.inl rfl) fresh new rfl bound
  | step l => exact pair rfl nofun fun bound => State.full_lanePresent law (.inl rfl) fresh new rfl bound
  | dir l => exact pair rfl nofun fun bound => State.full_lanePresent law (.inr rfl) fresh new rfl bound
  | sc ch => exact State.full_of_touches (other rfl) (u.touches_bindChannel ch) (by decide)
  | tach m => exact State.full_of_touches (other rfl) (u.touches_tachStart m) (by decide)
  | door _ | laneFlt _ | sealReq | auxFlame | hvOpen | auxRun | pwm _ => exact other rfl

theorem State.full_ownerUnbind (law : u.ddr.Full s.paired s.laid) (same : ∀ g, u.bound g = s.bound g)
    (new : ∀ g, t.bound g = if f = g then false else s.bound g) : (u.ownerUnbind f).ddr.Full t.paired t.laid := by
  have other (none : f.partner = none) : u.ddr.Full t.paired t.laid :=
    State.full_halfPair law new fun g some => by simp [none] at some
  have pair {g : Func} (partner : f.partner = some g) {e : State} (broken : e.ddr.Full t.paired t.laid) :
      (if u.partnerBound f = true then e else u).ddr.Full t.paired t.laid := by
    rw [State.partnerBound_eq u partner, same]
    split
    · exact broken
    · next half =>
      refine State.full_halfPair law new fun g' some => ?_
      obtain rfl : g = g' := Option.some.inj (partner.symm.trans some)
      exact Bool.eq_false_iff.mpr half
  have gone {d : DamperIx} (half : f = .sel d ∨ f = .home d) :
      (u.drive fun w => w.damperAbsent d).ddr.Full t.paired t.laid := by
    obtain ⟨agree, laid⟩ := State.paired_of_half half new
    rw [State.drive_ddr, laid]
    refine Ddr.Weak.damperAbsent (w := u.work) law.1 agree ?_
    rcases half with rfl | rfl <;> simp [State.paired, new]
  have lost {l : LaneIx} (half : f = .step l ∨ f = .dir l) :
      (u.drive fun w => w.laneAbsent l).ddr.Full t.paired t.laid := by
    obtain ⟨agree, paired⟩ := State.laid_of_half half new
    rw [State.drive_ddr, paired]
    refine Ddr.Weak.laneAbsent (w := u.work) law.1 agree ?_
    rcases half with rfl | rfl <;> simp [State.laid, new]
  cases f with
  | home d => exact pair rfl (gone (.inr rfl))
  | sel d => exact pair rfl (gone (.inl rfl))
  | step l => exact pair rfl (lost (.inl rfl))
  | dir l => exact pair rfl (lost (.inr rfl))
  | sc ch => exact State.full_of_touches (other rfl) (u.touches_unbindChannel ch) (by decide)
  | tach m => exact State.full_of_touches (other rfl) (u.touches_tachStart m) (by decide)
  | door _ | laneFlt _ | sealReq | auxFlame | hvOpen | auxRun | pwm _ => exact other rfl

theorem State.full_bindNew (law : s.ddr.Full s.paired s.laid) (p : TerminalIx) (fresh : s.bound f = false) (c : BindSettings) :
    (s.bindNew p f c).ddr.Full (s.bindNew p f c).paired (s.bindNew p f c).laid := by
  have new := s.bound_bindNew p f (c := c)
  have flushed : (s.flush f).ddr.Full s.paired s.laid := State.full_flush law f
  have mapped (e : Terminal) (g : Func) : (((s.flush f).putTerminal p e).mapFunc f (some p)).bound g =
      (s.bindNew p f c).bound g := by
    rw [State.bound_mapFunc, new]
    split
    · rfl
    · refine State.bound_congr ?_ g
      show (s.flush f).trm.map = _
      rw [s.flush_trm]
  have bound (e : Terminal) : ((((s.flush f).putTerminal p e).mapFunc f (some p)).ownerBind f).ddr.Full
      (s.bindNew p f c).paired (s.bindNew p f c).laid :=
    State.full_ownerBind (s := s) (by exact flushed) fresh new (mapped e)
  generalize (s.bindNew p f c).paired = present at bound ⊢
  generalize (s.bindNew p f c).laid = laid at bound ⊢
  unfold State.bindNew
  dsimp only
  split
  · exact State.full_levelEffect (bound _) f true
  · exact bound _

theorem State.full_rebind (law : s.ddr.Full s.paired s.laid) (p : TerminalIx) (f : Func) (c : BindSettings) :
    (s.rebind p f c).ddr.Full (s.rebind p f c).paired (s.rebind p f c).laid := by
  refine State.full_rebound (s := s) ?_ fun g => s.bound_rebind p f g c
  have put (e : Terminal) : ((s.flush f).putTerminal p e).ddr.Full s.paired s.laid := State.full_flush law f
  have moved (e : Terminal) (q : Prop) [Decidable q] (on : Bool) :
      (if q then (s.flush f).putTerminal p e else ((s.flush f).putTerminal p e).levelEffect f on).ddr.Full
        s.paired s.laid := by
    split
    · exact put e
    · exact State.full_levelEffect (put e) f on
  cases f with
  | tach m =>
    unfold State.rebind
    dsimp only
    split
    · exact put _
    · exact State.full_of_touches (put _) (State.touches_tachStart _ m) (by decide)
  | home _ | door _ | laneFlt _ | sealReq | auxFlame => exact moved _ _ _
  | sc _ | sel _ | step _ | dir _ | hvOpen | auxRun | pwm _ => exact put _

theorem State.full_unbindTerminal (law : s.ddr.Full s.paired s.laid) (p : TerminalIx) (f : Func) :
    (s.unbindTerminal p f).ddr.Full (s.unbindTerminal p f).paired (s.unbindTerminal p f).laid := by
  have new := s.bound_unbindTerminal p f
  have flushed : (s.flush f).ddr.Full s.paired s.laid := State.full_flush law f
  have negated : ∀ u : State, u = (if (s.terminal p).debounced then (s.flush f).levelEffect f false else s.flush f) →
      u.ddr.Full s.paired s.laid ∧ u.trm = s.trm := by
    rintro u rfl
    split
    · exact ⟨State.full_levelEffect flushed f false, (State.levelEffect_trm _ _ _).trans (s.flush_trm f)⟩
    · exact ⟨flushed, s.flush_trm f⟩
  obtain ⟨kept, trm⟩ := negated _ rfl
  exact State.full_ownerUnbind kept (fun g => State.bound_congr (congrArg Trm.map trm) g) new

end Bindings

/-! #### Every command -/

section Commands

variable {s t : State}

/-- A command that leaves the terminals keeps the law where it keeps DDR's records in it. -/
theorem exec_driveLaw_of_full {c : Instr} (h : exec c s = .next t) (leaves : Command.leaves c .trm = true)
    (kept : t.ddr.Full s.paired s.laid) : t.DriveLaw := by
  rw [State.driveLaw_iff_full]
  exact State.full_rebound kept fun g => State.bound_congr (congrArg Trm.map (exec_same h .trm leaves)) g

theorem State.full_drive {f : Work → Work} {present : DamperIx → Bool} {laid : LaneIx → Bool}
    (kept : (f s.work).ddr.Full present laid) : (s.drive f).ddr.Full present laid := by
  rwa [State.drive_ddr]

section Records

variable {present : DamperIx → Bool} {laid : LaneIx → Bool} (law : s.ddr.Full present laid)

include law

theorem execStepCompletion_full {d : DamperIx} (h : execStepCompletion d s = .next t) : t.ddr.Full present laid :=
  State.own_keeps (P := fun s => s.ddr.Full present laid) h law fun s law =>
    State.full_drive (Ddr.Weak.stepComplete (w := s.work) law.1 d)

theorem execSettleTimerExpiry_full {d : DamperIx} (h : execSettleTimerExpiry d s = .next t) : t.ddr.Full present laid :=
  State.own_keeps (P := fun s => s.ddr.Full present laid) h law fun s law =>
    State.full_drive (Ddr.Weak.settleExpire (w := s.work) law.1 d)

theorem execHomeChange_full {d : DamperIx} {on : Bool} (h : execHomeChange d on s = .next t) : t.ddr.Full present laid :=
  State.take_keeps (P := fun s => s.ddr.Full present laid) h law fun _ law => State.full_levelEffect law (.home d) on

theorem execLaneFltChange_full {l : LaneIx} {on : Bool} (h : execLaneFltChange l on s = .next t) : t.ddr.Full present laid :=
  State.take_keeps (P := fun s => s.ddr.Full present laid) h law fun _ law => State.full_levelEffect law (.laneFlt l) on

theorem execLaneRecoveryExpiry_full {l : LaneIx} (h : execLaneRecoveryExpiry l s = .next t) : t.ddr.Full present laid :=
  State.own_keeps (P := fun s => s.ddr.Full present laid) h law fun s law =>
    State.full_drive (Ddr.Full.laneRecover (w := s.work) law l)

theorem execLaneFaultHistoryExpiry_full {l : LaneIx} (h : execLaneFaultHistoryExpiry l s = .next t) :
    t.ddr.Full present laid :=
  State.own_keeps (P := fun s => s.ddr.Full present laid) h law fun s law =>
    State.full_drive (Ddr.Full.historyExpire (w := s.work) law l)

theorem execSetDamper_full {b0 b4 : Byte} {h1 h2 h3 : Half} (h : execSetDamper b0 h1 h2 h3 b4 s = .next t) :
    t.ddr.Full present laid := by
  refine State.take_keeps (P := fun s => s.ddr.Full present laid) h law fun s law => ?_
  split
  · exact law
  · split
    · exact law
    · dsimp only
      split
      · exact law
      · split
        · exact law
        · exact State.full_status (State.full_drive (Ddr.Full.settleSettings (w := s.work) law _ _)) _ _

theorem execMove_full {b0 b1 b2 : Byte} (h : execMove b0 b1 b2 s = .next t) : t.ddr.Full present laid := by
  refine State.take_keeps (P := fun s => s.ddr.Full present laid) h law fun s law => ?_
  split
  · exact law
  · split
    · exact law
    · split
      · exact law
      · next d _ _ =>
        have ordered := State.full_order law d (min b1.toNat 100) (OrderClass.ofField b2) .link
        split <;> exact State.full_status ordered _ _

theorem execRehome_full {b : Byte} (h : execRehome b s = .next t) : t.ddr.Full present laid := by
  refine State.take_keeps (P := fun s => s.ddr.Full present laid) h law fun s law => ?_
  split
  · exact law
  · dsimp only
    split
    · exact law
    · exact State.full_status (State.full_drive (Ddr.Weak.rehome (w := s.work) law.1 _ _ _)) _ _

theorem execLaneEnable_full {b : Byte} (h : execLaneEnable b s = .next t) : t.ddr.Full present laid := by
  refine State.take_keeps (P := fun s => s.ddr.Full present laid) h law fun s law => ?_
  split
  · exact law
  · split
    · exact law
    · next there => exact State.full_status (State.full_drive (Ddr.Weak.enableLane (w := s.work) law.1 there)) _ _

/-! ADM's and ZON's commands. -/

theorem execAdmLevelReport_full {a : AssessorIx} {l : Level} (h : execAdmLevelReport a l s = .next t) :
    t.ddr.Full present laid :=
  State.take_keeps (P := fun s => s.ddr.Full present laid) h law fun _ law =>
    State.full_admEvent law (State.full_admStages law _ _)

theorem execOatReport_full {st : Status} {v : Int} (h : execOatReport st v s = .next t) : t.ddr.Full present laid := by
  refine State.take_keeps (P := fun s => s.ddr.Full present laid) h law fun s law => State.full_admEvent law ?_
  exact State.full_admStages (by exact law) _ _

theorem execZonOutputChange_full {c : ZonChange} (h : execZonOutputChange c s = .next t) : t.ddr.Full present laid := by
  refine State.take_keeps (P := fun s => s.ddr.Full present laid) h law fun s law => State.full_admEvent law ?_
  exact State.full_admStages (by exact law) _ _

theorem execDamperStateReport_full {r : DriveReport} (h : execDamperStateReport r s = .next t) :
    t.ddr.Full present laid :=
  State.take_keeps (P := fun s => s.ddr.Full present laid) h law fun _ law =>
    State.full_admEvent law (State.full_admStages law _ _)

theorem execSealReqChange_full {on : Bool} (h : execSealReqChange on s = .next t) : t.ddr.Full present laid :=
  State.take_keeps (P := fun s => s.ddr.Full present laid) h law fun _ law => State.full_sealEffect law on

theorem execDoorChange_full {d : DoorIx} {on : Bool} (h : execDoorChange d on s = .next t) : t.ddr.Full present laid :=
  State.take_keeps (P := fun s => s.ddr.Full present laid) h law fun _ law => State.full_doorEffect law d on

theorem execAdmHoldTimerExpiry_full (h : execAdmHoldTimerExpiry s = .next t) : t.ddr.Full present laid := by
  refine State.own_keeps (P := fun s => s.ddr.Full present laid) h law fun s law => State.full_admEvent law ?_
  split
  · exact law
  · exact State.full_admStages (by exact law) _ _

theorem execPurgeTimerExpiry_full (h : execPurgeTimerExpiry s = .next t) : t.ddr.Full present laid := by
  refine State.own_keeps (P := fun s => s.ddr.Full present laid) h law fun s law => State.full_admEvent law ?_
  split
  · exact State.full_admStages (by exact law) _ _
  all_goals exact law

theorem execSetDirective_full {b : Byte} (h : execSetDirective b s = .next t) : t.ddr.Full present laid := by
  refine State.take_keeps (P := fun s => s.ddr.Full present laid) h law fun s law => ?_
  split
  · split
    · exact law
    · split
      · exact law
      · exact State.full_status (State.full_admStages (by exact law) _ _) _ _
  · exact law

theorem execSetAdmission_full {b0 b1 b6 : Byte} {h2 h3 h4 h5 : Half}
    (h : execSetAdmission b0 b1 h2 h3 h4 h5 b6 s = .next t) : t.ddr.Full present laid := by
  refine State.take_keeps (P := fun s => s.ddr.Full present laid) h law fun s law => ?_
  refine State.full_status ?_ _ _
  split
  · exact State.full_admStages (by exact law) _ _
  · exact law

theorem execZoneUpdate_full {z : ZoneIx} (h : execZoneUpdate z s = .next t) : t.ddr.Full present laid := by
  refine State.own_keeps (P := fun s => s.ddr.Full present laid) h law fun s law => ?_
  split
  · exact law
  · exact State.full_recompute (State.full_stepZone law z)

theorem execSetZone_full {b0 b1 : Byte} {n : Half} (h : execSetZone b0 b1 n s = .next t) : t.ddr.Full present laid := by
  refine State.take_keeps (P := fun s => s.ddr.Full present laid) h law fun s law => ?_
  split
  · exact law
  · split
    · exact law
    · exact State.full_status (State.full_setZone law _ _ _) _ _

theorem execSetDefrost_full {b : Byte} (h : execSetDefrost b s = .next t) : t.ddr.Full present laid := by
  refine State.take_keeps (P := fun s => s.ddr.Full present laid) h law fun s law => ?_
  split
  · exact law
  · exact State.full_status (State.full_setDefrost law _) _ _

theorem execSetZoneTuning_full {h0 h1 h3 h4 h5 h7 : Half} {b2 b6 : Byte}
    (h : execSetZoneTuning h0 h1 b2 h3 h4 h5 b6 h7 s = .next t) : t.ddr.Full present laid := by
  refine State.take_keeps (P := fun s => s.ddr.Full present laid) h law fun s law => ?_
  dsimp only
  split
  · exact law
  · refine State.full_status ?_ _ _
    split
    · exact State.full_recomputeGroups (by exact law)
    · exact law

theorem execSetCrew_full {b0 b1 : Byte} (h : execSetCrew b0 b1 s = .next t) : t.ddr.Full present laid := by
  refine State.take_keeps (P := fun s => s.ddr.Full present laid) h law fun s law => ?_
  split <;> exact law

theorem execSetState_full {b : Byte} (h : execSetState b s = .next t) : t.ddr.Full present laid := by
  refine State.take_keeps (P := fun s => s.ddr.Full present laid) h law fun s law => ?_
  have entered : s.enterRun.ddr.Full present laid :=
    foldl_keeps (fun s => s.ddr.Full present laid) (fun _ b law => State.full_enterBlock law b) _ law
  have left : s.leaveRun.ddr.Full present laid :=
    foldl_keeps (fun s => s.ddr.Full present laid) (fun _ b law => State.full_leaveBlock law b) _ law
  split
  · exact law
  · split
    · exact law
    · split
      · split
        · exact law
        · exact State.full_status entered _ _
      · exact State.full_status left _ _

theorem execLinkResetEffect_full (h : execLinkResetEffect s = .next t) : t.ddr.Full present laid := by
  refine State.take_keeps (P := fun s => s.ddr.Full present laid) h law fun s law => ?_
  split
  · have blocks := foldl_keeps (fun s => s.ddr.Full present laid) (fun _ b law => State.full_resetBlock law b) s.blockOrder
      (s := { s with part := { s.part with state := .config, cause := .linkReset } }) law
    exact State.full_of_touches blocks (State.touches_linkAfterLinkReset _) (by decide)
  · exact law

end Records

/-! BIND, UNBIND, and what leaves the map as it is. -/

variable (law : s.DriveLaw)

include law

theorem State.driveLaw_status (r : Req) (code : StatusCode) : (s.status r code).DriveLaw := law

theorem execBind_driveLaw {b0 b1 b2 b3 b4 : Byte} (h : execBind b0 b1 b2 b3 b4 s = .next t) : t.DriveLaw := by
  refine State.take_keeps h (by exact law) fun s law => ?_
  split
  · split
    · exact law
    · next p f c _ =>
      split
      · exact law
      · split
        · split
          · refine State.driveLaw_status ?_ _ _
            exact (State.driveLaw_iff_full _).mpr (State.full_rebind (s.driveLaw_iff_full.mp law) p f c)
          · exact law
        · split
          · exact law
          · next fresh =>
            refine State.driveLaw_status ?_ _ _
            exact (State.driveLaw_iff_full _).mpr
              (State.full_bindNew (s.driveLaw_iff_full.mp law) p (Bool.eq_false_iff.mpr fresh) c)
  · exact law

theorem execUnbind_driveLaw {b : Byte} (h : execUnbind b s = .next t) : t.DriveLaw := by
  refine State.take_keeps h (by exact law) fun s law => ?_
  split
  · exact law
  · split
    · exact law
    · split
      · exact law
      · refine State.driveLaw_status ?_ _ _
        exact (State.driveLaw_iff_full _).mpr (State.full_unbindTerminal (s.driveLaw_iff_full.mp law) _ _)

theorem execPinChange_driveLaw {p : TerminalIx} {high : Bool} (h : execPinChange p high s = .next t) : t.DriveLaw := by
  cases h
  split
  · exact law
  · exact State.driveLaw_of_same law (s.touches_pinChanged p high .ddr (by decide)) (s.pinChanged_map p high)

theorem execDebounceTimerExpiry_driveLaw {p : TerminalIx} (h : execDebounceTimerExpiry p s = .next t) : t.DriveLaw := by
  refine State.own_keeps h law fun s law => ?_
  split
  · refine State.driveLaw_of_same law (s.touches_takeLevel _ _ .ddr (by decide)) ?_
    rw [s.takeLevel_trm]
  · exact law

omit law in
/-- Nothing is bound after a hardware reset, and DDR's records are at their reset values. -/
theorem driveLaw_hardwareReset (s : State) (kind : ResetKind) : (s.hardwareReset kind).DriveLaw :=
  State.driveLaw_of_same reset_driveLaw rfl rfl

theorem exec_driveLaw (c : Instr) (h : exec c s = .next t) : t.DriveLaw := by
  have full := s.driveLaw_iff_full.mp law
  have kept (leaves : Command.leaves c .trm = true) (full : t.ddr.Full s.paired s.laid) : t.DriveLaw :=
    exec_driveLaw_of_full h leaves full
  cases c with
  | hardwareReset kind => cases h; exact driveLaw_hardwareReset s kind
  | bind b0 b1 b2 b3 b4 => exact execBind_driveLaw law h
  | unbind b => exact execUnbind_driveLaw law h
  | pinChange p high => exact execPinChange_driveLaw law h
  | debounceTimerExpiry p => exact execDebounceTimerExpiry_driveLaw law h
  | setState b => exact kept rfl (execSetState_full full h)
  | linkResetEffect => exact kept rfl (execLinkResetEffect_full full h)
  | admLevelReport a l => exact kept rfl (execAdmLevelReport_full full h)
  | oatReport st v => exact kept rfl (execOatReport_full full h)
  | sealReqChange on => exact kept rfl (execSealReqChange_full full h)
  | doorChange d on => exact kept rfl (execDoorChange_full full h)
  | zonOutputChange c => exact kept rfl (execZonOutputChange_full full h)
  | damperStateReport r => exact kept rfl (execDamperStateReport_full full h)
  | admHoldTimerExpiry => exact kept rfl (execAdmHoldTimerExpiry_full full h)
  | purgeTimerExpiry => exact kept rfl (execPurgeTimerExpiry_full full h)
  | setDirective b => exact kept rfl (execSetDirective_full full h)
  | setAdmission b0 b1 h2 h3 h4 h5 b6 => exact kept rfl (execSetAdmission_full full h)
  | zoneUpdate z => exact kept rfl (execZoneUpdate_full full h)
  | setZone b0 b1 n => exact kept rfl (execSetZone_full full h)
  | setZoneTuning h0 h1 b2 h3 h4 h5 b6 h7 => exact kept rfl (execSetZoneTuning_full full h)
  | setCrew b0 b1 => exact kept rfl (execSetCrew_full full h)
  | setDefrost b => exact kept rfl (execSetDefrost_full full h)
  | stepCompletion d => exact kept rfl (execStepCompletion_full full h)
  | settleTimerExpiry d => exact kept rfl (execSettleTimerExpiry_full full h)
  | homeChange d on => exact kept rfl (execHomeChange_full full h)
  | laneFltChange l on => exact kept rfl (execLaneFltChange_full full h)
  | laneRecoveryExpiry l => exact kept rfl (execLaneRecoveryExpiry_full full h)
  | laneFaultHistoryExpiry l => exact kept rfl (execLaneFaultHistoryExpiry_full full h)
  | setDamper b0 h1 h2 h3 b4 => exact kept rfl (execSetDamper_full full h)
  | move b0 b1 b2 => exact kept rfl (execMove_full full h)
  | rehome b => exact kept rfl (execRehome_full full h)
  | laneEnable b => exact kept rfl (execLaneEnable_full full h)
  | _ => exact State.driveLaw_of_same law (exec_same h .ddr rfl) (congrArg Trm.map (exec_same h .trm rfl))

end Commands

end Sys2Proof.Machine

namespace Sys2Proof
open Sys2Proof.Machine

/-- Settles O13: every event at DDR keeps the records in their law, damper by damper, and a binding changes which are present
with the map. -/
theorem stepKeepsTheDriveLaw : Obligations.StepKeepsTheDriveLaw := by
  intro s t complete law h
  exact step_keeps (P := State.DriveLaw) (fun _ _ law => law) (fun _ _ law => law)
    (fun c _ _ law h => exec_driveLaw law c h) law h

end Sys2Proof

/-! ### What an order leaves unchanged: it raises nothing, and reads DDR's records and the clock alone -/

namespace Sys2Proof.Machine

section Orders

variable {w : Work} {d : DamperIx} {l : LaneIx}

/-- What no order changes: the clock, and the attention to raise. -/
def Work.kept (w : Work) : Time × List (SourceIx × Nat) := (w.now, w.alarms)

@[simp] theorem Work.kept_putDamper (c : Damper) : (w.putDamper d c).kept = w.kept := rfl
@[simp] theorem Work.kept_putLane (r : Lane) : (w.putLane l r).kept = w.kept := rfl
@[simp] theorem Work.kept_putQueue (q : List QueuedOrder) : (w.putQueue q).kept = w.kept := rfl
@[simp] theorem Work.kept_unqueue : (w.unqueue d).kept = w.kept := rfl
@[simp] theorem Work.kept_enqueue (o : QueuedOrder) : (w.enqueue o).kept = w.kept := rfl
@[simp] theorem Work.kept_requeue (o : QueuedOrder) : (w.requeue o).kept = w.kept := rfl

@[simp] theorem Work.kept_advanceSeq : w.advanceSeq.kept = w.kept := by
  unfold Work.advanceSeq
  split <;> rfl

@[simp] theorem Work.kept_enqueueNew (g : Goal) (k : OrderClass) (src : OrderSource) :
    (w.enqueueNew d g k src).kept = w.kept := by
  simp [Work.enqueueNew]

@[simp] theorem Work.kept_freeLaneOf : (w.freeLaneOf d).kept = w.kept := by
  unfold Work.freeLaneOf
  split <;> rfl

@[simp] theorem Work.kept_takeIdle (n : Nat) (k : OrderClass) (src : OrderSource) :
    (w.takeIdle d n k src).kept = w.kept := by
  unfold Work.takeIdle
  dsimp only
  split
  · rfl
  · split
    · rfl
    · simp

@[simp] theorem Work.kept_settled : (w.settled d).kept = w.kept := by
  unfold Work.settled
  dsimp only
  split <;> simp

@[simp] theorem Work.kept_arrive : (w.arrive d).kept = w.kept := by
  unfold Work.arrive
  dsimp only
  split <;> simp

@[simp] theorem Work.kept_arriveChecked : (w.arriveChecked d).kept = w.kept := by
  unfold Work.arriveChecked
  dsimp only
  split <;> simp

@[simp] theorem Work.kept_continueMove : (w.continueMove d).kept = w.kept := by
  unfold Work.continueMove
  dsimp only
  split <;> simp

@[simp] theorem Work.kept_reverse (n : Nat) : (w.reverse d n).kept = w.kept := by
  unfold Work.reverse
  dsimp only
  split <;> simp

@[simp] theorem Work.kept_homeFound : (w.homeFound d).kept = w.kept := by
  unfold Work.homeFound
  dsimp only
  split <;> simp

@[simp] theorem Work.kept_grantTo (o : QueuedOrder) : (w.grantTo l o).kept = w.kept := by
  unfold Work.grantTo
  dsimp only
  split <;> split <;> simp

@[simp] theorem Work.kept_grantLane : (w.grantLane l).kept = w.kept := by
  unfold Work.grantLane
  split <;> simp

theorem Work.kept_foldl {α : Type} {f : Work → α → Work} (each : ∀ w a, (f w a).kept = w.kept) (as : List α) (w : Work) :
    (as.foldl f w).kept = w.kept :=
  List.foldlRecOn (motive := fun v : Work => v.kept = w.kept) as f rfl fun v same a _ => (each v a).trans same

theorem Work.kept_grantUpTo (n : Nat) (w : Work) : (w.grantUpTo n).kept = w.kept := by
  induction n generalizing w with
  | zero => rfl
  | succ n ih =>
    unfold Work.grantUpTo
    split
    · rfl
    · exact (ih _).trans (Work.kept_foldl (fun _ _ => Work.kept_grantLane) _ w)

@[simp] theorem Work.kept_grant : w.grant.kept = w.kept := Work.kept_grantUpTo _ _

@[simp] theorem Work.kept_takeWaiting (n : Nat) (k : OrderClass) (src : OrderSource) :
    (w.takeWaiting d n k src).kept = w.kept := by
  unfold Work.takeWaiting
  dsimp only
  split
  · rfl
  · split
    · split <;> simp
    · simp

@[simp] theorem Work.kept_takeMoving (n : Nat) (k : OrderClass) (src : OrderSource) :
    (w.takeMoving d n k src).kept = w.kept := by
  unfold Work.takeMoving
  dsimp only
  split
  · simp
  · split
    · simp
    · split <;> simp

@[simp] theorem Work.kept_takeSettling (n : Nat) (k : OrderClass) (src : OrderSource) :
    (w.takeSettling d n k src).kept = w.kept := by
  unfold Work.takeSettling
  dsimp only
  split <;> simp

/-- R97 to R101: an order raises no attention. -/
@[simp] theorem Work.kept_takeOrder (percent : Nat) (k : OrderClass) (src : OrderSource) :
    (w.takeOrder d percent k src).kept = w.kept := by
  unfold Work.takeOrder
  dsimp only
  rw [Work.kept_grant]
  split <;> simp [Work.takeUnhomed, Work.takeHoming]

/-! #### In the part -/

variable {s t : State}

/-- What is handed of the changes of a work (R110). -/
def Work.news (w : Work) : List Instr := w.changed.dedup.flatMap w.ddr.reportOf

/-- A work's records put into the part, and its changes handed: what an event at DDR that raises nothing leaves. -/
def State.worked (s : State) (w : Work) : State :=
  { s with ddr := w.ddr, free := w.free, handed := s.handed ++ w.news }

theorem State.drive_worked {f : Work → Work} (quiet : (f s.work).alarms = []) : s.drive f = s.worked (f s.work) := by
  rw [State.drive_eq, show f ⟨s.ddr, s.now, s.free, [], []⟩ = f s.work from rfl, quiet]
  rfl

theorem State.order_worked (s : State) (d : DamperIx) (percent : Nat) (k : OrderClass) (src : OrderSource) :
    s.order d percent k src = s.worked (s.work.takeOrder d percent k src) :=
  State.drive_worked (congrArg Prod.snd (Work.kept_takeOrder (w := s.work) _ _ _))

theorem State.work_congr (ddr : t.ddr = s.ddr) (now : t.now = s.now) (free : t.free = s.free) : t.work = s.work := by
  rw [State.work, State.work, ddr, now, free]

end Orders

/-! ### A zone's update, by what it reads (R73 to R80) -/

/-- What a consumer sees of a channel. -/
theorem State.channelView_usable (s : State) (ch : ChannelIx) :
    (s.channelView ch).1 = .usable ↔ s.sns.channels[ch].isUsable = true := by
  rw [Channel.isUsable, decide_eq_true_eq]
  exact ChannelState.status_usable_iff _

/-- The channels of a zone's group that its update reads (R71). -/
theorem zoneChannels_eq (channels : Vector Channel 15) (z : ZoneIx) :
    channels[zoneCo2 z] = (if z.val < 2 then channels[11] else channels[12]) ∧
      channels[zoneDischarge z] = if z.val < 2 then channels[6] else channels[7] := by
  by_cases front : z.val < 2
  · have co2 : zoneCo2 z = 11 := by simp [zoneCo2, zoneGroup, front]
    have discharge : zoneDischarge z = 6 := by simp [zoneDischarge, zoneGroup, front]
    simp only [co2, discharge, front, if_true]
    exact ⟨rfl, rfl⟩
  · have co2 : zoneCo2 z = 12 := by simp [zoneCo2, zoneGroup, front]
    have discharge : zoneDischarge z = 7 := by simp [zoneDischarge, zoneGroup, front]
    simp only [co2, discharge, front, if_false]
    exact ⟨rfl, rfl⟩

/-- R79: the CO2 part of the fresh demand, by cases. -/
theorem Tuning.co2Part_eq (c : Tuning) (co2 : Status × Int) {usable : Bool} (is : co2.1 = .usable ↔ usable = true) :
    c.co2Part co2 =
      if usable = false then 50
      else if co2.2 ≤ c.co2Low then 0
      else if (c.co2High : Int) ≤ co2.2 then 100
      else ((co2.2 - c.co2Low) * 100 / ((c.co2High : Int) - c.co2Low)).toNat := by
  unfold Tuning.co2Part
  cases usable with
  | true => exact (if_pos (is.mpr rfl)).trans (if_neg (by decide)).symm
  | false => exact (if_neg fun h => Bool.false_ne_true (is.mp h)).trans (if_pos rfl).symm

/-- R74 to R80: an update with what it reads named. -/
theorem Zone.step_eq (r : Zone) (c : Tuning) (i : ZoneInputs) {hot : Prop} [Decidable hot] {usable co2Usable heat : Bool}
    {temperature co2 : Int} (isHot : c.dischargeHot i = true ↔ hot) (isUsable : i.temperature.1 = .usable ↔ usable = true)
    (isCo2 : i.co2.1 = .usable ↔ co2Usable = true) (isTemperature : i.temperature.2 = temperature) (co2Is : i.co2.2 = co2)
    (heatIs : i.heat = heat) :
    let e := max (-200) (min 200 ((r.setpoint : Int) - temperature))
    let held : Prop := r.blend = 100 ∧ 0 < e ∨ r.blend = 0 ∧ e < 0 ∨ 0 < e ∧ heat = false ∨ 0 < e ∧ hot
    let integral := if held then r.integral else max (-50) (min 50 (r.integral + rha (e * c.ki) 1024))
    let d := max (-100) (min 100 (rha (e * c.kp) 64 + integral))
    let blend := ((d + 100) / 2).toNat
    let moded : Zone :=
      if usable = true then
        { r with
          mode := .active, error := e, integral := integral, demand := d
          blend := if hot then min blend r.blend else blend
          blower := max c.minBlower d.natAbs }
      else { r with mode := .hold }
    let part : Nat :=
      if co2Usable = false then 50
      else if co2 ≤ c.co2Low then 0
      else if (c.co2High : Int) ≤ co2 then 100
      else ((co2 - c.co2Low) * 100 / ((c.co2High : Int) - c.co2Low)).toNat
    r.step c i = { moded with
      fresh := min 100 (max part (r.occupancy * c.occupantFresh))
      breathing := decide (1 ≤ r.occupancy ∧ co2Usable = true ∧ (c.hardLimit : Int) ≤ co2) } := by
  intro e held integral d blend moded part
  have error : zoneError r.setpoint i.temperature.2 = e := by
    rw [isTemperature]
    rfl
  have heldEq : r.integralHeld c i e = true ↔ held := by
    simp only [Zone.integralHeld, isHot, heatIs, Bool.or_eq_true, Bool.and_eq_true, decide_eq_true_eq, Bool.not_eq_true', held,
      or_assoc]
  have next : r.nextIntegral c i e = integral := by
    show (if _ then _ else _) = _
    rw [if_congr heldEq rfl rfl]
    rfl
  have control : r.control c i =
      { r with
        mode := .active, error := e, integral := integral, demand := d
        blend := if hot then min blend r.blend else blend
        blower := max c.minBlower d.natAbs } := by
    unfold Zone.control
    dsimp only
    rw [error, next, if_congr isHot rfl rfl]
    rfl
  have choice : (if i.temperature.1 = .usable then r.control c i else { r with mode := .hold }) = moded := by
    rw [control, if_congr isUsable rfl rfl]
  have occupancy : moded.occupancy = r.occupancy := by
    show Zone.occupancy (if _ then _ else _) = _
    split <;> rfl
  have demanded : c.co2Part i.co2 = part := by
    rw [c.co2Part_eq i.co2 isCo2, co2Is]
  unfold Zone.step
  rw [choice, Zone.air, occupancy, demanded, co2Is]
  congr 1
  simp only [Bool.decide_and, isCo2, Bool.decide_eq_true, Bool.and_assoc]

theorem State.updatedZone_eq (s : State) (z : ZoneIx) (r : Zone) :
    s.updatedZone z r = s.zoneUpdated z r s.heu.offersHeat := by
  obtain ⟨co2Is, dischargeIs⟩ := zoneChannels_eq s.sns.channels z
  have hot : s.zon.tuning.dischargeHot (s.zoneInputs z) = true ↔
      (if z.val < 2 then s.sns.channels[6] else s.sns.channels[7]).isUsable = true ∧
        s.zon.tuning.discharge ≤ (if z.val < 2 then s.sns.channels[6] else s.sns.channels[7]).value := by
    rw [Tuning.dischargeHot, Bool.and_eq_true, decide_eq_true_eq, decide_eq_true_eq, ← dischargeIs]
    exact and_congr (s.channelView_usable _) .rfl
  have stepped := Zone.step_eq r s.zon.tuning (s.zoneInputs z) hot
    (s.channelView_usable (zoneTemperature z)) ((s.channelView_usable (zoneCo2 z)).trans (by rw [co2Is])) rfl
    (congrArg Channel.value co2Is) (Heu.offersHeat_eq s.heu).symm
  exact congrArg (fun q : Zone => { q with update := some (inMs s.now 1000), ordered := some q.blend }) stepped
end Sys2Proof.Machine

/-! ### The zone update and ZON's requests -/

namespace Sys2Proof.Machine

section Zones

variable {s t : State}

/-- An order in a state that differs from another in what DDR does not read. -/
theorem State.order_moved (work : t.work = s.work) (handed : t.handed = s.handed) (d : DamperIx) (n : Nat) (k : OrderClass)
    (src : OrderSource) :
    t.order d n k src =
      { t with
        ddr := (s.order d n k src).ddr, free := (s.order d n k src).free, handed := (s.order d n k src).handed } := by
  simp only [State.order_worked, State.worked, work, handed]

/-- R77: why a zone's temperature is not usable. -/
theorem State.holdDetail_eq (s : State) (z : ZoneIx) (unusable : (s.zoneInputs z).temperature.1 ≠ .usable) :
    z.val + 256 * (s.zoneInputs z).temperature.1.zoneReason = s.holdDetail z := by
  have reason : (s.zoneInputs z).temperature.1 = (s.sns.channels[z.val + 2]).state.status := rfl
  unfold State.holdDetail
  rw [reason] at unusable ⊢
  cases state : (s.sns.channels[z.val + 2]).state <;> rw [state] at unusable <;>
    simp [ChannelState.status, Status.zoneReason] at unusable ⊢

/-- R77: the attention records after an update from a mode. -/
def State.heldAtn (s : State) (z : ZoneIx) (mode : ZoneMode) : Atn :=
  if s.sns.channels[z.val + 2].isUsable = false ∧ mode = .active then s.atn.raise asZone (s.holdDetail z) else s.atn

theorem State.raiseHold_eq (s : State) (z : ZoneIx) (mode : ZoneMode) :
    s.raiseHold z mode (s.zoneInputs z).temperature.1 = { s with atn := s.heldAtn z mode } := by
  have usable := s.channelView_usable (zoneTemperature z)
  have iff : (s.zoneInputs z).temperature.1 ≠ .usable ↔ s.sns.channels[z.val + 2].isUsable = false :=
    (not_congr usable).trans Bool.eq_false_iff.symm
  unfold State.raiseHold State.heldAtn
  by_cases holds : (s.zoneInputs z).temperature.1 ≠ .usable ∧ mode = .active
  · rw [if_pos holds, if_pos ⟨iff.mp holds.1, holds.2⟩, s.holdDetail_eq z holds.1]
    rfl
  · rw [if_neg holds, if_neg fun h => holds ⟨iff.mpr h.1, h.2⟩]

theorem Zone.step_ordered (r : Zone) (c : Tuning) (i : ZoneInputs) : (r.step c i).ordered = r.ordered := by
  unfold Zone.step Zone.air
  dsimp only
  split <;> rfl

/-- R78: the blend order, and what it makes of DDR. -/
theorem State.orderBlend_eq (s : State) (z : ZoneIx) :
    let u : State :=
      if s.zon.zones[z].ordered = some s.zon.zones[z].blend then s
      else s.order (zoneDamper z) s.zon.zones[z].blend .normal .zon
    s.orderBlend z =
      { s with
        zon := { s.zon with
          zones := s.zon.zones.set z { s.zon.zones[z] with ordered := some s.zon.zones[z].blend } }
        ddr := u.ddr, free := u.free, handed := u.handed } := by
  intro u
  have bound : z.val < 4 := z.isLt
  rw [← s.orderBlend_zon z]
  by_cases same : s.zon.zones[z].ordered = some s.zon.zones[z].blend
  · have kept : s.orderBlend z = s := if_pos same
    rw [kept, show u = s from if_pos same]
  · have sent : s.orderBlend z =
        (s.putZone z { s.zon.zones[z] with ordered := some s.zon.zones[z].blend }).order (zoneDamper z) s.zon.zones[z].blend
          .normal .zon := if_neg same
    rw [show u = s.order (zoneDamper z) s.zon.zones[z].blend .normal .zon from if_neg same, sent, State.order_zon]
    refine State.order_moved (s := s) ?_ ?_ _ _ _ _ <;> rfl

/-- R74 to R78: one update, and what the blend order makes of DDR. -/
theorem State.stepZone_eq (s : State) (z : ZoneIx) :
    let r := s.zon.zones[z]
    let new := s.updatedZone z r
    let u : State := if r.ordered = some new.blend then s else s.order (zoneDamper z) new.blend .normal .zon
    s.stepZone z =
      { s with
        zon := { s.zon with zones := s.zon.zones.set z new }, atn := s.heldAtn z r.mode
        ddr := u.ddr, free := u.free, handed := u.handed } := by
  intro r new u
  have bound := z.isLt
  let stepped : Zone := { r.step s.zon.tuning (s.zoneInputs z) with update := some (inMs s.now 1000) }
  let v : State := { s.putZone z stepped with atn := s.heldAtn z r.mode }
  have unfolded : s.stepZone z = v.orderBlend z :=
    congrArg (fun q : State => q.orderBlend z) (State.raiseHold_eq (s.putZone z stepped) z r.mode)
  have zone : v.zon.zones[z] = stepped := by simp [v, State.putZone]
  have ordered : stepped.ordered = r.ordered := r.step_ordered _ _
  have moved := State.order_moved (s := s) (t := v) rfl rfl (zoneDamper z) new.blend .normal .zon
  rw [unfolded, v.orderBlend_eq z, zone, ordered, show stepped.blend = new.blend from rfl, moved]
  have put : v.zon.zones.set z { stepped with ordered := some new.blend } = s.zon.zones.set z new := by
    simp [v, State.putZone]
    rfl
  rw [put]
  by_cases same : r.ordered = some new.blend
  · simp only [if_pos same, u]
    rfl
  · simp only [if_neg same, u]
    rfl

/-- R79 to R82: the outputs formed again, and each change handed. -/
theorem State.recompute_eq (s : State) :
    s.recompute =
      { s with
        zon := { s.zon with out := if s.inRun then s.zon.outputs else zonOutputsZero }
        handed := s.handed ++ zonNews s.zon.out (if s.inRun then s.zon.outputs else zonOutputsZero) } := rfl

theorem Zon.outputs_out (v : Zon) (o : ZonOutputs) : ({ v with out := o } : Zon).outputs = v.outputs := rfl

theorem exec_zoneUpdate (z : ZoneIx) (outside : s.part.state ≠ .init) (runs : s.zon.zones[z].update.isSome = true) :
    exec (.zoneUpdate z) s = .next (s.stepZone z).recompute := by
  obtain ⟨due, update⟩ := Option.isSome_iff_exists.mp runs
  show execZoneUpdate z s = _
  rw [execZoneUpdate, State.own_next s _ outside]
  simp only [State.zone, update]

end Zones

end Sys2Proof.Machine

namespace Sys2Proof
open Sys2Proof.Machine

/-- Settles O41. -/
theorem zoneUpdates : Obligations.ZoneUpdates := by
  intro z s outside runs r new u
  have stepped := s.stepZone_eq z
  simp only [State.updatedZone_eq] at stepped
  let v : Zon := { s.zon with zones := s.zon.zones.set z new }
  let out : ZonOutputs := if s.inRun then v.outputs else zonOutputsZero
  refine ⟨{ s with
      zon := { v with out := out }, atn := s.heldAtn z r.mode, ddr := u.ddr, free := u.free
      handed := u.handed ++ zonNews s.zon.out out }, ?_, rfl, rfl, ?_, ?_, rfl, rfl, rfl⟩
  · rw [exec_zoneUpdate z outside runs, State.recompute_eq, stepped]
    rfl
  · rw [Zon.outputs_out]
    exact if_congr s.inRun_iff rfl rfl
  · show (State.heldAtn s z r.mode).sources[asZone] = _
    unfold State.heldAtn
    split
    · exact Atn.raise_getElem_self _ _ _
    · rfl

end Sys2Proof

/-! ### SET_ZONE and SET_DEFROST (R83, R87) -/

namespace Sys2Proof.Machine

section ZoneRequests

variable {s t : State}

/-- R87: the record of a zone that is disabled in RUN. -/
def Zone.disabled (r : Zone) : Zone :=
  { r with
    mode := .off, update := none, integral := 0, error := 0, demand := 0, blend := 0, breathing := false
    ordered := some 0, fresh := 0, blower := 0 }

/-- R84, R87: the record of a zone as its first update finds it. -/
def Zone.started (r : Zone) : Zone := { r with mode := .active, integral := 0, ordered := none, breathing := false }

theorem State.stopZone_eq (s : State) (z : ZoneIx) :
    let u := s.order (zoneDamper z) 0 .normal .zon
    s.stopZone z =
      { s with
        zon := { s.zon with zones := s.zon.zones.set z s.zon.zones[z].disabled }
        ddr := u.ddr, free := u.free, handed := u.handed } := by
  intro u
  refine State.order_moved (s := s) ?_ ?_ _ _ _ _ <;> rfl

theorem State.updatedZone_congr (zon : t.zon.tuning = s.zon.tuning) (sns : t.sns = s.sns) (heu : t.heu = s.heu)
    (now : t.now = s.now) (z : ZoneIx) (r : Zone) : t.updatedZone z r = s.updatedZone z r := by
  simp only [State.updatedZone, State.zoneInputs, State.channelView, State.channelStatus, State.channel, zon, sns, heu, now]

/-- R87: a zone that is enabled in RUN. -/
theorem State.startZone_eq (s : State) (z : ZoneIx) (fresh : s.zon.zones[z].integral = 0) :
    let new := s.updatedZone z s.zon.zones[z].started
    let u := s.order (zoneDamper z) new.blend .normal .zon
    s.startZone z =
      { s with
        zon := { s.zon with zones := s.zon.zones.set z new }, atn := s.heldAtn z .active
        ddr := u.ddr, free := u.free, handed := u.handed } := by
  intro new u
  have bound : z.val < 4 := z.isLt
  let v := s.putZone z s.zon.zones[z].started
  have begun : s.startZone z = v.stepZone z := by
    have same : ({ s.zon.zones[z] with mode := .active, ordered := none, breathing := false } : Zone) =
        s.zon.zones[z].started := by
      rw [Zone.started, ← fresh]
    exact congrArg (fun q => (s.putZone z q).stepZone z) same
  have zone : v.zon.zones[z] = s.zon.zones[z].started := by simp [v, State.putZone]
  have stepped := v.stepZone_eq z
  have updated : v.updatedZone z s.zon.zones[z].started = new := State.updatedZone_congr rfl rfl rfl rfl z _
  have moved := State.order_moved (s := s) (t := v) rfl rfl (zoneDamper z) new.blend .normal .zon
  simp only [zone, updated] at stepped
  rw [begun, stepped, if_neg (by simp [Zone.started]), moved]
  have put : v.zon.zones.set z new = s.zon.zones.set z new := by simp [v, State.putZone]
  rw [put]
  rfl

/-- A reply of one byte, its STATUS, handed to LNK. -/
def State.acknowledged (s : State) (kind status : Byte) : State :=
  { s with link := { s.link with busy := true, reply := some ⟨kind, [status]⟩ } }

theorem State.status_eq (s : State) (r : Req) (code : StatusCode) :
    s.status r code = s.acknowledged (r.code + 0x80#8) code.code := by
  simp only [State.status, State.answer, State.sendReply, replyKind_code, State.acknowledged]

/-- R87: the status of a SET_ZONE, by the setpoint that is stored. -/
def setZoneStatus (setpoint : Half) : Byte := if max 100 (min 320 setpoint.toNat) = setpoint.toNat then 0#8 else 1#8

theorem exec_setZone {z : ZoneIx} {enabled : Byte} {setpoint : Half} (outside : s.part.state ≠ .init)
    (flag : enabled.toNat ≤ 1) :
    exec (.setZone (BitVec.ofNat 8 z.val) enabled setpoint) s =
      .next (((s.strike (.setZone (BitVec.ofNat 8 z.val) enabled setpoint)).setZone z (decide (enabled = 1#8))
        (max 100 (min 320 setpoint.toNat))).acknowledged 0xA8#8 (setZoneStatus setpoint)) := by
  show execSetZone _ enabled setpoint s = _
  rw [execSetZone, State.take_next _ _ _ outside]
  simp only [indexOf_ofNat 4 z (by decide)]
  rw [if_neg (Nat.not_lt.mpr flag), State.status_eq, clampStatus_code_ne]
  rfl

/-- R87: an update of a setting alone. -/
theorem State.setZone_kept {z : ZoneIx} {on : Bool} {n : Nat} (kept : ¬ (s.inRun = true ∧ on ≠ s.zon.zones[z].enabled)) :
    s.setZone z on n =
      { s with zon := { s.zon with zones := s.zon.zones.set z { s.zon.zones[z] with enabled := on, setpoint := n } } } :=
  if_neg kept

/-- R87: a zone disabled in RUN. -/
theorem State.setZone_off {z : ZoneIx} {n : Nat} (run : s.inRun = true) (was : s.zon.zones[z].enabled = true) :
    let new := ({ s.zon.zones[z] with enabled := false, setpoint := n } : Zone).disabled
    let v : Zon := { s.zon with zones := s.zon.zones.set z new }
    let u := s.order (zoneDamper z) 0 .normal .zon
    s.setZone z false n =
      { s with
        zon := { v with out := v.outputs }, ddr := u.ddr, free := u.free
        handed := u.handed ++ zonNews s.zon.out v.outputs } := by
  intro new v u
  have bound : z.val < 4 := z.isLt
  let p := s.putZone z { s.zon.zones[z] with enabled := false, setpoint := n }
  have chosen : s.setZone z false n = (p.stopZone z).recompute :=
    (if_pos ⟨run, by rw [State.zone_eq, was]; decide⟩).trans (by rw [if_neg (by decide)]; rfl)
  have stopped := p.stopZone_eq z
  have moved := State.order_moved (s := s) (t := p) rfl rfl (zoneDamper z) 0 .normal .zon
  have put : p.zon.zones.set z p.zon.zones[z].disabled = s.zon.zones.set z new := by simp [p, State.putZone, new]
  simp only [put, moved] at stopped
  rw [chosen, stopped, State.recompute_eq, if_pos (by exact run)]
  rfl

/-- R87: a zone enabled in RUN. -/
theorem State.setZone_on {z : ZoneIx} {n : Nat} (run : s.inRun = true) (was : s.zon.zones[z].enabled = false) :
    let new := s.updatedZone z ({ s.zon.zones[z] with enabled := true, setpoint := n } : Zone).started
    let v : Zon := { s.zon with zones := s.zon.zones.set z new }
    let u := s.order (zoneDamper z) new.blend .normal .zon
    s.setZone z true n =
      { s with
        zon := { v with out := v.outputs }, ddr := u.ddr, free := u.free, atn := s.heldAtn z .active
        handed := u.handed ++ zonNews s.zon.out v.outputs } := by
  intro new v u
  have bound : z.val < 4 := z.isLt
  let set : Zone := { s.zon.zones[z] with enabled := true, setpoint := n }
  let p := s.putZone z { set with integral := 0 }
  have chosen : s.setZone z true n = (p.startZone z).recompute := by
    have twice : (s.putZone z set).putZone z { (s.putZone z set).zone z with integral := 0 } = p := by
      simp [State.putZone, State.zone, p]
    refine (if_pos ⟨run, by rw [State.zone_eq, was]; decide⟩).trans ?_
    rw [if_pos rfl]
    exact congrArg (fun q : State => (q.startZone z).recompute) twice
  have zone : p.zon.zones[z] = { set with integral := 0 } := by simp [p, State.putZone]
  have started := p.startZone_eq z (by rw [zone])
  have updated : p.updatedZone z ({ set with integral := 0 } : Zone).started = new := State.updatedZone_congr rfl rfl rfl rfl z _
  have moved := State.order_moved (s := s) (t := p) rfl rfl (zoneDamper z) new.blend .normal .zon
  have put : p.zon.zones.set z new = s.zon.zones.set z new := by simp [p, State.putZone]
  simp only [zone, updated, put, moved] at started
  rw [chosen, started, State.recompute_eq, if_pos (by exact run)]
  rfl

theorem exec_setDefrost {flag : Byte} (outside : s.part.state ≠ .init) (fits : flag.toNat ≤ 1) :
    exec (.setDefrost flag) s =
      .next (((s.strike (.setDefrost flag)).setDefrost (decide (flag = 1#8))).acknowledged 0xAB#8 0#8) := by
  show execSetDefrost flag s = _
  rw [execSetDefrost, State.take_next _ _ _ outside, if_neg (Nat.not_lt.mpr fits), State.status_eq]
  rfl

/-- R83: the flag set in RUN. -/
theorem State.setDefrost_run {flag : Bool} (run : s.inRun = true) :
    let percent := defrostPercent flag
    let v : Zon := { s.zon with defrost := flag, orderedDefrost := some percent }
    let u := if flag = s.zon.defrost ∧ s.zon.orderedDefrost = some percent then s else s.order 7 percent .normal .zon
    s.setDefrost flag =
      { s with
        zon := { v with out := v.regrouped }, ddr := u.ddr, free := u.free
        handed := u.handed ++ zonNews s.zon.out v.regrouped } := by
  intro percent v u
  let p : State := { s with zon := { s.zon with defrost := flag } }
  have chosen : s.setDefrost flag =
      (if flag = s.zon.defrost ∧ s.zon.orderedDefrost = some percent then p else p.orderDefrost).recomputeGroups :=
    if_pos (by exact run)
  have ordered : (if flag = s.zon.defrost ∧ s.zon.orderedDefrost = some percent then p else p.orderDefrost) =
      { s with zon := v, ddr := u.ddr, free := u.free, handed := u.handed } := by
    by_cases same : flag = s.zon.defrost ∧ s.zon.orderedDefrost = some percent
    · rw [if_pos same, show u = s from if_pos same]
      have kept : v = p.zon := by
        show ({ s.zon with defrost := flag, orderedDefrost := some percent } : Zon) = _
        rw [← same.2]
      rw [kept]
    · rw [if_neg same, show u = s.order 7 percent .normal .zon from if_neg same]
      refine State.order_moved (s := s) ?_ ?_ _ _ _ _ <;> rfl
  rw [chosen, ordered]
  exact State.recomputeGroups_of_run (by exact s.inRun_iff.mp run)

end ZoneRequests

end Sys2Proof.Machine

namespace Sys2Proof
open Sys2Proof.Machine

/-- Settles O43: each request by what it stores and the one order it leads to. -/
theorem zoneRequests : Obligations.ZoneRequests := by
  intro z index enabled flag setpoint s outside r on stored status cmd set frame
  have bound : z.val < 4 := z.isLt
  have running (run : s.part.state = .run) : s.inRun = true := s.inRun_iff.mpr run
  have replaced (new : Zone) : (s.zon.zones.set z new)[z] = new ∧
      ∀ y : ZoneIx, y ≠ z → (s.zon.zones.set z new)[y] = s.zon.zones[y] :=
    ⟨by simp, fun y ne => Vector.getElem_set_ne _ _ fun same => ne (Fin.ext same.symm)⟩
  refine ⟨fun bad => ?_, fun fits kept => ?_, fun off run was => ?_, fun one run was => ?_, fun bad => ?_,
    fun config fits => ?_, fun run fits => ?_⟩
  · show execSetZone index enabled setpoint s = _
    rw [execSetZone, State.take_next _ _ _ outside]
    refine congrArg Host.Outcome.next ?_
    cases place : indexOf 4 index with
    | none => exact State.strike_status s _ _ _
    | some y =>
      have inside : ¬ 3 < index.toNat := fun above => by simp [indexOf_none 4 index above] at place
      exact (if_pos (bad.resolve_left inside)).trans (State.strike_status s _ _ _)
  · rw [exec_setZone outside fits, State.setZone_kept]
    · rfl
    · rintro ⟨run, differ⟩
      rcases kept with config | same
      · exact absurd (s.inRun_iff.mp run) (by rw [config]; decide)
      · exact differ same
  · subst off
    have done := exec_setZone (s := s) (z := z) (setpoint := setpoint) outside (show (0#8).toNat ≤ 1 by decide)
    rw [show decide (0#8 = 1#8) = false from rfl, State.setZone_off (s := s.strike cmd) (running run) was] at done
    obtain ⟨here, elsewhere⟩ := replaced ({ s.zon.zones[z] with enabled := false, setpoint := stored } : Zone).disabled
    exact ⟨_, done, rfl, rfl, here, elsewhere, rfl, rfl, rfl, rfl⟩
  · subst one
    have done := exec_setZone (s := s) (z := z) (setpoint := setpoint) outside (show (1#8).toNat ≤ 1 by decide)
    rw [show decide (1#8 = 1#8) = true from rfl, State.setZone_on (s := s.strike cmd) (running run) was,
      State.updatedZone_eq] at done
    obtain ⟨here, elsewhere⟩ := replaced (s.zoneUpdated z
      ({ s.zon.zones[z] with enabled := true, setpoint := stored } : Zone).started s.heu.offersHeat)
    refine ⟨_, done, rfl, rfl, here, ?_, elsewhere, rfl, ?_⟩
    · show (State.heldAtn _ z .active).sources[asZone] = _
      unfold State.heldAtn
      cases usable : s.sns.channels[z.val + 2].isUsable with
      | true => exact (congrArg (fun a : Atn => a.sources[asZone]) (if_neg (by simp [usable]))).trans (if_pos rfl).symm
      | false =>
        rw [if_pos ⟨usable, rfl⟩, if_neg (by decide)]
        exact Atn.raise_getElem_self _ _ _
    · intro u
      have sent := congrArg (fun q : Zone => (s.strike cmd).order (zoneDamper z) q.blend .normal .zon) here
      rw [show u = _ from sent]
      exact ⟨rfl, rfl, rfl⟩
  · show execSetDefrost flag s = _
    rw [execSetDefrost, State.take_next _ _ _ outside, if_pos bad]
    exact congrArg Host.Outcome.next (State.strike_status s _ _ _)
  · have kept : (s.strike (.setDefrost flag)).setDefrost (decide (flag = 1#8)) =
        { s.strike (.setDefrost flag) with zon := { s.zon with defrost := decide (flag = 1#8) } } :=
      if_neg fun run => absurd (s.inRun_iff.mp run) (by rw [config]; decide)
    rw [exec_setDefrost outside fits, kept]
    rfl
  · intro percent
    have done := exec_setDefrost (s := s) outside fits
    rw [State.setDefrost_run (s := s.strike (.setDefrost flag)) (running run)] at done
    have amount : defrostPercent (decide (flag = 1#8)) = percent := by simp [defrostPercent, percent]
    rw [amount] at done
    exact ⟨_, done, rfl, rfl, rfl, rfl, rfl, rfl, rfl, rfl, rfl, rfl⟩

end Sys2Proof

/-! ### What an order makes of DDR's records reads them, the clock and the free values alone -/

namespace Sys2Proof.Machine

/-- Two works that agree but for what they have to report. -/
structure Work.Twin (w v : Work) : Prop where
  ddr : w.ddr = v.ddr
  now : w.now = v.now
  free : w.free = v.free

namespace Work.Twin

variable {w v : Work} {d : DamperIx} {l : LaneIx}

theorem refl (w : Work) : w.Twin w := ⟨rfl, rfl, rfl⟩

theorem ite {p : Prop} [Decidable p] {a b a' b' : Work} (yes : a.Twin a') (no : b.Twin b') :
    (if p then a else b).Twin (if p then a' else b') := by
  split
  · exact yes
  · exact no

section
variable (h : w.Twin v)
include h

theorem damper (d : DamperIx) : w.damper d = v.damper d := by rw [Work.damper, Work.damper, h.ddr]

theorem lane (l : LaneIx) : w.lane l = v.lane l := by rw [Work.lane, Work.lane, h.ddr]

theorem putDamper (c : Damper) : (w.putDamper d c).Twin (v.putDamper d c) :=
  ⟨by simp only [Work.putDamper, h.ddr], h.now, h.free⟩

theorem putLane (r : Lane) : (w.putLane l r).Twin (v.putLane l r) :=
  ⟨by simp only [Work.putLane, h.ddr], h.now, h.free⟩

theorem putQueue (q : List QueuedOrder) : (w.putQueue q).Twin (v.putQueue q) :=
  ⟨by simp only [Work.putQueue, h.ddr], h.now, h.free⟩

theorem unqueue : (w.unqueue d).Twin (v.unqueue d) := by
  rw [Work.unqueue, Work.unqueue, h.ddr]
  exact h.putQueue _

theorem enqueue (o : QueuedOrder) : (w.enqueue o).Twin (v.enqueue o) := by
  rw [Work.enqueue, Work.enqueue, h.ddr]
  exact h.putQueue _

theorem requeue (o : QueuedOrder) : (w.requeue o).Twin (v.requeue o) := h.unqueue.enqueue o

theorem advanceSeq : w.advanceSeq.Twin v.advanceSeq := by
  simp only [Work.advanceSeq, h.ddr, h.free]
  exact ite ⟨rfl, h.now, rfl⟩ ⟨rfl, h.now, rfl⟩

theorem enqueueNew (g : Goal) (k : OrderClass) (src : OrderSource) :
    (w.enqueueNew d g k src).Twin (v.enqueueNew d g k src) := by
  rw [Work.enqueueNew, Work.enqueueNew, h.ddr]
  exact (h.enqueue _).advanceSeq

theorem freeLaneOf : (w.freeLaneOf d).Twin (v.freeLaneOf d) := by
  simp only [Work.freeLaneOf, h.damper, h.lane]
  split
  · exact h
  · exact h.putLane _

theorem takeIdle (t : Nat) (k : OrderClass) (src : OrderSource) : (w.takeIdle d t k src).Twin (v.takeIdle d t k src) := by
  simp only [Work.takeIdle, h.damper]
  exact ite h (ite (h.putDamper _) ((h.enqueueNew _ _ _).putDamper _))

theorem settled : (w.settled d).Twin (v.settled d) := by
  simp only [Work.settled, h.damper]
  split
  · exact h.putDamper _
  · exact (h.putDamper _).takeIdle _ _ _

theorem arrive : (w.arrive d).Twin (v.arrive d) := by
  simp only [Work.arrive, h.damper, h.now]
  exact ite (h.freeLaneOf.putDamper _).settled (h.freeLaneOf.putDamper _)

theorem arriveChecked : (w.arriveChecked d).Twin (v.arriveChecked d) := by
  simp only [Work.arriveChecked, h.damper, h.now]
  exact ite (h.putDamper _) h.arrive

theorem continueMove : (w.continueMove d).Twin (v.continueMove d) := by
  simp only [Work.continueMove, h.damper, h.now]
  exact ite (h.freeLaneOf.putDamper _) (h.putDamper _)

theorem reverse (t : Nat) : (w.reverse d t).Twin (v.reverse d t) := by
  simp only [Work.reverse, h.damper, h.now]
  exact ite (h.putDamper _).continueMove (h.putDamper _)

theorem homeFound : (w.homeFound d).Twin (v.homeFound d) := by
  simp only [Work.homeFound, h.damper]
  exact ite (h.putDamper _).arrive ((h.putDamper _).reverse _)

theorem grantTo (o : QueuedOrder) : (w.grantTo l o).Twin (v.grantTo l o) := by
  simp only [Work.grantTo, h.damper, h.lane, h.now]
  split
  · exact ite ((h.putLane _).putDamper _).arriveChecked ((h.putLane _).putDamper _)
  · exact ite ((h.putLane _).putDamper _).homeFound ((h.putLane _).putDamper _)

theorem grantLane : (w.grantLane l).Twin (v.grantLane l) := by
  simp only [Work.grantLane, h.ddr]
  split
  · exact h
  · exact (h.putQueue _).grantTo _

end

theorem foldl {α : Type} {f : Work → α → Work} (each : ∀ {w v : Work} (a : α), w.Twin v → (f w a).Twin (f v a)) (as : List α) :
    ∀ {w v : Work}, w.Twin v → (as.foldl f w).Twin (as.foldl f v) := by
  induction as with
  | nil => exact fun h => h
  | cons a as ih => exact fun h => ih (each a h)

theorem grantUpTo (n : Nat) : ∀ {w v : Work}, w.Twin v → (w.grantUpTo n).Twin (v.grantUpTo n) := by
  induction n with
  | zero => exact fun h => h
  | succ n ih =>
    intro w v h
    simp only [Work.grantUpTo, h.ddr]
    split
    · exact h
    · exact ih (foldl (f := Work.grantLane) (fun _ twin => twin.grantLane) _ h)

section
variable (h : w.Twin v)
include h

theorem grant : w.grant.Twin v.grant := by
  rw [Work.grant, Work.grant, h.ddr]
  exact grantUpTo _ h

theorem takeWaiting (t : Nat) (k : OrderClass) (src : OrderSource) :
    (w.takeWaiting d t k src).Twin (v.takeWaiting d t k src) := by
  simp only [Work.takeWaiting, h.damper, h.ddr]
  split
  · exact h
  · split
    · exact ite (h.unqueue.putDamper _) ((h.requeue _).putDamper _)
    · exact (h.requeue _).putDamper _

theorem takeMoving (t : Nat) (k : OrderClass) (src : OrderSource) :
    (w.takeMoving d t k src).Twin (v.takeMoving d t k src) := by
  simp only [Work.takeMoving, h.damper]
  exact ite (h.putDamper _) (ite (h.putDamper _).arriveChecked (ite (h.putDamper _) ((h.putDamper _).reverse _)))

theorem takeSettling (t : Nat) (k : OrderClass) (src : OrderSource) :
    (w.takeSettling d t k src).Twin (v.takeSettling d t k src) := by
  simp only [Work.takeSettling, h.damper]
  exact ite (h.putDamper _) (h.putDamper _)

theorem takeOrder (percent : Nat) (k : OrderClass) (src : OrderSource) :
    (w.takeOrder d percent k src).Twin (v.takeOrder d percent k src) := by
  simp only [Work.takeOrder, h.damper]
  refine grant ?_
  split
  · exact h.putDamper _
  · exact h.putDamper _
  · simp only [Work.takeUnhomed, h.damper]
    exact (h.enqueueNew _ _ _).putDamper _
  · exact h.takeIdle _ _ _
  · exact h.takeWaiting _ _ _
  · exact h.takeMoving _ _ _
  · simp only [Work.takeHoming, h.damper]
    exact h.putDamper _
  · exact h.takeSettling _ _ _

end

end Work.Twin

/-! #### Orders that follow one another -/

section Sequence

variable {s : State}

/-- The work of an order is that of the state it leaves. -/
theorem State.order_twin {w : Work} (h : s.work.Twin w) (d : DamperIx) (percent : Nat) (k : OrderClass) (src : OrderSource) :
    (s.order d percent k src).work.Twin (w.takeOrder d percent k src) := by
  have taken := h.takeOrder (d := d) percent k src
  rw [State.order_worked]
  exact ⟨taken.ddr, (congrArg Prod.fst (Work.kept_takeOrder (w := s.work) percent k src)).symm.trans taken.now, taken.free⟩

end Sequence

end Sys2Proof.Machine

/-! ### One event of ADM in RUN, stage by stage (R44): its orders, its raises, its check and its report -/

namespace Sys2Proof.Machine

section Orders

variable {s : State}

/-- What is handed of the changes of a work are reports of DDR. -/
theorem Work.mem_news {w : Work} {e : Instr} (mem : e ∈ w.news) : ∃ r, e = .damperStateReport r := by
  obtain ⟨u, -, mem⟩ := List.mem_flatMap.mp mem
  cases u with
  | damper d =>
    simp only [Ddr.reportOf] at mem
    split at mem
    · exact ⟨_, List.mem_singleton.mp mem⟩
    · cases mem
  | lane l => exact ⟨_, List.mem_singleton.mp mem⟩

theorem State.orders_twin {α : Type} (d : α → DamperIx) (n : α → Nat) (k : OrderClass) (src : OrderSource) (as : List α) :
    ∀ {s : State} {w : Work}, s.work.Twin w →
      (as.foldl (fun v a => v.order (d a) (n a) k src) s).work.Twin
        (as.foldl (fun v a => v.takeOrder (d a) (n a) k src) w) := by
  induction as with
  | nil => exact fun h => h
  | cons a as ih => exact fun h => ih (State.order_twin h _ _ _ _)

/-- R54: an order to each damper of ADM whose target changes, one after another. -/
def State.admOrders (s : State) (old : Vector (Option Nat) 3) (new : Vector Nat 3) (k : OrderClass) : State :=
  (admDampers.filter fun i => old[i] ≠ some new[i]).foldl (fun v i => v.order (admDamper i) new[i] k .adm) s

/-- R54: the orders of one event, what they make of DDR, and that they are handed as one event's reports. -/
theorem State.issueOrders_eq (s : State) (k : OrderClass) :
    ∃ news, (∀ e ∈ news, ∃ r, e = .damperStateReport r) ∧
      s.issueOrders k =
        { s with
          adm := { s.adm with ordered := tableMap some s.adm.targets }
          ddr := (s.admOrders s.adm.ordered s.adm.targets k).ddr
          free := (s.admOrders s.adm.ordered s.adm.targets k).free
          handed := s.handed ++ news } := by
  let due := admDampers.filter fun i => s.adm.ordered[i] ≠ some s.adm.targets[i]
  let f (w : Work) : Work := due.foldl (fun v i => v.takeOrder (admDamper i) s.adm.targets[i] k .adm) w
  let v : State := { s with adm := { s.adm with ordered := tableMap some s.adm.targets } }
  have quiet : (f v.work).alarms = [] :=
    congrArg Prod.snd (Work.kept_foldl (fun w i => Work.kept_takeOrder (w := w) _ _ _) due v.work)
  have twin : (s.admOrders s.adm.ordered s.adm.targets k).work.Twin (f v.work) :=
    State.orders_twin _ _ _ _ due (Work.Twin.refl s.work)
  refine ⟨(f v.work).news, fun e => Work.mem_news, ?_⟩
  rw [show s.issueOrders k = v.drive f from rfl, State.drive_worked quiet, State.worked, ← twin.ddr, ← twin.free]
  rfl

theorem State.admOrders_congr {t : State} (same : t.work = s.work) (old : Vector (Option Nat) 3) (new : Vector Nat 3)
    (k : OrderClass) :
    (t.admOrders old new k).ddr = (s.admOrders old new k).ddr ∧ (t.admOrders old new k).free = (s.admOrders old new k).free := by
  have here := State.orders_twin admDamper (fun i : Fin 3 => new[i]) k .adm
    (admDampers.filter fun i => old[i] ≠ some new[i]) (Work.Twin.refl s.work)
  have there := State.orders_twin admDamper (fun i : Fin 3 => new[i]) k .adm
    (admDampers.filter fun i => old[i] ≠ some new[i]) (Work.Twin.refl t.work)
  rw [same] at there
  exact ⟨there.ddr.trans here.ddr.symm, there.free.trans here.free.symm⟩

end Orders

/-! #### Raises -/

/-- A list of raises, at one source. -/
def Source.raiseAll (r : Source) (i : SourceIx) (l : List (SourceIx × Nat)) : Source :=
  l.foldl (fun r p => if p.1 = i then r.raise p.2 else r) r

theorem Atn.raise_source (a : Atn) (i j : SourceIx) (n : Nat) :
    (a.raise j n).sources[i] = if j = i then a.sources[i].raise n else a.sources[i] := by
  split
  · next same =>
    subst same
    exact Atn.raise_getElem_self a j n
  · next other => exact Atn.raise_getElem_ne a j i n fun same => other same.symm

theorem Atn.raiseAll_source (i : SourceIx) (l : List (SourceIx × Nat)) :
    ∀ a : Atn, (l.foldl (fun a p => a.raise p.1 p.2) a).sources[i] = a.sources[i].raiseAll i l := by
  induction l with
  | nil => exact fun _ => rfl
  | cons p l ih => exact fun a => (ih _).trans (by rw [Atn.raise_source]; rfl)

theorem Source.raiseAll_append (r : Source) (i : SourceIx) (l m : List (SourceIx × Nat)) :
    r.raiseAll i (l ++ m) = (r.raiseAll i l).raiseAll i m := List.foldl_append

theorem Source.raiseAll_if (r : Source) (i j : SourceIx) (n : Nat) (p : Prop) [Decidable p] :
    r.raiseAll i (if p then [(j, n)] else []) = if p ∧ j = i then r.raise n else r := by
  by_cases holds : p
  · rw [if_pos holds]
    by_cases same : j = i
    · rw [if_pos ⟨holds, same⟩]
      exact if_pos same
    · rw [if_neg fun h => same h.2]
      exact if_neg same
  · rw [if_neg holds, if_neg fun h => holds h.1]
    rfl

section Stages

/-- R64: what a check that stands raises where it ends. -/
def settledRaises (check : Option AdmState) (ends : Bool) : List (SourceIx × Nat) :=
  match check with
  | some st => if ends then [(asSettled, st.code)] else []
  | none => []

/-- R64: a pending check judged. -/
theorem State.judgeSettled_eq (s : State) :
    s.judgeSettled =
      { s with
        adm := { s.adm with check := if s.atTargets then none else s.adm.check }
        atn := (settledRaises s.adm.check s.atTargets).foldl (fun a p => a.raise p.1 p.2) s.atn } := by
  unfold State.judgeSettled settledRaises
  cases check : s.adm.check with
  | none =>
    have same : ({ s.adm with check := if s.atTargets = true then none else none } : Adm) = s.adm := by
      rw [ite_self, ← check]
    simp only [same]
    rfl
  | some st =>
    dsimp only
    split
    · rfl
    · rw [← check]
      rfl

/-- The record after an event's judgements, its orders and its settled check started. -/
def State.admSent (s : State) (c : AdmCause) (before : Adm) : Adm :=
  { s.admJudged c before with
    ordered := tableMap some (s.admJudged c before).targets
    check := if c.changes before (s.admJudged c before) then some (s.admJudged c before).accepted else s.adm.check }

/-- The orders of an event, from the record as the event finds it. -/
def State.admMoved (s : State) (c : AdmCause) (before : Adm) : State :=
  s.admOrders s.adm.ordered (s.admJudged c before).targets
    (c.orderClass before (s.admJudged c before) (s.admDecide c before).2)

/-- The settled check is judged at the event, and its condition holds. -/
def State.admArrived (s : State) (c : AdmCause) (before : Adm) : Bool :=
  c.judgesSettled before (s.admJudged c before) &&
    ({ s with adm := s.admSent c before, ddr := (s.admMoved c before).ddr } : State).atTargets

/-- What an event raises, in its order. -/
def State.admRaised (s : State) (c : AdmCause) (before : Adm) : List (SourceIx × Nat) :=
  admRaises c before (s.admJudged c before) (s.driveView c.drive) s.asr[2].f ++
    settledRaises (s.admSent c before).check (s.admArrived c before)

/-- What MOV is handed of an event. -/
def State.admTold (s : State) (c : AdmCause) (before : Adm) : List Instr :=
  if (s.admJudged c before).picture = before.picture ∧ ((s.admDecide c before).2 || c.purgeEnds) = false then []
  else [.admissionReport (s.admJudged c before).picture]

/-- R64: a check judged where the event calls for it. -/
theorem State.judgeSettled_if (s : State) (judges : Bool) :
    (if judges then s.judgeSettled else s) =
      { s with
        adm := { s.adm with check := if judges && s.atTargets then none else s.adm.check }
        atn := (settledRaises s.adm.check (judges && s.atTargets)).foldl (fun a p => a.raise p.1 p.2) s.atn } := by
  cases judges with
  | true => exact s.judgeSettled_eq
  | false =>
    unfold settledRaises
    cases check : s.adm.check <;> exact congrArg (fun o => ({ s with adm := { s.adm with check := o } } : State)) check

theorem State.admJudged_kept (s : State) (c : AdmCause) (before : Adm) :
    (s.admJudged c before).ordered = s.adm.ordered ∧ (s.admJudged c before).check = s.adm.check := by
  obtain ⟨state, hold, b, p, decided⟩ := s.admDecide_shape c before
  rw [State.admJudged, decided]
  exact ⟨rfl, rfl⟩

/-- The sources of attention records that differ in their lines alone. -/
theorem Atn.foldl_raise_sources {a b : Atn} (same : a.sources = b.sources) (l : List (SourceIx × Nat)) :
    (l.foldl (fun a p => a.raise p.1 p.2) a).sources = (l.foldl (fun a p => a.raise p.1 p.2) b).sources := by
  refine Vector.ext fun i hi => ?_
  have each := fun a : Atn => Atn.raiseAll_source ⟨i, hi⟩ l a
  exact (each a).trans ((congrArg (fun v : Vector Source 16 => (v[i]).raiseAll ⟨i, hi⟩ l) same).trans (each b).symm)

theorem Atn.foldl_raise_fault (l : List (SourceIx × Nat)) (a : Atn) :
    (l.foldl (fun a p => a.raise p.1 p.2) a).fault = a.fault :=
  List.foldlRecOn (motive := fun b : Atn => b.fault = a.fault) l _ rfl fun _ same _ _ => same

/-- R44: one event of ADM in RUN. -/
theorem State.admStages_eq (s : State) (c : AdmCause) (before : Adm) :
    ∃ news atn, (∀ e ∈ news, ∃ r, e = .damperStateReport r) ∧
      s.admStages c before =
        { s with
          adm := { s.admSent c before with
            check := if s.admArrived c before then none else (s.admSent c before).check }
          atn := atn, ddr := (s.admMoved c before).ddr, free := (s.admMoved c before).free
          handed := s.handed ++ news ++ s.admTold c before } ∧
      (∀ i : SourceIx, atn.sources[i] = s.atn.sources[i].raiseAll i (s.admRaised c before)) ∧
      atn.fault = (s.admJudged c before).faulty := by
  let j := s.admJudged c before
  let started := (s.admDecide c before).2
  let a : Adm := if c.changes before j then { j with check := some j.accepted } else j
  let l := admRaises c before j (s.driveView c.drive) s.asr[2].f
  let k := c.orderClass before j started
  obtain ⟨ordered, pending⟩ := s.admJudged_kept c before
  have shape : a = { j with check := (s.admSent c before).check } := by
    by_cases changes : c.changes before j = true
    · rw [show a = _ from if_pos changes, show (s.admSent c before).check = _ from if_pos changes]
    · rw [show a = _ from if_neg changes, show (s.admSent c before).check = _ from if_neg changes, ← pending]
  let s1 := ({ s with adm := a }.raiseAll (admRaises c before a (s.driveView c.drive) s.asr[2].f)).judgeFault
  let s2 := s1.issueOrders (c.orderClass before a started)
  have staged : s.admStages c before =
      (if c.judgesSettled before a then s2.judgeSettled else s2).handPicture before.picture (started || c.purgeEnds) := by
    unfold State.admStages
    dsimp only
    rw [← State.admJudged]
  let v : State := { s with
    adm := { j with check := (s.admSent c before).check }
    atn := { l.foldl (fun a p => a.raise p.1 p.2) s.atn with fault := j.faulty } }
  have first : s1 = v := by
    simp only [s1, State.raiseAll_eq, State.judgeFault]
    rw [shape]
    rfl
  have judges : c.judgesSettled before a = c.judgesSettled before j := by rw [shape]; rfl
  have second : s2 = v.issueOrders k := by
    show s1.issueOrders (c.orderClass before a started) = _
    rw [first, shape]
    rfl
  obtain ⟨news, reports, sent⟩ := v.issueOrders_eq k
  obtain ⟨ddr, free⟩ := State.admOrders_congr (t := v) (s := s) rfl j.ordered j.targets k
  have moved : v.issueOrders k = { v with
      adm := s.admSent c before, ddr := (s.admMoved c before).ddr, free := (s.admMoved c before).free
      handed := s.handed ++ news } := by
    rw [sent, show v.adm.ordered = j.ordered from rfl, show v.adm.targets = j.targets from rfl, ddr, free, ordered]
    rfl
  let atn : Atn := (settledRaises (s.admSent c before).check (s.admArrived c before)).foldl (fun a p => a.raise p.1 p.2) v.atn
  let w : State := { s with
    adm := { s.admSent c before with check := if s.admArrived c before then none else (s.admSent c before).check }
    atn := atn, ddr := (s.admMoved c before).ddr, free := (s.admMoved c before).free, handed := s.handed ++ news }
  have third : (if c.judgesSettled before a then s2.judgeSettled else s2) = w := by
    rw [judges, second, moved, State.judgeSettled_if]
    rfl
  have told : w.handPicture before.picture (started || c.purgeEnds) = { w with handed := w.handed ++ s.admTold c before } := by
    unfold State.handPicture State.admTold
    by_cases quiet : j.picture = before.picture ∧ (started || c.purgeEnds) = false
    · rw [if_pos (by exact quiet), if_pos (by exact quiet), List.append_nil]
    · rw [if_neg (by exact quiet), if_neg (by exact quiet)]
      rfl
  refine ⟨news, atn, reports, ?_, fun i => ?_, Atn.foldl_raise_fault _ _⟩
  · rw [staged, third, told]
  · have sources := Atn.foldl_raise_sources (a := v.atn) (b := l.foldl (fun a p => a.raise p.1 p.2) s.atn) rfl
      (settledRaises (s.admSent c before).check (s.admArrived c before))
    have here := congrArg (fun v : Vector Source 16 => v[i]) sources
    refine here.trans ((Atn.raiseAll_source i _ _).trans ?_)
    rw [Atn.raiseAll_source, ← Source.raiseAll_append]
    rfl

end Stages

end Sys2Proof.Machine

/-! ### The stages of R44, each by what it computes -/

namespace Sys2Proof.Machine

section Stages

theorem AdmSettings.holdTime_eq (c : AdmSettings) (st : AdmState) : c.holdTime st = c.holdBy st := by
  cases st <;> rfl

theorem AdmState.route_eq (st : AdmState) : st.route = st.routeBy := by cases st <;> rfl

theorem AdmState.eq_of_code {a b : AdmState} (same : a.code = b.code) : a = b := by
  cases a <;> cases b <;> simp [AdmState.code] at same <;> rfl

/-- R48 to R50: the acceptance stage, by where the demanded state stands. -/
theorem Adm.accept_cases (a : Adm) (now : Time) (b : Bool) :
    (a.accepted.code < a.demanded.code → a.accept now b = { a with accepted := a.demanded, hold := none }) ∧
    (a.demanded = a.accepted → a.accept now b = { a with hold := none }) ∧
    (a.demanded.code < a.accepted.code → b = true → a.accept now b = { a with accepted := a.demanded, hold := none }) ∧
    (a.demanded.code < a.accepted.code → b = false →
      a.accept now b = { a with hold := some (a.hold.getD (now + 1000000 * a.settings.holdBy a.accepted)) }) := by
  simp only [Adm.accept, AdmState.above, decide_eq_true_eq]
  refine ⟨fun up => if_pos up, fun same => ?_, fun down now => ?_, fun down later => ?_⟩
  · rw [if_neg (by rw [same]; exact Nat.lt_irrefl _), if_neg (by rw [same]; exact Nat.lt_irrefl _)]
  · rw [if_neg (Nat.lt_asymm down), if_pos down, if_pos now]
  · rw [if_neg (Nat.lt_asymm down), if_pos down, if_neg (by rw [later]; decide), startIfStopped_eq, inSec_eq,
      AdmSettings.holdTime_eq]

theorem Adm.doorOpen_iff (a : Adm) : a.doorOpen = true ↔ ∃ d : DoorIx, a.doors[d] = true := by
  simp only [Adm.doorOpen, List.any_eq_true, Vector.mem_toList_iff, Vector.mem_iff_getElem, id_eq]
  constructor
  · rintro ⟨_, ⟨i, hi, rfl⟩, isOpen⟩
    exact ⟨⟨i, hi⟩, isOpen⟩
  · rintro ⟨d, isOpen⟩
    exact ⟨_, ⟨d.val, d.isLt, rfl⟩, isOpen⟩

theorem Adm.doorOpen_eq_false_iff (a : Adm) : a.doorOpen = false ↔ ∀ d : DoorIx, a.doors[d] = false := by
  rw [← Bool.not_eq_true, a.doorOpen_iff]
  simp

theorem AdmState.guarded_iff (st : AdmState) : st.guarded = true ↔ st = .limit ∨ st = .scrub ∨ st = .seal := by
  cases st <;> simp [AdmState.guarded]

/-- R56: when the end of a breach starts a purge. -/
def Adm.purgesAfterBreach (a : Adm) (now : Time) : Prop :=
  ∃ since ∈ a.breach, (∀ d : DoorIx, a.doors[d] = false) ∧ (a.accepted = .scrub ∨ a.accepted = .seal) ∧
    1000000 * a.settings.breachMin ≤ now - since

/-- R55, R56: the breach stage. -/
theorem Adm.judgeBreach_eq (a : Adm) (now : Time) :
    (a.judgeBreach now).1 =
        { a with breach := if a.doorOpen = true ∧ a.accepted.guarded = true then some (a.breach.getD now) else none } ∧
      ((a.judgeBreach now).2 = true ↔ a.purgesAfterBreach now) := by
  unfold Adm.judgeBreach Adm.purgesAfterBreach
  cases breach : a.breach with
  | none =>
    refine ⟨?_, by simp⟩
    by_cases stands : a.doorOpen = true ∧ a.accepted.guarded = true
    · simp only [if_pos stands, Option.getD_none]
    · simp only [if_neg stands]
      rw [← breach]
  | some since =>
    by_cases stands : a.doorOpen = true ∧ a.accepted.guarded = true
    · simp only [if_pos stands, Option.getD_some]
      refine ⟨by rw [← breach], ?_⟩
      obtain ⟨d, isOpen⟩ := a.doorOpen_iff.mp stands.1
      simp only [Bool.false_eq_true, false_iff, not_exists, not_and]
      rintro _ - closed
      exact absurd (closed d) (by simp [isOpen])
    · simp only [if_neg stands]
      refine ⟨trivial, ?_⟩
      simp only [Bool.and_eq_true, Bool.not_eq_true', decide_eq_true_eq, a.doorOpen_eq_false_iff, Option.mem_def,
        Option.some.injEq, exists_eq_left', inSec_eq, Nat.zero_add, and_assoc]
      exact and_congr_right fun _ => and_comm

/-- R57 to R59: the purge stage. -/
theorem Adm.judgePurge_eq (a : Adm) (now : Time) (started : Bool) :
    let fresh : PurgeClock :=
      if a.cab = .high then .frozen (1000000 * a.settings.purgeTime) else .running (now + 1000000 * a.settings.purgeTime)
    a.judgePurge now started =
      { a with
        purge :=
          if started = true then some ⟨fresh, a.accepted.routeBy⟩
          else a.purge.map fun p =>
            ⟨match p.clock with
              | .frozen r => if a.cab = .high then .frozen r else fresh
              | .running due => .running due, a.accepted.routeBy⟩ } := by
  intro fresh
  have clock : a.freshPurgeClock now = fresh := by
    simp only [Adm.freshPurgeClock, inSec_eq, Nat.zero_add]
    rfl
  unfold Adm.judgePurge
  rw [clock, AdmState.route_eq]
  by_cases starts : started = true
  · rw [if_pos starts, if_pos starts]
  · rw [if_neg starts, if_neg starts]
    cases purge : a.purge with
    | none => exact congrArg (fun o => ({ a with purge := o } : Adm)) purge
    | some p =>
      obtain ⟨clock, route⟩ := p
      cases clock with
      | running due => rfl
      | frozen r =>
        simp only [Option.map_some]
        split <;> rfl

/-- R53, R59: the targets, as they are ordered. -/
theorem Adm.targets_eq (a : Adm) : tableMap some a.targets = a.orderedBy := by
  have state : a.stateTargets = (match a.accepted with
      | .opened => (max a.minFresh a.fresh, 0, 100)
      | .limit => (min a.settings.limitFraction (max a.minFresh a.fresh), 100, 60)
      | .scrub => (max a.settings.pressFraction (min a.fresh a.settings.limitFraction), 100, 20)
      | .seal => (0, 100, 0)
      | .inactive => (0, 0, 0)) := rfl
  unfold Adm.targets Adm.orderedBy
  rw [state]
  cases a.purge with
  | none => rfl
  | some p =>
    obtain ⟨clock, route⟩ := p
    cases route <;> rfl

theorem Damper.atTarget_eq (c : Damper) (o : Option Nat) :
    c.atTarget o =
      (decide (c.state = .absent) ||
        match c.position, o with
        | some p, some n =>
          decide (c.state = .idle ∧ p ≤ (n * c.settings.span + 50) / 100 + 8 ∧ (n * c.settings.span + 50) / 100 ≤ p + 8)
        | _, _ => false) := by
  have near (p n : Nat) : withinDeadband p (toSteps c.settings.span n) =
      decide (p ≤ (n * c.settings.span + 50) / 100 + 8 ∧ (n * c.settings.span + 50) / 100 ≤ p + 8) := by
    rw [withinDeadband, decide_eq_decide, stepDistance, toSteps]
    omega
  unfold Damper.atTarget
  cases state : c.state <;> cases position : c.position <;> cases o <;> simp [near]

theorem State.atTargets_eq (s : State) : s.atTargets = s.standsAtTargets := by
  unfold State.atTargets State.standsAtTargets
  refine congrArg (List.all (List.finRange 3)) (funext fun i => ?_)
  exact Damper.atTarget_eq _ _

/-- R63: FRESH cannot reach its seal. -/
def DriveView.Impaired (door : DamperState) (lane : LaneIx → LaneState) : Prop :=
  door = .jammed ∨ door = .waiting ∧ ∀ l : LaneIx, lane l ≠ .free ∧ lane l ≠ .busy

theorem DriveView.impaired_iff (v : DriveView) :
    (v.freshJammed || v.freshStranded) = true ↔ DriveView.Impaired v.fresh fun l => v.lanes[l] := by
  have stuck : (v.lanes.toList.all fun l => decide (l ≠ .free ∧ l ≠ .busy)) = true ↔
      ∀ l : LaneIx, v.lanes[l] ≠ .free ∧ v.lanes[l] ≠ .busy := by
    simp only [List.all_eq_true, Vector.mem_toList_iff, Vector.mem_iff_getElem, decide_eq_true_eq]
    exact ⟨fun h l => h _ ⟨l.val, l.isLt, rfl⟩, fun h x ⟨i, hi, is⟩ => is ▸ h ⟨i, hi⟩⟩
  rw [DriveView.Impaired, Bool.or_eq_true, DriveView.freshJammed, DriveView.freshStranded, Bool.and_eq_true,
    decide_eq_true_eq, decide_eq_true_eq, stuck]

/-- FRESH as ADM judges it, a report that the event carries in its place (assumption 27). -/
def State.doorSeen (s : State) (r : Option DriveReport) : DamperState :=
  match r with
  | some (.damper d st _) => if d = 0 then st else s.ddr.dampers[0].state
  | some (.lane _ _) | none => s.ddr.dampers[0].state

/-- A lane as ADM judges it, a report that the event carries in its place (assumption 27). -/
def State.laneSeen (s : State) (r : Option DriveReport) (l : LaneIx) : LaneState :=
  match r with
  | some (.lane k st) => if k = l then st else s.ddr.lanes[l].state
  | some (.damper _ _ _) | none => s.ddr.lanes[l].state

theorem State.driveView_eq (s : State) (r : Option DriveReport) :
    (s.driveView r).fresh = s.doorSeen r ∧ ∀ l : LaneIx, (s.driveView r).lanes[l] = s.laneSeen r l := by
  have lane (l : LaneIx) : (tableMap (fun l : Lane => l.state) s.ddr.lanes)[l] = s.ddr.lanes[l].state := by
    simp [tableMap]
  rcases r with _ | ⟨d, st, p⟩ | ⟨k, st⟩
  · exact ⟨rfl, lane⟩
  · by_cases here : d = 0
    · subst here
      exact ⟨rfl, lane⟩
    · have view : s.driveView (some (.damper d st p)) = s.driveView none := if_neg here
      rw [view]
      exact ⟨(if_neg here).symm, lane⟩
  · refine ⟨rfl, fun l => ?_⟩
    refine (getElem_set_ite _ _ _ _).trans ?_
    rw [lane]
    rfl

/-! #### The record that the stages leave -/

/-- The record after the acceptance stage (R45 to R50). -/
def State.admAccepted (s : State) (c : AdmCause) : Adm :=
  (s.adm.form (s.levelAt c 0) (s.levelAt c 1) (s.levelAt c 2)).accept s.now c.immediate

/-- The clock of a purge that starts (R57). -/
def Adm.startClock (a : Adm) (now : Time) : PurgeClock :=
  if a.cab = .high then .frozen (1000000 * a.settings.purgeTime) else .running (now + 1000000 * a.settings.purgeTime)

/-- A purge that is active goes on, unfrozen where the cab condition has ended, on the route of the accepted state. -/
def Adm.purgeGoesOn (a : Adm) (now : Time) : Option Purge :=
  a.purge.map fun p =>
    ⟨match p.clock with
      | .frozen r => if a.cab = .high then .frozen r else a.startClock now
      | .running due => .running due, a.accepted.routeBy⟩

theorem State.admDecide_eq (s : State) (c : AdmCause) (before : Adm) :
    (s.admDecide c before).1 =
        { s.admAccepted c with
          breach :=
            if (s.admAccepted c).doorOpen = true ∧ (s.admAccepted c).accepted.guarded = true then
              some ((s.admAccepted c).breach.getD s.now)
            else none
          purge :=
            if (s.admDecide c before).2 = true then
              some ⟨(s.admAccepted c).startClock s.now, (s.admAccepted c).accepted.routeBy⟩
            else (s.admAccepted c).purgeGoesOn s.now } ∧
      ((s.admDecide c before).2 = true ↔ (s.admAccepted c).purgesAfterBreach s.now ∨
        (s.admAccepted c).cab = .high ∧ (c.entry = true ∨ before.cab ≠ .high)) := by
  obtain ⟨breach, ends⟩ := (s.admAccepted c).judgeBreach_eq s.now
  have started : (s.admDecide c before).2 = (((s.admAccepted c).judgeBreach s.now).2 ||
      (decide (((s.admAccepted c).judgeBreach s.now).1.cab = .high) && (c.entry || decide (before.cab ≠ .high)))) := rfl
  have purged : (s.admDecide c before).1 =
      ((s.admAccepted c).judgeBreach s.now).1.judgePurge s.now (s.admDecide c before).2 := rfl
  constructor
  · rw [purged, Adm.judgePurge_eq, breach]
    rfl
  · rw [started, breach]
    simp only [Bool.or_eq_true, Bool.and_eq_true, decide_eq_true_eq, ends]

end Stages

end Sys2Proof.Machine

/-! ### The events of ADM in RUN: what each brings to the stages (R44 to R69) -/

namespace Sys2Proof.Machine

section Events

variable {s : State}

/-- An admission report, as MOV takes it. -/
def Instr.isAdmissionReport (e : Instr) : Bool :=
  match e with
  | .admissionReport _ => true
  | _ => false

/-- The report of DDR that an event of ADM carries. -/
def Instr.driveReport (c : Instr) : Option DriveReport :=
  match c with
  | .damperStateReport r => some r
  | _ => none

/-- The code of the route of a purge, 0 for none. -/
def Adm.routeCode (a : Adm) : Nat :=
  match (a.purge.map fun p => p.route : Option Route) with
  | some .fresh => 1
  | some .scrubbed => 2
  | some .recirc => 3
  | none => 0

/-- LNK after an event of ADM: the two requests are answered. -/
def State.admAnswer (s : State) (c : Instr) : Link :=
  match c with
  | .setDirective _ => { s.link with busy := true, reply := some ⟨0xA0#8, [0#8]⟩ }
  | .setAdmission limitFraction pressFraction sealHold scrubHold limitHold purgeTime breachMin =>
    let sent := admissionSent limitFraction pressFraction sealHold scrubHold limitHold purgeTime breachMin
    { s.link with busy := true, reply := some ⟨0xA1#8, [if sent.ranged = sent then 0#8 else 1#8]⟩ }
  | _ => s.link

/-- What an event of ADM in RUN brings to the stages: the state with its input recorded, and the cause. -/
structure State.AdmTakes (s : State) (c : Instr) (i : Adm × Level × Level × Level) (s0 : State)
    (cause : AdmCause) : Prop where
  runs : exec c s = .next { s0.admStages cause s.adm with link := s.admAnswer c }
  shape : s0 = { s with adm := i.1, atn := s0.atn, handed := s0.handed }
  reports : s0.handed.countP Instr.isAdmissionReport = s.handed.countP Instr.isAdmissionReport
  sources : ∀ j : SourceIx, s0.atn.sources[j] =
    if c = .purgeTimerExpiry ∧ asPurgeDone = j then s.atn.sources[j].raise s.adm.routeCode else s.atn.sources[j]
  kept : i.1.ordered = s.adm.ordered ∧ i.1.check = s.adm.check ∧ i.1.sealImpaired = s.adm.sealImpaired
  entry : cause.entry = false
  immediate : cause.immediate = true ↔ c = .sealReqChange false ∧ i.1.directive = .vent ∨ c = .setDirective 2#8
  sealOn : cause.sealAsserted = true ↔ c = .sealReqChange true
  purgeEnds : cause.purgeEnds = true ↔ c = .purgeTimerExpiry
  drive : cause.drive = Instr.driveReport c
  coi : s0.levelAt cause 0 = i.2.1
  pmi : s0.levelAt cause 1 = i.2.2.1
  coc : s0.levelAt cause 2 = i.2.2.2

theorem State.admStages_link (s : State) (c : AdmCause) (before : Adm) : (s.admStages c before).link = s.link := by
  obtain ⟨news, atn, -, same, -⟩ := s.admStages_eq c before
  rw [same]

theorem State.withLink_self {t : State} {link : Link} (same : t.link = link) : ({ t with link := link } : State) = t := by
  rw [← same]

/-- A command other than an admission report is no report that MOV takes. -/
theorem countP_erase_of_false {α : Type} [DecidableEq α] {p : α → Bool} {c : α} (none : p c = false) (l : List α) :
    (l.erase c).countP p = l.countP p := by
  rw [List.countP_erase]
  simp [none]

/-- An event that ADM takes in RUN. -/
theorem State.take_admEvent (run : s.part.state = .run) (c : Instr) (f : State → State) :
    (s.take c fun s => s.admEvent f) = .next (f (s.strike c)) := by
  rw [State.take_next _ _ _ (by rw [run]; decide)]
  exact congrArg Host.Outcome.next (if_pos (s.inRun_iff.mpr run))

theorem State.own_admEvent (run : s.part.state = .run) (f : State → State) :
    (s.own fun s => s.admEvent f) = .next (f s) := by
  rw [State.own_next _ _ (by rw [run]; decide)]
  exact congrArg Host.Outcome.next (if_pos (s.inRun_iff.mpr run))

/-- What an event that answers nothing leaves of LNK. -/
theorem State.admStages_answered {s0 : State} {cause : AdmCause} {before : Adm} {c : Instr} (same : s0.link = s.admAnswer c) :
    s0.admStages cause before = { s0.admStages cause before with link := s.admAnswer c } :=
  (State.withLink_self ((s0.admStages_link cause before).trans same)).symm

/-- An event that records its input and ends no purge. -/
theorem State.AdmTakes.recorded {c : Instr} {a : Adm} {cause : AdmCause} {coi pmi coc : Level} {handed : List Instr}
    (runs : exec c s = .next
      { ({ s with handed := handed, adm := a } : State).admStages cause s.adm with link := s.admAnswer c })
    (reports : handed.countP Instr.isAdmissionReport = s.handed.countP Instr.isAdmissionReport)
    (noPurge : c ≠ .purgeTimerExpiry)
    (kept : a.ordered = s.adm.ordered ∧ a.check = s.adm.check ∧ a.sealImpaired = s.adm.sealImpaired)
    (entry : cause.entry = false)
    (immediate : cause.immediate = true ↔ c = .sealReqChange false ∧ a.directive = .vent ∨ c = .setDirective 2#8)
    (sealOn : cause.sealAsserted = true ↔ c = .sealReqChange true) (purgeEnds : cause.purgeEnds = false)
    (drive : cause.drive = Instr.driveReport c)
    (levels : s.levelAt cause 0 = coi ∧ s.levelAt cause 1 = pmi ∧ s.levelAt cause 2 = coc) :
    s.AdmTakes c (a, coi, pmi, coc) { s with handed := handed, adm := a } cause where
  runs := runs
  shape := rfl
  reports := reports
  sources j := (if_neg fun h => noPurge h.1).symm
  kept := kept
  entry := entry
  immediate := immediate
  sealOn := sealOn
  purgeEnds := ⟨fun h => by simp [purgeEnds] at h, fun h => absurd h noPurge⟩
  drive := drive
  coi := levels.1
  pmi := levels.2.1
  coc := levels.2.2

theorem AdmSettings.clamp_eq (c : AdmSettings) : c.clamp = c.ranged := by
  simp only [AdmSettings.clamp, AdmSettings.ranged, clampNat, Nat.zero_max]

theorem Directive.known_cases {code : Byte} (known : code.toNat ≤ 2) : code = 0#8 ∨ code = 1#8 ∨ code = 2#8 := by
  have values : code.toNat = 0 ∨ code.toNat = 1 ∨ code.toNat = 2 := by omega
  exact values.imp BitVec.eq_of_toNat_eq (Or.imp BitVec.eq_of_toNat_eq BitVec.eq_of_toNat_eq)

theorem Directive.ofCode_eq {code : Byte} (known : code.toNat ≤ 2) :
    Directive.ofCode code = some (if code = 0#8 then .auto else if code = 1#8 then .seal else .vent) := by
  rcases Directive.known_cases known with rfl | rfl | rfl <;> rfl

theorem State.levelAt_none (s : State) {cause : AdmCause} (none : cause.level = none) :
    s.levelAt cause 0 = s.asr[0].level ∧ s.levelAt cause 1 = s.asr[1].level ∧ s.levelAt cause 2 = s.asr[2].level := by
  simp only [State.levelAt, none]
  exact ⟨rfl, rfl, rfl⟩

section Running

variable (run : s.part.state = .run) {i : Adm × Level × Level × Level}
include run

/-- R50: the hold timer's expiry. -/
theorem exec_admTakes_hold (input : i ∈ s.admissionInput .admHoldTimerExpiry) :
    ∃ s0 cause, s.AdmTakes .admHoldTimerExpiry i s0 cause := by
  by_cases runs : s.adm.hold.isSome = true
  · have brings : s.admissionInput .admHoldTimerExpiry = _ := if_pos runs
    rw [brings] at input
    obtain ⟨due, hold⟩ := Option.isSome_iff_exists.mp runs
    have taken : exec .admHoldTimerExpiry s =
        .next (({ s with adm := { s.adm with accepted := s.adm.accepted.stepDown, hold := none } } : State).admStages {} s.adm) := by
      refine (State.own_admEvent run _).trans ?_
      rw [hold]
    cases input
    refine ⟨_, {}, .recorded (handed := s.handed) (taken.trans (congrArg _ ?_))
      rfl nofun ⟨rfl, rfl, rfl⟩ rfl (by simp) (by simp) rfl rfl (s.levelAt_none rfl)⟩
    have down : s.adm.accepted.stepDown = (match s.adm.accepted with
      | .seal => .scrub | .scrub => .limit | .limit => .opened | .opened => .opened | .inactive => .inactive) := by
      cases s.adm.accepted <;> rfl
    rw [down]
    exact State.admStages_answered rfl
  · have brings : s.admissionInput .admHoldTimerExpiry = none := if_neg runs
    rw [brings] at input
    cases input

/-- R60: the purge timer's expiry. -/
theorem exec_admTakes_purge (input : i ∈ s.admissionInput .purgeTimerExpiry) :
    ∃ s0 cause, s.AdmTakes .purgeTimerExpiry i s0 cause := by
  have brings : s.admissionInput .purgeTimerExpiry =
      match s.adm.purge with
      | some ⟨.running _, _⟩ => some ({ s.adm with purge := none }, s.asr[0].level, s.asr[1].level, s.asr[2].level)
      | _ => none := rfl
  rw [brings] at input
  cases purge : s.adm.purge with
  | none =>
    rw [purge] at input
    cases input
  | some p =>
    obtain ⟨clock, route⟩ := p
    cases clock with
    | frozen r =>
      rw [purge] at input
      cases input
    | running due =>
      rw [purge] at input
      have taken : exec .purgeTimerExpiry s =
          .next ((({ s with adm := { s.adm with purge := none } } : State).raise asPurgeDone route.code).admStages
            { purgeEnds := true } s.adm) := by
        refine (State.own_admEvent run _).trans ?_
        rw [purge]
      have code : route.code = s.adm.routeCode := by
        rw [Adm.routeCode, purge]
        cases route <;> rfl
      have sources (j : SourceIx) : (s.atn.raise asPurgeDone route.code).sources[j] =
          if Instr.purgeTimerExpiry = .purgeTimerExpiry ∧ asPurgeDone = j then s.atn.sources[j].raise s.adm.routeCode
          else s.atn.sources[j] := by
        rw [Atn.raise_source, code]
        exact if_congr (by simp) rfl rfl
      cases input
      obtain ⟨coi, pmi, coc⟩ := s.levelAt_none (cause := { purgeEnds := true }) rfl
      exact ⟨_, { purgeEnds := true }, taken.trans (congrArg _ (State.admStages_answered rfl)), rfl, rfl, sources,
        ⟨rfl, rfl, rfl⟩, rfl, by simp, by simp, by simp, rfl, coi, pmi, coc⟩

/-- R68: a directive that is another. -/
theorem exec_admTakes_directive {code : Byte} (input : i ∈ s.admissionInput (.setDirective code)) :
    ∃ s0 cause, s.AdmTakes (.setDirective code) i s0 cause := by
  let d : Directive := if code = 0#8 then .auto else if code = 1#8 then .seal else .vent
  have brings : s.admissionInput (.setDirective code) =
      if code.toNat ≤ 2 ∧ d ≠ s.adm.directive then
        some ({ s.adm with directive := d }, s.asr[0].level, s.asr[1].level, s.asr[2].level)
      else none := rfl
  rw [brings] at input
  by_cases accepted : code.toNat ≤ 2 ∧ d ≠ s.adm.directive
  · rw [if_pos accepted] at input
    obtain ⟨known, other⟩ := accepted
    have vent : d = .vent ↔ code = 2#8 := by
      rcases Directive.known_cases known with rfl | rfl | rfl <;> simp [d]
    have taken : exec (.setDirective code) s = .next ((State.admStages { s.strike (.setDirective code) with
        adm := { s.adm with directive := d } } { immediate := decide (d = .vent) } s.adm).acknowledged 0xA0#8 0#8) := by
      show execSetDirective code s = _
      rw [execSetDirective, State.take_next _ _ _ (by rw [run]; decide), if_pos (by exact s.inRun_iff.mpr run),
        Directive.ofCode_eq known]
      refine congrArg Host.Outcome.next ((if_neg (by exact other)).trans ?_)
      rw [State.status_eq]
      rfl
    have link := State.admStages_link ({ s.strike (.setDirective code) with adm := { s.adm with directive := d } } : State)
      { immediate := decide (d = .vent) } s.adm
    rw [State.acknowledged, link] at taken
    cases input
    exact ⟨_, { immediate := decide (d = .vent) }, .recorded taken (countP_erase_of_false rfl _)
      nofun ⟨rfl, rfl, rfl⟩ rfl (by simp [vent]) (by simp) rfl rfl (s.levelAt_none rfl)⟩
  · rw [if_neg accepted] at input
    cases input

/-- R69: the settings replaced in RUN. -/
theorem exec_admTakes_admission {b0 b1 b6 : Byte} {h2 h3 h4 h5 : Half}
    (input : i ∈ s.admissionInput (.setAdmission b0 b1 h2 h3 h4 h5 b6)) :
    ∃ s0 cause, s.AdmTakes (.setAdmission b0 b1 h2 h3 h4 h5 b6) i s0 cause := by
  let cmd : Instr := .setAdmission b0 b1 h2 h3 h4 h5 b6
  let sent := admissionSent b0 b1 h2 h3 h4 h5 b6
  let v : State := { s.strike cmd with adm := { s.adm with settings := sent.ranged } }
  have taken : exec cmd s =
      .next ((v.admStages {} s.adm).acknowledged 0xA1#8 (if sent.ranged = sent then 0#8 else 1#8)) := by
    show execSetAdmission b0 b1 h2 h3 h4 h5 b6 s = _
    rw [execSetAdmission, State.take_next _ _ _ (by rw [run]; decide)]
    refine congrArg Host.Outcome.next ?_
    dsimp only
    rw [if_pos (by exact s.inRun_iff.mpr run), State.status_eq, clampStatus_code_ne, AdmSettings.clamp_eq]
    rfl
  have link : (v.admStages {} s.adm).link = s.link := v.admStages_link {} s.adm
  rw [State.acknowledged, link] at taken
  cases input
  exact ⟨v, {}, .recorded taken (countP_erase_of_false rfl _)
    nofun ⟨rfl, rfl, rfl⟩ rfl (by simp) (by simp) rfl rfl (s.levelAt_none rfl)⟩

/-- R44: the inputs, the reports and the two requests: every event of ADM in RUN runs the stages. -/
theorem exec_admTakes (c : Instr) (input : i ∈ s.admissionInput c) : ∃ s0 cause, s.AdmTakes c i s0 cause := by
  have struck (quiet : Instr.isAdmissionReport c = false) := countP_erase_of_false quiet s.handed
  cases c with
  | admLevelReport a l =>
    cases input
    have taken : exec (.admLevelReport a l) s = _ := State.take_admEvent run _ _
    have level (b : AssessorIx) : s.levelAt { level := some (a, l) } b = if a = b then l else s.asr[b].level :=
      if_congr eq_comm rfl rfl
    exact ⟨_, { level := some (a, l) }, .recorded (taken.trans (congrArg _ (State.admStages_answered rfl)))
      (struck rfl) nofun ⟨rfl, rfl, rfl⟩ rfl (by simp) (by simp) rfl rfl ⟨level 0, level 1, level 2⟩⟩
  | oatReport st v =>
    cases input
    have taken : exec (.oatReport st v) s = _ := State.take_admEvent run _ _
    exact ⟨_, {}, .recorded (taken.trans (congrArg _ (State.admStages_answered rfl)))
      (struck rfl) nofun ⟨rfl, rfl, rfl⟩ rfl (by simp) (by simp) rfl rfl (s.levelAt_none rfl)⟩
  | sealReqChange b =>
    cases input
    have taken : exec (.sealReqChange b) s = .next ((s.strike (.sealReqChange b)).sealEffect b) := by
      show execSealReqChange b s = _
      exact State.take_next _ _ _ (by rw [run]; decide)
    have effect : (s.strike (.sealReqChange b)).sealEffect b = _ := if_pos (s.inRun_iff.mpr run)
    exact ⟨_, { sealAsserted := b, immediate := !b && decide (s.adm.directive = Directive.vent) },
      .recorded (taken.trans (congrArg _ (effect.trans (State.admStages_answered rfl))))
        (struck rfl) nofun ⟨rfl, rfl, rfl⟩ rfl (by simp) (by simp) rfl rfl (s.levelAt_none rfl)⟩
  | doorChange d b =>
    cases input
    have taken : exec (.doorChange d b) s = _ := State.take_admEvent run _ _
    exact ⟨_, {}, .recorded (taken.trans (congrArg _ (State.admStages_answered rfl)))
      (struck rfl) nofun ⟨rfl, rfl, rfl⟩ rfl (by simp) (by simp) rfl rfl (s.levelAt_none rfl)⟩
  | zonOutputChange z =>
    have taken : exec (.zonOutputChange z) s = _ := State.take_admEvent run _ _
    cases z <;> cases input <;>
      exact ⟨_, {}, .recorded (taken.trans (congrArg _ (State.admStages_answered rfl)))
        (struck rfl) nofun ⟨rfl, rfl, rfl⟩ rfl (by simp) (by simp) rfl rfl (s.levelAt_none rfl)⟩
  | damperStateReport r =>
    cases input
    have taken : exec (.damperStateReport r) s = _ := State.take_admEvent run _ _
    exact ⟨_, { drive := some r }, .recorded (taken.trans (congrArg _ (State.admStages_answered rfl)))
      (struck rfl) nofun ⟨rfl, rfl, rfl⟩ rfl (by simp) (by simp) rfl rfl (s.levelAt_none rfl)⟩
  | admHoldTimerExpiry => exact exec_admTakes_hold run input
  | purgeTimerExpiry => exact exec_admTakes_purge run input
  | setDirective code => exact exec_admTakes_directive run input
  | setAdmission b0 b1 h2 h3 h4 h5 b6 => exact exec_admTakes_admission run input
  | _ => cases input

end Running

end Events

end Sys2Proof.Machine

/-! ### One event of ADM in RUN, clause by clause -/

namespace Sys2Proof.Machine

theorem State.admJudged_eq (s : State) (c : AdmCause) (before : Adm) :
    s.admJudged c before =
      { s.admAccepted c with
        breach :=
          if (s.admAccepted c).doorOpen = true ∧ (s.admAccepted c).accepted.guarded = true then
            some ((s.admAccepted c).breach.getD s.now)
          else none
        purge :=
          if (s.admDecide c before).2 = true then
            some ⟨(s.admAccepted c).startClock s.now, (s.admAccepted c).accepted.routeBy⟩
          else (s.admAccepted c).purgeGoesOn s.now
        cabCo := decide ((s.admAccepted c).cab = .high)
        breathing := decide ((s.admAccepted c).accepted = .seal) && (s.admAccepted c).breathingFlag
        sealImpaired :=
          if c.judgesImpaired then (s.driveView c.drive).freshJammed || (s.driveView c.drive).freshStranded
          else (s.admAccepted c).sealImpaired } := by
  unfold State.admJudged
  rw [(s.admDecide_eq c before).1]
  rfl

theorem Adm.demandBy_eq (a : Adm) : demandedOf a.sealLine a.directive a.intake = a.demandBy := by
  unfold demandedOf Adm.demandBy
  cases a.intake <;> rfl

namespace State.AdmTakes

variable {s s0 : State} {c : Instr} {i : Adm × Level × Level × Level} {cause : AdmCause} (takes : s.AdmTakes c i s0 cause)

include takes

theorem adm : s0.adm = i.1 := by rw [takes.shape]
theorem now : s0.now = s.now := by rw [takes.shape]
theorem asr : s0.asr = s.asr := by rw [takes.shape]
theorem ddr : s0.ddr = s.ddr := by rw [takes.shape]
theorem work : s0.work = s.work := by rw [takes.shape]; rfl

theorem accepted_eq : s0.admAccepted cause = (i.1.form i.2.1 i.2.2.1 i.2.2.2).accept s.now cause.immediate := by
  rw [State.admAccepted, takes.coi, takes.pmi, takes.coc, takes.adm, takes.now]

/-- R45 to R50: the record but for the state and its hold, which the acceptance gives. -/
theorem accepted_shape : ∃ state hold, s0.admAccepted cause =
    { i.1.form i.2.1 i.2.2.1 i.2.2.2 with accepted := state, hold := hold } := by
  rw [takes.accepted_eq]
  exact Adm.accept_shape _ _ _

theorem record :
    let j := s0.admJudged cause s.adm
    (j.settings = i.1.settings ∧ j.directive = i.1.directive ∧ j.sealLine = i.1.sealLine ∧ j.doors = i.1.doors ∧
      j.fresh = i.1.fresh ∧ j.breathingFlag = i.1.breathingFlag ∧ j.minFresh = i.1.minFresh ∧ j.cab = i.2.2.2 ∧
      j.intake = intakeBy i.2.1 i.2.2.1 ∧ j.demanded = j.demandBy) ∧
    j.cabCo = decide (i.2.2.2 = .high) ∧ j.breathing = (decide (j.accepted = .seal) && i.1.breathingFlag) := by
  intro j
  obtain ⟨state, hold, shape⟩ := takes.accepted_shape
  have is : j = _ := s0.admJudged_eq cause s.adm
  rw [shape] at is
  have formed : j.demanded = demandedOf j.sealLine j.directive j.intake := by
    rw [is]
    rfl
  have demanded := formed.trans j.demandBy_eq
  refine ⟨⟨?_, ?_, ?_, ?_, ?_, ?_, ?_, ?_, ?_, demanded⟩, ?_, ?_⟩ <;> rw [is] <;> rfl

/-- R48 to R50: the acceptance. -/
theorem acceptance :
    let j := s0.admJudged cause s.adm
    (i.1.accepted.code < j.demanded.code → j.accepted = j.demanded ∧ j.hold = none) ∧
    (j.demanded = i.1.accepted → j.accepted = i.1.accepted ∧ j.hold = none) ∧
    (j.demanded.code < i.1.accepted.code → cause.immediate = true → j.accepted = j.demanded ∧ j.hold = none) ∧
    (j.demanded.code < i.1.accepted.code → cause.immediate = false →
      j.accepted = i.1.accepted ∧
      j.hold = some (i.1.hold.getD (s.now + 1000000 * i.1.settings.holdBy i.1.accepted))) := by
  intro j
  obtain ⟨state, hold, shape⟩ := takes.accepted_shape
  have is : j = _ := s0.admJudged_eq cause s.adm
  have demanded : j.demanded = (i.1.form i.2.1 i.2.2.1 i.2.2.2).demanded := by
    rw [is, shape]
  have accepted : j.accepted = (s0.admAccepted cause).accepted := by rw [is]
  have held : j.hold = (s0.admAccepted cause).hold := by rw [is]
  obtain ⟨up, level, now, later⟩ := (i.1.form i.2.1 i.2.2.1 i.2.2.2).accept_cases s.now cause.immediate
  rw [← takes.accepted_eq] at up level now later
  rw [accepted, held, demanded]
  refine ⟨fun h => ?_, fun h => ?_, fun h b => ?_, fun h b => ?_⟩
  · rw [up h]
    exact ⟨rfl, rfl⟩
  · rw [level h]
    exact ⟨rfl, rfl⟩
  · rw [now h b]
    exact ⟨rfl, rfl⟩
  · rw [later h b]
    exact ⟨rfl, rfl⟩

/-- R56, R57: what starts a purge. -/
theorem started_iff :
    (s0.admDecide cause s.adm).2 = true ↔
      i.2.2.2 = .high ∧ s.adm.cab ≠ .high ∨
      ∃ since ∈ i.1.breach, (∀ d : DoorIx, i.1.doors[d] = false) ∧
        ((s0.admJudged cause s.adm).accepted = .scrub ∨ (s0.admJudged cause s.adm).accepted = .seal) ∧
        1000000 * i.1.settings.breachMin ≤ s.now - since := by
  obtain ⟨state, hold, shape⟩ := takes.accepted_shape
  have accepted : (s0.admJudged cause s.adm).accepted = (s0.admAccepted cause).accepted := by rw [State.admJudged_eq]
  rw [(s0.admDecide_eq cause s.adm).2, accepted, shape, takes.now, takes.entry]
  simp only [Bool.false_eq_true, false_or]
  exact or_comm

/-- R55, R57 to R59: the breach and the purge. -/
theorem breach_purge :
    let j := s0.admJudged cause s.adm
    let fresh : PurgeClock :=
      if i.2.2.2 = .high then .frozen (1000000 * i.1.settings.purgeTime)
      else .running (s.now + 1000000 * i.1.settings.purgeTime)
    j.breach =
        (if (∃ d : DoorIx, i.1.doors[d] = true) ∧ (j.accepted = .limit ∨ j.accepted = .scrub ∨ j.accepted = .seal) then
          some (i.1.breach.getD s.now)
        else none) ∧
      j.purge =
        if (s0.admDecide cause s.adm).2 = true then some ⟨fresh, j.accepted.routeBy⟩
        else i.1.purge.map fun p =>
          ⟨match p.clock with
            | .frozen r => if i.2.2.2 = .high then .frozen r else fresh
            | .running due => .running due, j.accepted.routeBy⟩ := by
  intro j fresh
  obtain ⟨state, hold, shape⟩ := takes.accepted_shape
  have is : j = _ := s0.admJudged_eq cause s.adm
  rw [shape, takes.now] at is
  rw [is]
  refine ⟨?_, ?_⟩
  · exact if_congr (and_congr (Adm.doorOpen_iff _) (AdmState.guarded_iff _)) rfl rfl
  · rfl

/-- R63: SEAL_IMPAIRED, judged or as it stood. -/
theorem impaired :
    (s0.admJudged cause s.adm).sealImpaired =
      if cause.judgesImpaired then (s.driveView cause.drive).freshJammed || (s.driveView cause.drive).freshStranded
      else s.adm.sealImpaired := by
  obtain ⟨state, hold, shape⟩ := takes.accepted_shape
  have view : s0.driveView cause.drive = s.driveView cause.drive := by rw [takes.shape]; rfl
  rw [State.admJudged_eq, shape, view, ← takes.kept.2.2]
  rfl

end State.AdmTakes

end Sys2Proof.Machine

/-! ### One event of ADM in RUN: its orders, its settled check and what it raises -/

namespace Sys2Proof.Machine

/-- R54: the orders of an event, by the ordered targets before and after it. -/
theorem State.admOrders_eq (s : State) (old : Vector (Option Nat) 3) (new : Vector Nat 3) (k : OrderClass) :
    s.admOrders old new k =
      ([(0 : Fin 3), 1, 2].filter fun i => decide (old[i] ≠ (tableMap some new)[i])).foldl
        (fun v i => v.order (i.castLE (by decide)) ((tableMap some new)[i].getD 0) k .adm) s := by
  have each (i : Fin 3) : (tableMap some new)[i] = some new[i] := by simp [tableMap]
  simp only [each, Option.getD_some]
  rfl

/-- A check that stands, at its own source and at any other. -/
theorem Source.raiseAll_settled (r : Source) (j : SourceIx) (check : Option AdmState) (ends : Bool) :
    r.raiseAll j (settledRaises check ends) =
      if asSettled = j then
        match check with
        | none => r
        | some st => if ends then r.raise st.code else r
      else r := by
  cases check with
  | none => exact (ite_self r).symm
  | some st =>
    refine (Source.raiseAll_if r j asSettled st.code (ends = true)).trans ?_
    by_cases here : asSettled = j
    · rw [if_pos here]
      exact if_congr (and_iff_left here) rfl rfl
    · rw [if_neg here, if_neg fun h => here h.2]

/-- What an event raises, source by source. -/
theorem State.admRaised_source (s : State) (c : AdmCause) (before : Adm) (j : SourceIx) (r : Source) :
    r.raiseAll j (s.admRaised c before) =
      let a := s.admJudged c before
      let r := if c.changes before a = true ∧ asAdmission = j then r.raise a.accepted.code else r
      let r := if (a.cabCo && !before.cabCo) = true ∧ asCabCo = j then r.raise (min s.asr[2].f 65535) else r
      let r := if (a.breathing && !before.breathing) = true ∧ asBreathing = j then r.raise 0 else r
      let r := if (a.sealImpaired && !before.sealImpaired) = true ∧ asSealImpaired = j then
        r.raise (if (s.driveView c.drive).freshJammed then 1 else 2) else r
      if asSettled = j then
        match (s.admSent c before).check with
        | none => r
        | some st => if s.admArrived c before then r.raise st.code else r
      else r := by
  unfold State.admRaised admRaises
  rw [Source.raiseAll_append, Source.raiseAll_append, Source.raiseAll_append, Source.raiseAll_append, Source.raiseAll_if,
    Source.raiseAll_if, Source.raiseAll_if, Source.raiseAll_if, Source.raiseAll_settled]

/-- An event that carries a report of a damper. -/
def Instr.reportsDamper (c : Instr) : Bool :=
  match c with
  | .damperStateReport (.damper _ _ _) => true
  | _ => false

/-! The report of the drive that a command carries, read in the command itself (assumption 27). -/

theorem Instr.driveReport_judged (c : Instr) :
    (match c with
      | .damperStateReport (.damper d _ _) => decide (d = 0)
      | .damperStateReport (.lane _ _) => true
      | _ => false) =
      (false || match Instr.driveReport c with
        | some (.damper d _ _) => decide (d = 0)
        | some (.lane _ _) => true
        | none => false) := by
  cases c with
  | damperStateReport r => cases r <;> rfl
  | _ => rfl

theorem Instr.driveReport_damper (c : Instr) :
    (match Instr.driveReport c with
      | some (.damper _ _ _) => true
      | some (.lane _ _) => false
      | none => false) = Instr.reportsDamper c := by
  cases c with
  | damperStateReport r => cases r <;> rfl
  | _ => rfl

theorem State.doorSeen_driveReport (s : State) (c : Instr) :
    (match c with
      | .damperStateReport (.damper d st _) => if d = 0 then st else s.ddr.dampers[0].state
      | _ => s.ddr.dampers[0].state) = s.doorSeen (Instr.driveReport c) := by
  cases c with
  | damperStateReport r => cases r <;> rfl
  | _ => rfl

theorem State.laneSeen_driveReport (s : State) (c : Instr) (l : LaneIx) :
    (match c with
      | .damperStateReport (.lane k st) => if k = l then st else s.ddr.lanes[l].state
      | _ => s.ddr.lanes[l].state) = s.laneSeen (Instr.driveReport c) l := by
  cases c with
  | damperStateReport r => cases r <;> rfl
  | _ => rfl

namespace State.AdmTakes

variable {s s0 : State} {c : Instr} {i : Adm × Level × Level × Level} {cause : AdmCause} (takes : s.AdmTakes c i s0 cause)

include takes

theorem framed (adm : Adm) (atn : Atn) (ddr : Ddr) (free : Nat) (handed : List Instr) (link : Link) :
    ({ s0 with adm := adm, atn := atn, ddr := ddr, free := free, handed := handed, link := link } : State) =
      { s with adm := adm, atn := atn, ddr := ddr, free := free, handed := handed, link := link } := by
  rw [takes.shape]

theorem changes_iff : cause.changes s.adm (s0.admJudged cause s.adm) = true ↔
    (s0.admJudged cause s.adm).accepted ≠ s.adm.accepted := by
  rw [AdmCause.changes, takes.entry, Bool.false_or, decide_eq_true_eq]

/-- R54: the class of an event's orders. -/
theorem orderClass_eq :
    cause.orderClass s.adm (s0.admJudged cause s.adm) (s0.admDecide cause s.adm).2 =
      if s.adm.accepted.code < (s0.admJudged cause s.adm).accepted.code ∨ (s0.admDecide cause s.adm).2 = true ∨
        c = .sealReqChange true then .safety else .normal := by
  unfold AdmCause.orderClass
  refine if_congr ?_ rfl rfl
  rw [takes.entry, Bool.false_or, Bool.or_eq_true, Bool.or_eq_true, takes.sealOn, AdmState.above, decide_eq_true_eq, or_comm,
    or_comm (a := c = _)]

/-- R54: what the orders of the event make of DDR. -/
theorem moved (u : State)
    (is : u = ([(0 : Fin 3), 1, 2].filter fun n =>
        decide (s.adm.ordered[n] ≠ (tableMap some (s0.admJudged cause s.adm).targets)[n])).foldl
      (fun v n => v.order (n.castLE (by decide)) ((tableMap some (s0.admJudged cause s.adm).targets)[n].getD 0)
        (cause.orderClass s.adm (s0.admJudged cause s.adm) (s0.admDecide cause s.adm).2) .adm) s) :
    (s0.admMoved cause s.adm).ddr = u.ddr ∧ (s0.admMoved cause s.adm).free = u.free := by
  have same := State.admOrders_congr takes.work s.adm.ordered (s0.admJudged cause s.adm).targets
    (cause.orderClass s.adm (s0.admJudged cause s.adm) (s0.admDecide cause s.adm).2)
  have old : s0.adm.ordered = s.adm.ordered := by rw [takes.adm, takes.kept.1]
  rw [State.admMoved, old, is]
  rw [s.admOrders_eq] at same
  exact same

/-- R64: the check that the event starts, or that stands. -/
theorem sent_check :
    (s0.admSent cause s.adm).check =
      if (s0.admJudged cause s.adm).accepted = s.adm.accepted then s.adm.check
      else some (s0.admJudged cause s.adm).accepted := by
  show (if cause.changes s.adm _ = true then _ else s0.adm.check) = _
  rw [takes.adm, takes.kept.2.1]
  by_cases same : (s0.admJudged cause s.adm).accepted = s.adm.accepted
  · rw [if_pos same, if_neg fun h => takes.changes_iff.mp h same]
  · rw [if_neg same, if_pos (takes.changes_iff.mpr same)]

/-- R64: where the settled check ends. -/
theorem arrived_iff (t : State) (adm : t.adm.ordered = tableMap some (s0.admJudged cause s.adm).targets)
    (ddr : t.ddr = (s0.admMoved cause s.adm).ddr) :
    s0.admArrived cause s.adm = true ↔
      ((s0.admJudged cause s.adm).accepted ≠ s.adm.accepted ∨ Instr.reportsDamper c = true) ∧ t.standsAtTargets = true := by
  have judges : cause.judgesSettled s.adm (s0.admJudged cause s.adm) = true ↔
      (s0.admJudged cause s.adm).accepted ≠ s.adm.accepted ∨ Instr.reportsDamper c = true := by
    rw [AdmCause.judgesSettled, Bool.or_eq_true, takes.changes_iff, takes.drive]
    exact or_congr_right (Bool.eq_iff_iff.mp (Instr.driveReport_damper c))
  have stands : ({ s0 with adm := s0.admSent cause s.adm, ddr := (s0.admMoved cause s.adm).ddr } : State).atTargets =
      t.standsAtTargets := by
    rw [State.atTargets_eq]
    unfold State.standsAtTargets
    rw [adm, ddr]
    rfl
  rw [State.admArrived, stands, Bool.and_eq_true, judges]

/-- R59, R122: what MOV is handed. -/
theorem told_iff :
    s0.admTold cause s.adm =
      if (s0.admJudged cause s.adm).picture ≠ s.adm.picture ∨ (s0.admDecide cause s.adm).2 = true ∨ c = .purgeTimerExpiry then
        [.admissionReport (s0.admJudged cause s.adm).picture]
      else [] := by
  unfold State.admTold
  rw [← ite_not]
  refine if_congr ?_ rfl rfl
  rw [not_and_or, Bool.not_eq_false, Bool.or_eq_true, takes.purgeEnds]

/-! #### The sources, one by one -/

section Sources

variable {atn : Atn} (raised : ∀ n : SourceIx, atn.sources[n] = s0.atn.sources[n].raiseAll n (s0.admRaised cause s.adm))
include raised

theorem source_admission : atn.sources[asAdmission] =
    if (s0.admJudged cause s.adm).accepted = s.adm.accepted then s.atn.sources[asAdmission]
    else s.atn.sources[asAdmission].raise (s0.admJudged cause s.adm).accepted.code := by
  rw [raised, State.admRaised_source, takes.sources]
  simp only [show asPurgeDone ≠ asAdmission by decide, show asCabCo ≠ asAdmission by decide,
    show asBreathing ≠ asAdmission by decide, show asSealImpaired ≠ asAdmission by decide,
    show asSettled ≠ asAdmission by decide, and_false, and_true, if_false, takes.changes_iff, ne_eq, ite_not]

theorem source_cabCo : atn.sources[asCabCo] =
    if i.2.2.2 = .high ∧ s.adm.cabCo = false then s.atn.sources[asCabCo].raise (min 65535 s.asr[2].f)
    else s.atn.sources[asCabCo] := by
  rw [raised, State.admRaised_source, takes.sources]
  simp only [show asPurgeDone ≠ asCabCo by decide, show asAdmission ≠ asCabCo by decide,
    show asBreathing ≠ asCabCo by decide, show asSealImpaired ≠ asCabCo by decide,
    show asSettled ≠ asCabCo by decide, and_false, and_true, if_false, Bool.and_eq_true, decide_eq_true_eq,
    Bool.not_eq_true', takes.record.2.1, takes.asr, min_comm _ 65535]

theorem source_breathing : atn.sources[asBreathing] =
    if (s0.admJudged cause s.adm).breathing = true ∧ s.adm.breathing = false then s.atn.sources[asBreathing].raise 0
    else s.atn.sources[asBreathing] := by
  rw [raised, State.admRaised_source, takes.sources]
  simp only [show asPurgeDone ≠ asBreathing by decide, show asAdmission ≠ asBreathing by decide,
    show asCabCo ≠ asBreathing by decide, show asSealImpaired ≠ asBreathing by decide,
    show asSettled ≠ asBreathing by decide, and_false, and_true, if_false, Bool.and_eq_true, Bool.not_eq_true']

theorem source_sealImpaired : atn.sources[asSealImpaired] =
    if (s0.admJudged cause s.adm).sealImpaired = true ∧ s.adm.sealImpaired = false then
      s.atn.sources[asSealImpaired].raise (if s.doorSeen (Instr.driveReport c) = .jammed then 1 else 2)
    else s.atn.sources[asSealImpaired] := by
  have view : s0.driveView cause.drive = s.driveView (Instr.driveReport c) := by rw [takes.shape, takes.drive]; rfl
  have jammed : (s.driveView (Instr.driveReport c)).freshJammed = true ↔ s.doorSeen (Instr.driveReport c) = .jammed := by
    rw [DriveView.freshJammed, decide_eq_true_eq, (s.driveView_eq _).1]
  rw [raised, State.admRaised_source, takes.sources]
  simp only [show asPurgeDone ≠ asSealImpaired by decide, show asAdmission ≠ asSealImpaired by decide,
    show asCabCo ≠ asSealImpaired by decide, show asBreathing ≠ asSealImpaired by decide,
    show asSettled ≠ asSealImpaired by decide, and_false, and_true, if_false, Bool.and_eq_true, Bool.not_eq_true', view,
    jammed]

theorem source_settled : atn.sources[asSettled] =
    match (s0.admSent cause s.adm).check with
    | none => s.atn.sources[asSettled]
    | some st =>
      if s0.admArrived cause s.adm = true then s.atn.sources[asSettled].raise st.code else s.atn.sources[asSettled] := by
  rw [raised, State.admRaised_source, takes.sources]
  simp only [show asPurgeDone ≠ asSettled by decide, show asAdmission ≠ asSettled by decide,
    show asCabCo ≠ asSettled by decide, show asBreathing ≠ asSettled by decide,
    show asSealImpaired ≠ asSettled by decide, and_false, if_false, if_true]

theorem source_purgeDone : atn.sources[asPurgeDone] =
    if c = .purgeTimerExpiry then s.atn.sources[asPurgeDone].raise s.adm.routeCode
    else s.atn.sources[asPurgeDone] := by
  rw [raised, State.admRaised_source, takes.sources]
  simp only [show asSettled ≠ asPurgeDone by decide, show asAdmission ≠ asPurgeDone by decide,
    show asCabCo ≠ asPurgeDone by decide, show asBreathing ≠ asPurgeDone by decide,
    show asSealImpaired ≠ asPurgeDone by decide, and_false, and_true, if_false]

theorem source_other (n : SourceIx)
    (other : n ∉ [asAdmission, asCabCo, asBreathing, asSealImpaired, asSettled, asPurgeDone]) :
    atn.sources[n] = s.atn.sources[n] := by
  simp only [List.mem_cons, List.not_mem_nil, or_false, not_or, eq_comm (a := n)] at other
  obtain ⟨admission, cabCo, breathing, sealImpaired, settled, purgeDone⟩ := other
  rw [raised, State.admRaised_source, takes.sources]
  simp only [admission, cabCo, breathing, sealImpaired, settled, purgeDone, and_false, if_false]

end Sources

/-- R63: what FRESH and the lanes must show for SEAL_IMPAIRED. -/
theorem sealImpaired_eq :
    (s0.admJudged cause s.adm).sealImpaired =
      if cause.judgesImpaired = true then
        decide (s.doorSeen (Instr.driveReport c) = .jammed ∨ s.doorSeen (Instr.driveReport c) = .waiting ∧
          ∀ l : LaneIx, s.laneSeen (Instr.driveReport c) l ≠ .free ∧ s.laneSeen (Instr.driveReport c) l ≠ .busy)
      else s.adm.sealImpaired := by
  obtain ⟨door, lane⟩ := s.driveView_eq (Instr.driveReport c)
  rw [takes.impaired, takes.drive]
  refine if_congr Iff.rfl ?_ rfl
  rw [Bool.eq_iff_iff, DriveView.impaired_iff, door, funext lane, decide_eq_true_eq, DriveView.Impaired]

/-- R63: SEAL_IMPAIRED and its source, by the report that the event carries. -/
theorem impairment {atn : Atn} (raised : ∀ n : SourceIx, atn.sources[n] = s0.atn.sources[n].raiseAll n (s0.admRaised cause s.adm))
    (judged : Bool) (door : DamperState) (lane : LaneIx → LaneState)
    (judgedIs : judged = match c with
      | .damperStateReport (.damper d _ _) => decide (d = 0)
      | .damperStateReport (.lane _ _) => true
      | _ => false)
    (doorIs : door = match c with
      | .damperStateReport (.damper d st _) => if d = 0 then st else s.ddr.dampers[0].state
      | _ => s.ddr.dampers[0].state)
    (laneIs : ∀ l, lane l = match c with
      | .damperStateReport (.lane k st) => if k = l then st else s.ddr.lanes[l].state
      | _ => s.ddr.lanes[l].state) :
    (s0.admJudged cause s.adm).sealImpaired =
        (if judged then decide (door = .jammed ∨ door = .waiting ∧ ∀ l : LaneIx, lane l ≠ .free ∧ lane l ≠ .busy)
        else s.adm.sealImpaired) ∧
      atn.sources[asSealImpaired] =
        if (s0.admJudged cause s.adm).sealImpaired = true ∧ s.adm.sealImpaired = false then
          s.atn.sources[asSealImpaired].raise (if door = .jammed then 1 else 2)
        else s.atn.sources[asSealImpaired] := by
  have judges : judged = cause.judgesImpaired := by
    rw [AdmCause.judgesImpaired, takes.entry, takes.drive, judgedIs]
    exact Instr.driveReport_judged c
  rw [judges, doorIs.trans (s.doorSeen_driveReport c), funext fun l => (laneIs l).trans (s.laneSeen_driveReport c l)]
  exact ⟨takes.sealImpaired_eq, takes.source_sealImpaired raised⟩

end State.AdmTakes

end Sys2Proof.Machine

/-! ### O39: one event of ADM in RUN -/

namespace Sys2Proof
open Sys2Proof.Machine

/-- Settles O39: each event brings its input and its cause to the stages (`exec_admTakes`), whose record, orders and raises
are read off clause by clause. -/
theorem admissionEvents : Obligations.AdmissionEvents := by
  intro c s run _ i input a coi pmi coc atOnce
  obtain ⟨s0, cause, takes⟩ := exec_admTakes run c input
  obtain ⟨news, atn, reports, staged, sources, fault⟩ := s0.admStages_eq cause s.adm
  have runs : exec c s = .next { s with
      adm := { s0.admJudged cause s.adm with
        ordered := tableMap some (s0.admJudged cause s.adm).targets
        check := if s0.admArrived cause s.adm then none else (s0.admSent cause s.adm).check }
      atn := atn, ddr := (s0.admMoved cause s.adm).ddr, free := (s0.admMoved cause s.adm).free
      handed := s0.handed ++ news ++ s0.admTold cause s.adm, link := s.admAnswer c } := by
    rw [takes.runs, staged]
    exact congrArg Host.Outcome.next (takes.framed _ _ _ _ _ _)
  have record := takes.record
  have acceptance := takes.acceptance
  have clocks := takes.breach_purge
  have started := takes.started_iff
  have orderClass := takes.orderClass_eq
  have moved := takes.moved
  have checked := takes.sent_check
  have arrived := takes.arrived_iff
  have toldIs := takes.told_iff
  have impairment := takes.impairment sources
  have admission := takes.source_admission sources
  have breathingSource := takes.source_breathing sources
  have settledSource := takes.source_settled sources
  generalize s0.admJudged cause s.adm = j, (s0.admDecide cause s.adm).2 = starts, s0.admArrived cause s.adm = ends,
    s0.admMoved cause s.adm = w, s0.admTold cause s.adm = told, (s0.admSent cause s.adm).check = pending at *
  generalize cause.orderClass s.adm j starts = cls at *
  obtain ⟨⟨settings, directive, sealLine, doors, fresh, flag, minFresh, cab, intake, demanded⟩, cabCo, breathing⟩ := record
  obtain ⟨up, level, now, later⟩ := acceptance
  obtain ⟨breach, purge⟩ := clocks
  refine ⟨_, runs, rfl, settings, directive, sealLine, doors, fresh, flag, minFresh, cab, intake, demanded, up, level,
    fun down h => now down (takes.immediate.mpr h),
    fun down h => later down (Bool.eq_false_iff.mpr fun b => h (takes.immediate.mp b)), breach, ?_, cabCo, breathing, ?_, ?_,
    ?_, admission, takes.source_cabCo sources, breathingSource, takes.source_purgeDone sources, takes.source_other sources, ?_⟩
  · intro route time clock starts k differ u
    have class_eq : cls = k := orderClass.trans (if_congr (or_congr_right (or_congr_left started)) rfl rfl)
    obtain ⟨ddr, free⟩ := moved u (by rw [class_eq])
    refine ⟨purge.trans (if_congr started rfl rfl), j.targets_eq, ddr, free, ?_⟩
    intro isReport tells
    have told_eq : told = if tells then [.admissionReport j.picture] else [] :=
      toldIs.trans (if_congr (or_congr_right (or_congr_left started)) rfl rfl)
    have quiet : news.countP isReport = 0 := List.countP_eq_zero.mpr fun e he => by
      obtain ⟨r, rfl⟩ := reports e he
      exact Bool.false_ne_true
    refine ⟨fun h => ?_, ?_⟩
    · show _ ∈ s0.handed ++ news ++ told
      rw [told_eq, if_pos h]
      exact List.mem_append_right _ (List.mem_singleton_self _)
    · show (s0.handed ++ news ++ told).countP isReport = _
      rw [List.countP_append, List.countP_append, quiet, told_eq, Nat.add_zero]
      refine congrArg₂ _ takes.reports ?_
      split <;> rfl
  · intro judged door lane
    exact impairment judged door lane rfl rfl fun _ => rfl
  · intro check report quits
    have ends_iff : ends = true ↔ quits := arrived _ rfl rfl
    have stands : pending = check := checked
    clear_value check
    subst stands
    refine ⟨if_congr ends_iff rfl rfl, settledSource.trans ?_⟩
    cases pending with
    | none => rfl
    | some st => exact if_congr ends_iff rfl rfl
  · show atn.fault = true ↔ j.cabCo = true ∨ j.breathing = true ∨ j.sealImpaired = true
    rw [fault, Adm.faulty, Bool.or_eq_true, Bool.or_eq_true, or_assoc]
  · clear * - c
    cases c <;> rfl

end Sys2Proof

/-! ### O40: the requests of ADM, and its events in CONFIG -/

namespace Sys2Proof.Machine

section Config

variable {s : State}

/-- A grant with no lane FREE, or no order in the queue. -/
theorem Work.grant_noLane {w : Work} (held : ∀ l : LaneIx, w.ddr.lanes[l].state ≠ .free) : w.grant = w :=
  w.grantUpTo_idle _ (.inl (List.eq_nil_iff_forall_not_mem.mpr fun l mem => held l ((Ddr.mem_freeLanes _ l).mp mem)))

/-- R98: a SAFETY order is never dropped in the deadband. -/
theorem Work.takeIdle_safety (w : Work) (d : DamperIx) (n : Nat) (src : OrderSource) :
    w.takeIdle d n .safety src =
      if (w.damper d).position = some n then w.putDamper d { w.damper d with last := .done }
      else (w.enqueueNew d (.move n) .safety src).putDamper d { w.damper d with state := .waiting, target := some n } := by
  unfold Work.takeIdle
  dsimp only
  rw [if_neg fun near => by cases near.1]

/-- R98: a SAFETY order to an IDLE damper that stands at its target, with nothing to grant. -/
theorem State.order_done (d : DamperIx) (src : OrderSource) (idle : s.ddr.dampers[d].state = .idle)
    (here : s.ddr.dampers[d].position = some 0) (empty : s.ddr.queue = []) :
    s.order d 0 .safety src =
      { s with ddr := { s.ddr with dampers := s.ddr.dampers.set d { s.ddr.dampers[d] with last := .done } } } := by
  have bound : d.val < 8 := d.isLt
  have steps : toSteps s.ddr.dampers[d].settings.span 0 = 0 := by rw [toSteps, Nat.zero_mul]
  have taken : s.work.takeIdle d 0 .safety src = s.work.putDamper d { s.ddr.dampers[d] with last := .done } :=
    (s.work.takeIdle_safety d 0 src).trans (if_pos here)
  have run : s.work.takeOrder d 0 .safety src = s.work.putDamper d { s.ddr.dampers[d] with last := .done } := by
    simp only [Work.takeOrder, State.work_damper, idle, steps, taken]
    exact Work.grantUpTo_idle _ (.inr empty)
  have quiet : damperNews d s.ddr.dampers[d] { s.ddr.dampers[d] with last := .done } = [] := if_pos rfl
  rw [State.order, State.drive_damperBecomes run, State.damperBecomes, quiet, List.append_nil]

/-- R98: a SAFETY order to an IDLE damper elsewhere, with no lane FREE. -/
theorem State.order_waits (d : DamperIx) (src : OrderSource) {p : Nat} (idle : s.ddr.dampers[d].state = .idle)
    (there : s.ddr.dampers[d].position = some p) (away : p ≠ 0) (room : s.ddr.seq + 1 < 4294967296)
    (held : ∀ l : LaneIx, s.ddr.lanes[l].state ≠ .free) :
    s.order d 0 .safety src =
      (s.queued d (.move 0) .safety src).damperBecomes d { s.ddr.dampers[d] with state := .waiting, target := some 0 } := by
  have bound : d.val < 8 := d.isLt
  have steps : toSteps s.ddr.dampers[d].settings.span 0 = 0 := by rw [toSteps, Nat.zero_mul]
  let q : Work := { s.work with ddr := { s.ddr with
    queue := insertOrder ⟨d, .move 0, .safety, src, s.ddr.seq⟩ s.ddr.queue, seq := s.ddr.seq + 1 } }
  let c : Damper := { s.ddr.dampers[d] with state := .waiting, target := some 0 }
  have queued : s.work.enqueueNew d (.move 0) .safety src = q := if_pos room
  have elsewhere : (s.work.damper d).position ≠ some 0 := by
    rw [State.work_damper, there]
    simpa using away
  have taken : s.work.takeIdle d 0 .safety src = q.putDamper d c := by
    rw [Work.takeIdle_safety, queued, if_neg elsewhere]
    rfl
  have run : s.work.takeOrder d 0 .safety src = q.putDamper d c := by
    simp only [Work.takeOrder, State.work_damper, idle, steps, taken]
    exact Work.grant_noLane (w := q.putDamper d c) held
  have news : (q.putDamper d c).news = damperNews d s.ddr.dampers[d] c := by
    have before : (q.damper d).state = .idle := idle
    have other : s.ddr.dampers[d].state ≠ c.state := by
      rw [idle]
      exact nofun
    rw [Work.news, Work.changed_putDamper, DriveUnit.ifMoved_ne _ (by rw [before]; exact nofun), damperNews, if_neg other]
    simp [q, State.work, Ddr.reportOf, Work.putDamper]
  rw [State.order_worked, run, State.worked, news]
  rfl

/-- R44: outside RUN an event of ADM is dropped. -/
theorem State.take_dropped (c : Instr) (f : State → State) (config : s.part.state = .config) :
    (s.take c fun s => s.admEvent f) = .next { s with handed := s.handed.erase c } := by
  rw [State.take_next _ _ _ (by rw [config]; decide)]
  exact congrArg Host.Outcome.next (if_neg (by rw [State.inRun_iff]; exact (by rw [config]; decide : s.part.state ≠ .run)))

/-- R65: the SEAL line in CONFIG. -/
theorem exec_sealReqChange_config (config : s.part.state = .config) (b : Bool) :
    exec (.sealReqChange b) s =
      .next (if b = true ∧ s.ddr.dampers[0].position.isSome = true then
        ({ s with handed := s.handed.erase (.sealReqChange b) } : State).order 0 0 .safety .adm
      else { s with handed := s.handed.erase (.sealReqChange b) }) := by
  show execSealReqChange b s = _
  rw [execSealReqChange, State.take_next _ _ _ (by rw [config]; decide)]
  have notRun : ¬ (s.strike (.sealReqChange b)).inRun = true := by
    rw [State.inRun_iff]
    exact (by rw [config]; decide : s.part.state ≠ .run)
  have inConfig : (s.strike (.sealReqChange b)).inConfig = true := by rw [State.inConfig_iff]; exact config
  refine congrArg Host.Outcome.next ((if_neg notRun).trans ?_)
  by_cases asserted : b = true
  · exact (if_pos ⟨inConfig, asserted⟩).trans (if_congr (and_iff_right asserted).symm rfl rfl)
  · exact (if_neg fun h => asserted h.2).trans (if_neg fun h => asserted h.1).symm

/-- R69: the settings replaced in CONFIG. -/
theorem exec_setAdmission_config (config : s.part.state = .config) (b0 b1 b6 : Byte) (h2 h3 h4 h5 : Half) :
    let sent := admissionSent b0 b1 h2 h3 h4 h5 b6
    exec (.setAdmission b0 b1 h2 h3 h4 h5 b6) s =
      .next { s.replied (.setAdmission b0 b1 h2 h3 h4 h5 b6) 0xA1#8 [if sent.ranged = sent then 0#8 else 1#8] with
        adm := { s.adm with settings := sent.ranged } } := by
  intro sent
  show execSetAdmission b0 b1 h2 h3 h4 h5 b6 s = _
  rw [execSetAdmission, State.take_next _ _ _ (by rw [config]; decide)]
  refine congrArg Host.Outcome.next ?_
  dsimp only
  rw [if_neg (by rw [State.inRun_iff]; exact (by rw [config]; decide : s.part.state ≠ .run)), State.status_eq,
    clampStatus_code_ne, AdmSettings.clamp_eq]
  rfl

theorem Directive.ofCode_none {code : Byte} (high : 2 < code.toNat) : Directive.ofCode code = none := by
  unfold Directive.ofCode
  split
  case h_4 => rfl
  all_goals omega

theorem Directive.ofCode_code {code : Byte} {d : Directive} (same : code.toNat = d.code) :
    Directive.ofCode code = some d := by
  unfold Directive.ofCode
  rw [same]
  cases d <;> rfl

/-- R68: the directive, refused or as it stands. -/
theorem exec_setDirective_refused (code : Byte) :
    (s.part.state = .config →
      exec (.setDirective code) s = .next (s.replied (.setDirective code) 0xA0#8 [20#8])) ∧
    (s.part.state = .run → 2 < code.toNat →
      exec (.setDirective code) s = .next (s.replied (.setDirective code) 0xA0#8 [19#8])) ∧
    (s.part.state = .run → code.toNat = s.adm.directive.code →
      exec (.setDirective code) s = .next (s.replied (.setDirective code) 0xA0#8 [0#8])) := by
  have taken (outside : s.part.state ≠ .init) : execSetDirective code s = _ := State.take_next _ _ _ outside
  refine ⟨fun config => ?_, fun run high => ?_, fun run same => ?_⟩
  · refine (taken (by rw [config]; decide)).trans ?_
    refine congrArg Host.Outcome.next ((if_neg ?_).trans (State.strike_status _ _ _ _))
    rw [State.inRun_iff]
    exact (by rw [config]; decide : s.part.state ≠ .run)
  · refine (taken (by rw [run]; decide)).trans ?_
    refine congrArg Host.Outcome.next ((if_pos (s.inRun_iff.mpr run)).trans ?_)
    rw [Directive.ofCode_none high]
    exact State.strike_status _ _ _ _
  · refine (taken (by rw [run]; decide)).trans ?_
    refine congrArg Host.Outcome.next ((if_pos (s.inRun_iff.mpr run)).trans ?_)
    rw [Directive.ofCode_code same]
    exact (if_pos rfl).trans (State.strike_status _ _ _ _)

end Config

end Sys2Proof.Machine

namespace Sys2Proof
open Sys2Proof.Machine

/-- Settles O40: outside RUN an event of ADM is dropped; the SEAL line orders FRESH; in RUN the requests are events of ADM. -/
theorem admissionRequestsAndConfig : Obligations.AdmissionRequestsAndConfig := by
  intro code limitFraction pressFraction breachMin sealHold scrubHold limitHold purgeTime a l st v door b z report s cmd sent
    set status dropped
  obtain ⟨refused, range, same⟩ := exec_setDirective_refused (s := s) code
  refine ⟨fun config => ?_, fun run => ⟨range run, same run, fun law => ?_⟩⟩
  · have sealLine := exec_sealReqChange_config config
    refine ⟨refused config, exec_setAdmission_config config _ _ _ _ _ _ _, State.take_dropped _ _ config,
      State.take_dropped _ _ config, State.take_dropped _ _ config, State.take_dropped _ _ config,
      State.take_dropped _ _ config, (sealLine false).trans (congrArg _ (if_neg (by simp))), fun unhomed => ?_,
      fun homed => ?_, fun here idle empty => ?_, fun p there idle away room held => ?_⟩
    · exact (sealLine true).trans (congrArg _ (if_neg (by simp [unhomed])))
    · exact (sealLine true).trans (congrArg _ (if_pos ⟨rfl, homed⟩))
    · refine (sealLine true).trans (congrArg _ ((if_pos ⟨rfl, by rw [here]; rfl⟩).trans ?_))
      exact State.order_done (s := { s with handed := s.handed.erase (.sealReqChange true) }) 0 .adm idle here empty
    · refine (sealLine true).trans (congrArg _ ((if_pos ⟨rfl, by rw [there]; rfl⟩).trans ?_))
      refine (State.order_waits (s := { s with handed := s.handed.erase (.sealReqChange true) }) 0 .adm idle there away room
        held).trans ?_
      have moved : s.ddr.dampers[(0 : DamperIx)].state ≠ .waiting := fun waits => nomatch idle.symm.trans waits
      simp only [State.queued, State.damperBecomes, damperNews, if_neg moved]
      rfl
  · obtain ⟨t, runs, shape, settings, directive, rest⟩ := admissionEvents cmd s run law _ rfl
    obtain ⟨s0, cause, takes⟩ := exec_admTakes run cmd rfl
    have link : t.link = s.admAnswer cmd := by
      cases runs.symm.trans takes.runs
      rfl
    have kept := execSetAdmission_admissionLaw law (show execSetAdmission _ _ _ _ _ _ _ s = _ from runs)
    refine ⟨t, runs, shape, link, settings, directive, kept.1 ?_⟩
    rw [shape]
    exact run

end Sys2Proof

/-! ### The events of an input: their commands and their effects at the owners (R161, R164) -/

namespace Sys2Proof.Machine

section Inputs

variable {s t : State}

/-- A level event or an edge of an input function. -/
def Instr.isInput (c : Instr) : Bool :=
  match c with
  | .homeChange _ _ | .doorChange _ _ | .laneFltChange _ _ | .sealReqChange _ | .auxFlameChange _ | .tachEdge _ => true
  | _ => false

theorem Func.event_isInput {f : Func} {b : Bool} {c : Instr} (event : f.event b = some c) : Instr.isInput c = true := by
  cases f <;> cases event <;> rfl

theorem Func.event_of_levelOf {f : Func} {b : Bool} {c : Instr} (level : f.levelOf c = some b) : f.event b = some c := by
  unfold Func.levelOf at level
  split at level
  · cases level
    assumption
  · split at level
    · cases level
      assumption
    · cases level

theorem Func.levelOf_isSome (f : Func) (c : Instr) :
    (f.levelOf c).isSome = decide (f.event true = some c ∨ f.event false = some c) := by
  unfold Func.levelOf
  split
  · next on => simp [on]
  · next off =>
    split
    · next on => simp [on]
    · next none => simp [off, none]

/-- What an operation hands, none of it an event of an input. -/
def State.Hands (s t : State) : Prop := ∃ news, (∀ e ∈ news, Instr.isInput e = false) ∧ t.handed = s.handed ++ news

theorem State.Hands.of_same (same : t.handed = s.handed) : s.Hands t :=
  ⟨[], fun _ mem => absurd mem List.not_mem_nil, by rw [same, List.append_nil]⟩

theorem State.hands_drive (s : State) (f : Work → Work) : s.Hands (s.drive f) := by
  rw [State.drive_eq]
  refine ⟨_, fun e mem => ?_, rfl⟩
  obtain ⟨r, rfl⟩ := Work.mem_news mem
  rfl

theorem State.hands_admStages (s : State) (c : AdmCause) (before : Adm) : s.Hands (s.admStages c before) := by
  obtain ⟨news, atn, reports, staged, -⟩ := s.admStages_eq c before
  rw [staged]
  refine ⟨news ++ s.admTold c before, fun e mem => ?_, List.append_assoc _ _ _⟩
  rcases List.mem_append.mp mem with report | told
  · obtain ⟨r, rfl⟩ := reports e report
    rfl
  · unfold State.admTold at told
    split at told
    · cases told
    · rw [List.mem_singleton.mp told]
      rfl

theorem State.hands_recorded (s : State) (a : Adm) (c : AdmCause) (before : Adm) :
    s.Hands (State.admStages { s with adm := a } c before) := State.hands_admStages { s with adm := a } c before

theorem State.hands_levelEffect (s : State) (f : Func) (b : Bool) : s.Hands (s.levelEffect f b) := by
  cases f with
  | home d => exact s.hands_drive _
  | laneFlt l => exact s.hands_drive _
  | door d =>
    show s.Hands (s.admEvent _)
    unfold State.admEvent
    split
    · exact s.hands_recorded _ _ _
    · exact .of_same rfl
  | sealReq =>
    show s.Hands (s.sealEffect b)
    unfold State.sealEffect State.sealConfigOrder
    split
    · exact s.hands_recorded _ _ _
    · split
      · split
        · exact s.hands_drive _
        · exact .of_same rfl
      · exact .of_same rfl
  | auxFlame => exact .of_same (s.touches_flameEffect b .handed (by decide))
  | tach m => exact .of_same (s.touches_tachEffect m .handed (by decide))
  | sc _ | sel _ | step _ | dir _ | hvOpen | auxRun | pwm _ => exact .of_same rfl

/-- No event of an input waits that the predicate picks. -/
theorem State.Hands.absent {p : Instr → Bool} (hands : s.Hands t) (only : ∀ c, p c = true → Instr.isInput c = true)
    (none : ∀ c ∈ s.handed, p c = false) : ∀ c ∈ t.handed, p c = false := by
  obtain ⟨news, quiet, handed⟩ := hands
  intro c mem
  rw [handed] at mem
  rcases List.mem_append.mp mem with old | new
  · exact none c old
  · refine Bool.eq_false_iff.mpr fun picked => ?_
    have input := only c picked
    rw [quiet c new] at input
    cases input

theorem State.strike_absent {c : Instr} (absent : c ∉ s.handed) : s.strike c = s := by
  show ({ s with handed := s.handed.erase c } : State) = s
  rw [List.erase_of_not_mem absent]

/-- The command of an event of an input takes its effect. -/
theorem exec_input {f : Func} {b : Bool} {c : Instr} (outside : s.part.state ≠ .init) (event : f.event b = some c) :
    exec c s = .next ((s.strike c).levelEffect f b) := by
  have taken (effect : State → State) : s.take c effect = .next (effect (s.strike c)) := State.take_next s c effect outside
  cases f <;> cases event
  case home d => exact (show execHomeChange d b s = _ from taken _)
  case door d => exact (show execDoorChange d b s = _ from taken _)
  case laneFlt l => exact (show execLaneFltChange l b s = _ from taken _)
  case sealReq => exact (show execSealReqChange b s = _ from taken _)
  case auxFlame => exact (show execAuxFlameChange b s = _ from taken _)
  case tach m => exact (show execTachEdge m s = _ from taken _)

theorem exec_input_absent {f : Func} {b : Bool} {c : Instr} (outside : s.part.state ≠ .init) (event : f.event b = some c)
    (absent : c ∉ s.handed) : exec c s = .next (s.levelEffect f b) := by
  rw [exec_input outside event, State.strike_absent absent]

theorem Func.levelEvent_eq (f : Func) (b : Bool) : f.levelEvent b = if f.isDigitalInput then f.event b else none := by
  cases f <;> rfl

end Inputs

section Waiting

variable {s : State} (f : Func)

/-- The events of a function, one after another, where none of the function's waits. -/
theorem State.foldl_takes (take : State → Instr → State) (p : Instr → Bool) (picks : ∀ c, p c = (f.levelOf c).isSome)
    (takes : ∀ t c b, t.part.state ≠ .init → f.event b = some c → c ∉ t.handed → take t c = t.levelEffect f b) (l : List Instr) :
    ∀ t : State, t.part.state ≠ .init → (∀ c ∈ t.handed, p c = false) →
      (l.filter p).foldl take t = (l.filterMap f.levelOf).foldl (fun t b => t.levelEffect f b) t := by
  have only (c : Instr) (picked : p c = true) : Instr.isInput c = true := by
    rw [picks] at picked
    obtain ⟨b, level⟩ := Option.isSome_iff_exists.mp picked
    exact Func.event_isInput (Func.event_of_levelOf level)
  induction l with
  | nil => exact fun _ _ _ => rfl
  | cons c l ih =>
    intro t outside absent
    cases level : f.levelOf c with
    | none =>
      have skips : p c = false := by rw [picks, level]; rfl
      rw [List.filter_cons_of_neg (by simp [skips]), List.filterMap_cons_none level]
      exact ih t outside absent
    | some b =>
      have picked : p c = true := by rw [picks, level]; rfl
      have missing : c ∉ t.handed := fun mem => by rw [absent c mem] at picked; cases picked
      rw [List.filter_cons_of_pos picked, List.filterMap_cons_some level, List.foldl_cons, List.foldl_cons,
        takes t c b outside (Func.event_of_levelOf level) missing]
      have part : (t.levelEffect f b).part.state = t.part.state := t.touches_levelEffect f b .partState (by decide)
      exact ih _ (by rw [part]; exact outside) ((t.hands_levelEffect f b).absent only absent)

/-- Assumption 33: the events of a function that wait are taken at its binding and unbinding. -/
theorem State.takesWaiting_eq (outside : s.part.state ≠ .init) : s.takesWaiting f = s.flush f := by
  have steps (p : Instr → Bool) (picks : ∀ c, p c = (f.levelOf c).isSome) :
      (s.handed.filter p).foldl
          (fun t c => match exec c t with | .next u => u | .fault _ => t | .refused _ => t)
          { s with handed := s.handed.filter fun c => !p c } = s.flush f := by
    have kept : (fun c => !p c) = fun c => (f.levelOf c).isNone := by
      funext c
      rw [picks]
      cases f.levelOf c <;> rfl
    rw [State.flush, kept]
    refine State.foldl_takes f _ p picks (fun t c b outside event absent => ?_) _ _ outside fun c mem => ?_
    · rw [exec_input_absent outside event absent]
    · rw [picks]
      have unpicked := (List.mem_filter.mp mem).2
      cases level : f.levelOf c with
      | none => rfl
      | some b => simp [level] at unpicked
  refine steps _ fun c => ?_
  rw [f.levelOf_isSome c, decide_eq_decide]
  cases f <;> simp [Func.levelEvent, Func.event]

end Waiting

end Sys2Proof.Machine

/-! ### A binding and an unbinding at the owner (R7, R112, R125) -/

namespace Sys2Proof.Machine

section Owners

variable {u : State} {present : DamperIx → Bool} {laid : LaneIx → Bool}

theorem State.bound_iff (u : State) (f : Func) : u.bound f = (u.trm.map[f.slot]).isSome := rfl

/-- The pair of a function is complete. -/
theorem State.partnerBound_pair (u : State) (f : Func) :
    u.partnerBound f = (f.other.bind fun g => u.trm.map[g.slot]).isSome := by
  cases f <;> rfl

theorem State.drive_damperPresent (d : DamperIx) :
    (u.drive fun w => w.damperPresent d) = u.damperBecomes d
      { u.ddr.dampers[d] with
        state := if u.ddr.dampers[d].jam then .jammed else .unhomed, position := none, target := none, slip := 0
        last := .none } :=
  State.drive_damperBecomes rfl

theorem State.drive_lanePresent (weak : u.ddr.Weak present laid) {l : LaneIx} (absent : laid l = false) :
    (u.drive fun w => w.lanePresent l) =
      (u.laneBecomes l
        { u.ddr.lanes[l] with
          state := if u.ddr.lanes[l].lockout then .lockedOut else if u.ddr.lanes[l].fltInput then .out else .free
          holder := none, recovery := none }).arbitrated u.handed := by
  have was : u.ddr.lanes[l].state = .absent := (weak.lanes l).1.mpr absent
  refine ((State.Mirrors.start u).laneBecomes l _).granted (laid := fun m => if m = l then true else laid m)
    (present := present) ?_ rfl
  refine Ddr.Weak.idleLane (w := u.work) weak (fun m other => if_neg other) ?_ ?_ ?_ rfl (by simp)
  · rw [if_pos rfl]
    dsimp only
    (repeat' split) <;> simp
  · rw [show (u.work.lane l).state = .absent from was]
    decide
  · dsimp only
    (repeat' split) <;> simp

theorem State.drive_damperAbsent (weak : u.ddr.Weak present laid) (d : DamperIx) :
    let gone : Damper :=
      { u.ddr.dampers[d] with
        state := .absent, lane := none, position := none, target := none, pending := none, deferred := none, order := none
        stepCount := 0, overtravel := false, stepDue := none, settle := none }
    let q := u.ddr.queue.filter fun o => decide (o.damper ≠ d)
    (u.drive fun w => w.damperAbsent d) =
      match u.ddr.dampers[d].lane with
      | none => ((u.queueBecomes q).damperBecomes d gone).arbitrated u.handed
      | some l => (((u.laneFreed l).queueBecomes q).damperBecomes d gone).arbitrated u.handed := by
  intro gone q
  have left := Ddr.Weak.damperGone (w := u.work) weak (present' := fun e => if e = d then false else present e)
    (fun e other => if_neg other) (if_pos rfl) gone rfl ⟨rfl, rfl, rfl, rfl, rfl⟩
  have start := State.Mirrors.start u
  have run : u.work.damperAbsent d = (((u.work.freeLaneOf d).unqueue d).putDamper d gone).grant := rfl
  cases lane : u.ddr.dampers[d].lane with
  | none =>
    have none : u.work.freeLaneOf d = u.work := by
      unfold Work.freeLaneOf
      rw [show (u.work.damper d).lane = none from lane]
    rw [none] at left run
    exact ((start.queueBecomes q).damperBecomes d gone).granted left run
  | some l =>
    have unqueued : (u.work.freeLaneOf d).unqueue d = (u.work.freeLaneOf d).putQueue q := by
      rw [Work.freeLaneOf_some (show (u.work.damper d).lane = some l from lane)]
      rfl
    rw [unqueued] at left run
    exact (((start.laneFreed (d := d) (l := l) lane).queueBecomes q).damperBecomes d gone).granted left run

theorem State.drive_laneAbsent (weak : u.ddr.Weak present laid) (l : LaneIx) :
    (u.drive fun w => w.laneAbsent l) =
      ((u.holderStops l).laneBecomes l
        { u.ddr.lanes[l] with state := .absent, holder := none, recovery := none, history := [] }).arbitrated u.handed := by
  refine (((State.Mirrors.start u).holderStops l).laneBecomes l _).granted (present := present)
    (laid := fun m => if m = l then false else laid m) ?_ rfl
  exact Ddr.Weak.loseLane (w := u.work) weak (fun m other => if_neg other) (by simp) (by simp) rfl (by simp)

/-- R7, R112, R125: a binding at the owner. -/
theorem State.ownerBind_eq (weak : u.ddr.Weak present laid) {f : Func}
    (fresh : ∀ l, f = .step l ∨ f = .dir l → u.partnerBound f = true → laid l = false) : u.ownerBind f = u.ownerBinds f := by
  have pair := u.partnerBound_pair f
  cases f with
  | sc ch =>
    show (u.putChannel ch ((u.channel ch).bind u.now)).report ch = _
    rw [State.putChannel_report]
    simp only [State.channelReports, Channel.bind, inSec_eq]
    rfl
  | sel d | home d =>
    show (if u.partnerBound _ then u.drive fun w => w.damperPresent d else u) = _
    rw [pair, State.drive_damperPresent]
    rfl
  | step l | dir l =>
    show (if u.partnerBound _ then u.drive fun w => w.lanePresent l else u) = _
    refine Eq.trans (ite_congr rfl (fun bound => ?_) fun _ => rfl) (if_congr (by rw [pair]) rfl rfl)
    exact State.drive_lanePresent weak (fresh l (by simp) bound)
  | tach m | door _ | laneFlt _ | sealReq | auxFlame | hvOpen | auxRun | pwm _ => rfl

/-- R7, R112, R125: an unbinding at the owner. -/
theorem State.ownerUnbind_eq (weak : u.ddr.Weak present laid) (f : Func) : u.ownerUnbind f = u.ownerUnbinds f := by
  have pair := u.partnerBound_pair f
  cases f with
  | sc ch =>
    have emptied (s : State) : (s.putChannel ch (u.channel ch).unbind).report ch = s.channelReports ch (u.channel ch).unbind :=
      s.putChannel_report ch _
    show State.report (State.putChannel _ ch (u.channel ch).unbind) ch = _
    rw [emptied]
    unfold State.ownerUnbinds
    dsimp only
    rw [State.channel_eq]
    cases u.sns.channels[ch].slot <;> rfl
  | sel d | home d =>
    show (if u.partnerBound _ then u.drive fun w => w.damperAbsent d else u) = _
    rw [pair, State.drive_damperAbsent weak]
    rfl
  | step l | dir l =>
    show (if u.partnerBound _ then u.drive fun w => w.laneAbsent l else u) = _
    rw [pair, State.drive_laneAbsent weak]
    rfl
  | tach m | door _ | laneFlt _ | sealReq | auxFlame | hvOpen | auxRun | pwm _ => rfl

end Owners

end Sys2Proof.Machine

/-! ### BIND and UNBIND: their checks, and what they do (R160 to R163) -/

namespace Sys2Proof.Machine

section Fields

variable {terminal function invert debounce drive : Byte} {f : Func} {t : TerminalIx}

/-- R159: the class of each function. -/
theorem Func.cls_eq (f : Func) : f.cls = match f with
    | .sc _ => 0
    | .home _ | .door _ | .laneFlt _ | .sealReq | .auxFlame => 1
    | .tach _ => 2
    | .sel _ | .step _ | .dir _ | .hvOpen | .auxRun => 3
    | .pwm _ => 4 := by
  cases f with
  | sc i | home i | door i | laneFlt i | tach i | sel i | step i | dir i | pwm i => revert i; decide
  | sealReq | auxFlame | hvOpen | auxRun => rfl

theorem Func.allowedOn_iff (f : Func) (t : TerminalIx) :
    f.allowedOn t = true ↔ f.cls = 1 ∨ f.cls = 0 ∧ t.val < 16 ∨ f.cls = 2 ∧ 16 ≤ t.val ∧ t.val < 24 ∨
      f.cls = 3 ∧ 16 ≤ t.val ∧ t.val < 40 ∨ f.cls = 4 ∧ 40 ≤ t.val := by
  rw [f.cls_eq]
  cases f <;> simp [Func.allowedOn]

theorem Func.ofCode_none {n : Nat} (outside : n = 0 ∨ 51 < n) : Func.ofCode n = none := by
  unfold Func.ofCode
  simp only [show ¬ (1 ≤ n ∧ n < 16) by omega, show ¬ (16 ≤ n ∧ n < 24) by omega, show ¬ (24 ≤ n ∧ n < 28) by omega,
    show ¬ (28 ≤ n ∧ n < 30) by omega, show ¬ n = 30 by omega, show ¬ n = 31 by omega, show ¬ (32 ≤ n ∧ n < 35) by omega,
    show ¬ (35 ≤ n ∧ n < 43) by omega, show ¬ (43 ≤ n ∧ n < 45) by omega, show ¬ (45 ≤ n ∧ n < 47) by omega,
    show ¬ n = 47 by omega, show ¬ n = 48 by omega, show ¬ (49 ≤ n ∧ n < 52) by omega, dite_false, if_false]

theorem Func.ofCode_byte (f : Func) : Func.ofCode (BitVec.ofNat 8 f.code).toNat = some f := by
  have small := f.slot.isLt
  have code := f.slot_succ
  rw [BitVec.toNat_ofNat, Nat.mod_eq_of_lt (by omega), f.ofCode_code]

/-- R160: a flag in range, above it. -/
theorem flagOf_eq (b : Byte) : flagOf b = if b.toNat ≤ 1 then some (decide (b = 1#8)) else none := by
  unfold flagOf
  by_cases small : b.toNat ≤ 1
  · have values : b = 0#8 ∨ b = 1#8 :=
      (show b.toNat = 0 ∨ b.toNat = 1 by omega).imp BitVec.eq_of_toNat_eq BitVec.eq_of_toNat_eq
    rcases values with rfl | rfl <;> rfl
  · rw [if_neg small]
    split
    case h_3 => rfl
    all_goals omega

/-- R160: the debounce setting of a code in range. -/
def Debounce.sent (b : Byte) : Debounce :=
  if b = 0#8 then .ms0 else if b = 1#8 then .ms10 else if b = 2#8 then .ms50 else .ms200

theorem Debounce.ofCode_eq (b : Byte) : Debounce.ofCode b = if b.toNat ≤ 3 then some (Debounce.sent b) else none := by
  unfold Debounce.ofCode
  by_cases small : b.toNat ≤ 3
  · have values : b.toNat = 0 ∨ b.toNat = 1 ∨ b.toNat = 2 ∨ b.toNat = 3 := by omega
    have bytes : b = 0#8 ∨ b = 1#8 ∨ b = 2#8 ∨ b = 3#8 :=
      values.imp BitVec.eq_of_toNat_eq (Or.imp BitVec.eq_of_toNat_eq (Or.imp BitVec.eq_of_toNat_eq BitVec.eq_of_toNat_eq))
    rcases bytes with rfl | rfl | rfl | rfl <;> rfl
  · rw [if_neg small]
    split
    case h_5 => rfl
    all_goals omega

/-- The settings that a BIND sends. -/
def BindSettings.sent (invert debounce drive : Byte) : BindSettings :=
  ⟨decide (invert = 1#8), Debounce.sent debounce, decide (drive = 1#8)⟩

theorem bindFields_none (outside : 47 < terminal.toNat ∨ function.toNat = 0 ∨ 51 < function.toNat ∨
    ¬ (invert.toNat ≤ 1 ∧ debounce.toNat ≤ 3 ∧ drive.toNat ≤ 1)) :
    bindFields terminal function invert debounce drive = none := by
  unfold bindFields
  rw [flagOf_eq, flagOf_eq, Debounce.ofCode_eq]
  rcases outside with high | zero | high | codes
  · rw [indexOf_none 48 terminal high]
  · rw [Func.ofCode_none (.inl zero)]
    cases indexOf 48 terminal <;> rfl
  · rw [Func.ofCode_none (.inr high)]
    cases indexOf 48 terminal <;> rfl
  · split
    · next _ _ _ inv deb drv =>
      simp only [Option.ite_none_right_eq_some] at inv deb drv
      exact absurd ⟨inv.1, deb.1, drv.1⟩ codes
    · rfl

theorem bindFields_some (codes : invert.toNat ≤ 1 ∧ debounce.toNat ≤ 3 ∧ drive.toNat ≤ 1) :
    bindFields (BitVec.ofNat 8 t.val) (BitVec.ofNat 8 f.code) invert debounce drive =
      some (t, f, BindSettings.sent invert debounce drive) := by
  obtain ⟨inv, deb, drv⟩ := codes
  unfold bindFields
  rw [flagOf_eq, flagOf_eq, Debounce.ofCode_eq, indexOf_ofNat 48 t (by decide), f.ofCode_byte, if_pos inv, if_pos deb, if_pos drv]
  rfl

end Fields

section Heard

variable {s : State} {f : Func}

/-- No event of a function waits. -/
def State.Unheard (s : State) (f : Func) : Prop := ∀ c ∈ s.handed, (f.levelOf c).isSome = false

theorem State.Unheard.hands {t : State} (unheard : s.Unheard f) (hands : s.Hands t) : t.Unheard f := by
  refine hands.absent (fun c picked => ?_) unheard
  obtain ⟨b, level⟩ := Option.isSome_iff_exists.mp picked
  exact Func.event_isInput (Func.event_of_levelOf level)

theorem State.unheard_flush (s : State) (f : Func) : (s.flush f).Unheard f := by
  refine foldl_keeps (fun t => t.Unheard f) (fun t b kept => kept.hands (t.hands_levelEffect f b)) _ fun c mem => ?_
  have unpicked := (List.mem_filter.mp mem).2
  cases level : f.levelOf c with
  | none => rfl
  | some b => simp [level] at unpicked

theorem reportEvent_notInput {ch : ChannelIx} {st : Status} {v : Int} {e : Instr} (report : reportEvent ch st v = some e) :
    Instr.isInput e = false := by
  unfold reportEvent at report
  split at report <;> cases report <;> rfl

theorem State.hands_channelReports (s : State) (ch : ChannelIx) (c : Channel) : s.Hands (s.channelReports ch c) :=
  ⟨_, fun _ mem => reportEvent_notInput (Option.mem_toList.mp mem), rfl⟩

theorem State.hands_ownerBind (s : State) (f : Func) : s.Hands (s.ownerBind f) := by
  have pair (p : Prop) [Decidable p] (g : Work → Work) : s.Hands (if p then s.drive g else s) := by
    split
    · exact s.hands_drive g
    · exact .of_same rfl
  cases f with
  | sc ch =>
    show s.Hands ((s.putChannel ch _).report ch)
    rw [State.putChannel_report]
    exact s.hands_channelReports ch _
  | home d | sel d | step l | dir l => exact pair _ _
  | tach m | door _ | laneFlt _ | sealReq | auxFlame | hvOpen | auxRun | pwm _ => exact .of_same rfl

/-- A level event at its owner, where none of its function waits. -/
theorem State.Unheard.exec_levelEvent {b : Bool} {e : Instr} (unheard : s.Unheard f) (outside : s.part.state ≠ .init)
    (event : e ∈ f.levelEvent b) : exec e s = .next (s.levelEffect f b) := by
  rw [f.levelEvent_eq, Option.mem_def] at event
  split at event
  · refine exec_input_absent outside event fun mem => ?_
    have none := unheard e mem
    rw [f.levelOf_isSome, decide_eq_false_iff_not] at none
    cases b
    · exact none (.inr event)
    · exact none (.inl event)
  · cases event

end Heard

end Sys2Proof.Machine

/-! ### O29 and O30: BIND and UNBIND -/

namespace Sys2Proof.Machine

section Requests

variable {s : State} {f : Func} {t : TerminalIx}

/-- R160: BIND in CONFIG. -/
theorem exec_bind (config : s.part.state = .config) (b0 b1 b2 b3 b4 : Byte) :
    exec (.bind b0 b1 b2 b3 b4) s = .next
      (match bindFields b0 b1 b2 b3 b4 with
      | none => (s.strike (.bind b0 b1 b2 b3 b4)).status .bind .range
      | some (t, f, c) =>
        if f.allowedOn t = false then (s.strike (.bind b0 b1 b2 b3 b4)).status .bind .range
        else match s.trm.entries[t].func with
          | some g =>
            if g = f then ((s.strike (.bind b0 b1 b2 b3 b4)).rebind t f c).status .bind .ok
            else (s.strike (.bind b0 b1 b2 b3 b4)).status .bind .inUse
          | none =>
            if (s.trm.map[f.slot]).isSome then (s.strike (.bind b0 b1 b2 b3 b4)).status .bind .bound
            else ((s.strike (.bind b0 b1 b2 b3 b4)).bindNew t f c).status .bind .ok) := by
  show execBind b0 b1 b2 b3 b4 s = _
  rw [execBind, State.take_next _ _ _ (by rw [config]; decide)]
  refine congrArg Host.Outcome.next ((if_pos (by rw [State.inConfig_iff]; exact config)).trans ?_)
  cases bindFields b0 b1 b2 b3 b4 with
  | none => rfl
  | some fields =>
    obtain ⟨t, f, c⟩ := fields
    refine ite_congr (by simp) (fun _ => rfl) fun _ => ?_
    rw [State.terminal_eq]
    rfl

/-- R161: a new binding, its entry in the map at once. -/
def State.boundNow (s : State) (t : TerminalIx) (f : Func) (c : BindSettings) : State :=
  (s.flush f).carries t (s.trm.entries[t].bound f c) f (some t)

theorem State.boundNow_unheard (s : State) (t : TerminalIx) (f : Func) (c : BindSettings) : (s.boundNow t f c).Unheard f :=
  s.unheard_flush f

theorem State.boundNow_partState (s : State) (t : TerminalIx) (f : Func) (c : BindSettings) :
    (s.boundNow t f c).part.state = s.part.state := s.touches_flush f .partState (by decide)

theorem State.bindNew_eq (law : s.DriveLaw) (unbound : s.trm.map[f.slot] = none) (t : TerminalIx) (c : BindSettings) :
    (s.boundNow t f c).ownerBind f = (s.boundNow t f c).ownerBinds f ∧
    s.bindNew t f c =
      if (s.trm.entries[t].bound f c).debounced then ((s.boundNow t f c).ownerBinds f).levelEffect f true
      else (s.boundNow t f c).ownerBinds f := by
  have free : s.bound f = false := by rw [State.bound_iff, unbound]; rfl
  have kept : (s.boundNow t f c).ddr.Full s.paired s.laid := State.full_flush (s.driveLaw_iff_full.mp law) f
  have owner : (s.boundNow t f c).ownerBind f = (s.boundNow t f c).ownerBinds f := by
    refine State.ownerBind_eq kept.1 fun l half _ => ?_
    rcases half with rfl | rfl <;> simp [State.laid, free]
  refine ⟨owner, ?_⟩
  rw [← owner]
  have carried : ((s.flush f).putTerminal t (s.trm.entries[t].bound f c)).mapFunc f (some t) = s.boundNow t f c := by
    unfold State.boundNow State.carries State.putTerminal State.mapFunc
    rfl
  unfold State.bindNew
  rw [← carried]
  rfl

/-- R162: a rebinding, its entry in place at once. -/
def State.reboundNow (s : State) (t : TerminalIx) (f : Func) (c : BindSettings) : State :=
  { s.flush f with trm := ⟨s.trm.entries.set t (s.trm.entries[t].bound f c), s.trm.map⟩ }

theorem State.reboundNow_unheard (s : State) (t : TerminalIx) (f : Func) (c : BindSettings) : (s.reboundNow t f c).Unheard f :=
  s.unheard_flush f

theorem State.rebind_eq (carries : s.trm.entries[t].func = some f) (c : BindSettings) :
    let old := s.trm.entries[t]
    (f.isDigitalInput = true →
      s.rebind t f c =
        if (old.bound f c).debounced = old.debounced then s.reboundNow t f c
        else (s.reboundNow t f c).levelEffect f (old.bound f c).debounced) ∧
    (f.cls = 2 → s.rebind t f c =
      if old.invert = c.invert then s.reboundNow t f c else (s.reboundNow t f c).ownerBinds f) ∧
    (f.isDigitalInput = false → f.cls ≠ 2 → s.rebind t f c = s.reboundNow t f c) := by
  intro old
  have entry : ({ old.withSettings c with debounced := f.isDigitalInput && (old.withSettings c).active } : Terminal) =
      old.bound f c := by
    rw [Terminal.bound, ← carries]
    rfl
  have put : (s.flush f).putTerminal t (old.bound f c) = s.reboundNow t f c := by
    rw [State.putTerminal, State.flush_trm]
    rfl
  have chosen (g : Func) (is : f = g) : s.rebind t f c = match (generalizing := false) g with
      | .tach m => if old.invert = c.invert then s.reboundNow t f c else (s.reboundNow t f c).tachStart m
      | .home _ | .door _ | .laneFlt _ | .sealReq | .auxFlame =>
        if (old.bound f c).debounced = old.debounced then s.reboundNow t f c
        else (s.reboundNow t f c).levelEffect f (old.bound f c).debounced
      | .sc _ | .sel _ | .step _ | .dir _ | .hvOpen | .auxRun | .pwm _ => s.reboundNow t f c := by
    subst is
    rw [← put, ← entry]
    rfl
  have byFunc := chosen f rfl
  rw [f.cls_eq]
  cases f with
  | home _ | door _ | laneFlt _ | sealReq | auxFlame => exact ⟨fun _ => byFunc, nofun, nofun⟩
  | tach m => exact ⟨nofun, fun _ => byFunc, fun _ other => absurd rfl other⟩
  | sc _ | sel _ | step _ | dir _ | hvOpen | auxRun | pwm _ => exact ⟨nofun, nofun, fun _ _ => byFunc⟩

/-- R163: UNBIND outside RUN. -/
theorem exec_unbind (outside : s.part.state ≠ .init) (b : Byte) :
    exec (.unbind b) s = .next
      (if s.part.state = .run then (s.strike (.unbind b)).status .unbind .state
      else match indexOf 48 b with
        | none => (s.strike (.unbind b)).status .unbind .range
        | some t => match s.trm.entries[t].func with
          | none => (s.strike (.unbind b)).status .unbind .ok
          | some f => ((s.strike (.unbind b)).unbindTerminal t f).status .unbind .ok) := by
  refine (show execUnbind b s = _ from State.take_next _ _ _ outside).trans (congrArg Host.Outcome.next ?_)
  refine ite_congr (by rw [State.inRun_iff]; rfl) (fun _ => rfl) fun _ => ?_
  simp only [State.terminal_eq]
  rfl

theorem State.unheard_owner {u : State} (unheard : u.Unheard f) (owner : u.ownerBind f = u.ownerBinds f) :
    (u.ownerBinds f).Unheard f := owner ▸ unheard.hands (u.hands_ownerBind f)

theorem State.status_bind (u : State) : u.status .bind .ok = u.acknowledged 0x88#8 0#8 := u.status_eq _ _

theorem State.status_unbind (u : State) : u.status .unbind .ok = u.acknowledged 0x89#8 0#8 := u.status_eq _ _

end Requests

end Sys2Proof.Machine

namespace Sys2Proof
open Sys2Proof.Machine

/-- Settles O29: the waiting events are `State.flush` (`State.takesWaiting_eq`), and each owner's part is read off its own
operation (`State.ownerBind_eq`). -/
theorem binding : Obligations.Binding := by
  intro terminal function invert debounce drive t f s outside law raw cmd codes allowed old inv active entry ok ready bound
    stays rebound
  have small : t.val < 48 := t.isLt
  have allows : f.allowedOn t = true ↔ allowed := f.allowedOn_iff t
  let u := s.strike cmd
  let c := BindSettings.sent invert debounce drive
  have digital : decide (f.cls = 1) = f.isDigitalInput := by
    rw [Bool.eq_iff_iff, decide_eq_true_eq, f.cls_eq_one_iff]
  have entry_eq : u.trm.entries[t].bound f c = entry := by
    show ({ old.withSettings c with func := _, debounced := f.isDigitalInput && _ } : Terminal) = entry
    rw [← digital]
    rfl
  have ready_eq : ready = u.flush f := u.takesWaiting_eq f outside
  have bound_eq : bound = u.boundNow t f c := by
    rw [State.boundNow, entry_eq, ← ready_eq]
  have rebound_eq : rebound = u.reboundNow t f c := by
    rw [State.reboundNow, entry_eq, ← ready_eq]
    rfl
  refine ⟨fun run => ?_, fun config => ⟨fun wrong => ?_, fun refused => ?_, fun may known carried other => ?_,
    fun may known free taken => ?_, fun may known free unbound => ?_, fun may known carried => ?_⟩⟩
  · refine (show execBind terminal function invert debounce drive s = _ from State.take_next _ _ _ outside).trans ?_
    refine congrArg Host.Outcome.next ((if_neg ?_).trans (State.strike_status _ _ _ _))
    rw [State.inConfig_iff]
    exact (by rw [run]; decide : s.part.state ≠ .config)
  · rw [exec_bind config, bindFields_none wrong]
    exact congrArg _ (State.strike_status _ _ _ _)
  · rw [exec_bind config]
    by_cases known : codes
    · rw [bindFields_some known]
      refine congrArg Host.Outcome.next ((if_pos ?_).trans (State.strike_status _ _ _ _))
      exact Bool.eq_false_iff.mpr fun may => refused (allows.mp may)
    · rw [bindFields_none (.inr (.inr (.inr known)))]
      exact congrArg _ (State.strike_status _ _ _ _)
  all_goals
    have does := exec_bind config (BitVec.ofNat 8 t.val) (BitVec.ofNat 8 f.code) invert debounce drive
    rw [bindFields_some known] at does
    replace does := does.trans (congrArg Host.Outcome.next (if_neg (by simp [allows.mpr may])))
  · obtain ⟨g, carries⟩ := Option.isSome_iff_exists.mp carried
    rw [show s.trm.entries[t].func = some g from carries] at does
    refine does.trans (congrArg Host.Outcome.next ((if_neg fun same => other ?_).trans (State.strike_status _ _ _ _)))
    rw [carries, same]
  · rw [show s.trm.entries[t].func = none from free] at does
    exact does.trans (congrArg Host.Outcome.next ((if_pos taken).trans (State.strike_status _ _ _ _)))
  · rw [show s.trm.entries[t].func = none from free] at does
    replace does := does.trans (congrArg Host.Outcome.next (if_neg (by simp [unbound])))
    obtain ⟨owner, new⟩ := State.bindNew_eq (s := u) (State.driveLaw_of_same law rfl rfl) unbound t c
    rw [new, ← bound_eq, entry_eq, State.status_bind] at does
    rw [← bound_eq] at owner
    refine ⟨fun negated => ?_, fun asserted e event => ⟨(bound.ownerBinds f).levelEffect f true, ?_, ?_⟩⟩
    · exact does.trans (congrArg (fun v => Host.Outcome.next (ok v)) (if_neg (Bool.eq_false_iff.mp negated)))
    · have unheard : bound.Unheard f := bound_eq ▸ u.boundNow_unheard t f c
      refine (State.unheard_owner unheard owner).exec_levelEvent ?_ event
      rw [← owner, State.touches_ownerBind bound f .partState (by decide), bound_eq, State.boundNow_partState]
      exact outside
    · exact does.trans (congrArg (fun v => Host.Outcome.next (ok v)) (if_pos asserted))
  · rw [show s.trm.entries[t].func = some f from carried] at does
    replace does := does.trans (congrArg Host.Outcome.next (if_pos rfl))
    obtain ⟨level, edge, none⟩ := State.rebind_eq (s := u) (t := t) carried c
    rw [← rebound_eq, entry_eq] at level
    rw [← rebound_eq] at edge none
    rw [State.status_bind] at does
    refine ⟨fun one moved e event => ⟨rebound.levelEffect f active, ?_, ?_⟩, fun two moved => ?_, fun still same => ?_⟩
    · have unheard : rebound.Unheard f := rebound_eq ▸ u.reboundNow_unheard t f c
      refine unheard.exec_levelEvent ?_ event
      rw [rebound_eq]
      exact (u.touches_flush f .partState (by decide)).trans_ne outside
    · rw [level (f.cls_eq_one_iff.mp one), if_neg (by exact moved)] at does
      exact does
    · rw [edge two, if_neg (by exact moved)] at does
      exact does
    · by_cases one : f.cls = 1
      · rw [level (f.cls_eq_one_iff.mp one), if_pos (by exact still one)] at does
        exact does
      · by_cases two : f.cls = 2
        · rw [edge two, if_pos (by exact same two)] at does
          exact does
        · rw [none (Bool.eq_false_iff.mpr fun on => one (f.cls_eq_one_iff.mpr on)) two] at does
          exact does

/-- Settles O30: the waiting events are `State.flush`, and each owner's part is read off its own operation
(`State.ownerUnbind_eq`). -/
theorem unbinding : Obligations.Unbinding := by
  intro terminal t s outside law raw cmd old ok u blank
  have bound := t.isLt
  have notRun (config : s.part.state = .config) : s.part.state ≠ .run := by rw [config]; decide
  refine ⟨fun run => ?_, fun config high => ?_, fun config free => ?_, fun config f carried => ?_⟩
  · rw [exec_unbind outside, if_pos run]
    exact congrArg Host.Outcome.next (State.strike_status _ _ _ _)
  · rw [exec_unbind outside, if_neg (notRun config), indexOf_none 48 terminal high]
    exact congrArg Host.Outcome.next (State.strike_status _ _ _ _)
  · rw [exec_unbind outside, if_neg (notRun config), indexOf_ofNat 48 t (by decide)]
    dsimp only
    rw [show s.trm.entries[t].func = none from free]
    exact congrArg Host.Outcome.next (State.status_unbind _)
  · have ready_eq : u.takesWaiting f = u.flush f := u.takesWaiting_eq f outside
    have does := exec_unbind outside (BitVec.ofNat 8 t.val)
    rw [if_neg (notRun config), indexOf_ofNat 48 t (by decide)] at does
    dsimp only at does
    rw [show s.trm.entries[t].func = some f from carried] at does
    dsimp only at does
    rw [State.status_unbind] at does
    have kept : (u.flush f).ddr.Full s.paired s.laid := State.full_flush (s := u) (s.driveLaw_iff_full.mp law) f
    have left (v : State) (weak : v.ddr.Weak s.paired s.laid) :
        ((v.ownerUnbind f).mapFunc f none).putTerminal t (terminalReset old.level) =
          (v.ownerUnbinds f).carries t blank f none := by
      rw [State.ownerUnbind_eq weak]
      rfl
    intro w
    have w_eq : w = u.flush f := ready_eq
    clear_value w
    subst w_eq
    refine ⟨fun negated => ?_, fun asserted e event => ⟨(u.flush f).levelEffect f false, ?_, ?_⟩⟩
    · rw [← left _ kept.1]
      refine does.trans (congrArg (fun v => Host.Outcome.next (ok (((State.ownerUnbind v f).mapFunc f none).putTerminal t
        (terminalReset old.level)))) ?_)
      exact if_neg (Bool.eq_false_iff.mp negated)
    · refine (u.unheard_flush f).exec_levelEvent ?_ event
      exact (u.touches_flush f .partState (by decide)).trans_ne outside
    · rw [← left _ (State.full_levelEffect kept f false).1]
      refine does.trans (congrArg (fun v => Host.Outcome.next (ok (((State.ownerUnbind v f).mapFunc f none).putTerminal t
        (terminalReset old.level)))) ?_)
      exact if_pos asserted

end Sys2Proof

/-! ### O28: every request is answered (R187 to R189) -/

namespace Sys2Proof.Machine

section Answers

variable {s u v w : State} {r : Req} {st : StatusCode}

/-- A request `r`, taken from `u`, has been answered in `v`; a refused one has done nothing else. -/
def State.Answered (u v : State) (r : Req) : Prop :=
  ∃ st data, v.link.busy = true ∧ v.link.reply = some ⟨r.code + 0x80#8, st.code :: data⟩ ∧
    (u.DriveLaw → data.length ≤ 55) ∧ (16 ≤ st.code.toNat → r ≠ .move → v = u.status r st)

/-- A request refused. -/
theorem State.answered_refused (u : State) (r : Req) (st : StatusCode) : u.Answered (u.status r st) r :=
  ⟨st, [], rfl, by rw [State.status_eq]; rfl, fun _ => Nat.zero_le _, fun _ _ => rfl⟩

/-- A request accepted, with a STATUS alone. -/
theorem State.answered_done (u w : State) (r : Req) (accepted : st.code.toNat < 16) : u.Answered (w.status r st) r :=
  ⟨st, [], rfl, by rw [State.status_eq]; rfl, fun _ => Nat.zero_le _, fun refused => absurd accepted (Nat.not_lt.mpr refused)⟩

theorem State.answered_ok (u w : State) (r : Req) : u.Answered (w.status r .ok) r := u.answered_done w r (by decide)

theorem State.answered_clamped (u w : State) (r : Req) (b : Bool) : u.Answered (w.status r (clampStatus b)) r :=
  u.answered_done w r (by cases b <;> decide)

/-- A read, with its data. -/
theorem State.answered_data (u w : State) (r : Req) {data : List Byte} (fits : u.DriveLaw → data.length ≤ 55) :
    u.Answered (w.answer r .ok data) r :=
  ⟨.ok, data, rfl, by simp only [State.answer, State.sendReply, replyKind_code], fits,
    fun refused => absurd refused (by decide)⟩

/-- A read of levels that the rules do not state. -/
theorem State.answered_spent (u w : State) (r : Req) (n : Nat) {data : List Byte} (fits : u.DriveLaw → data.length ≤ 55) :
    u.Answered ((w.answer r .ok data).spendFree n) r := by
  refine ⟨.ok, data, rfl, by simp only [State.spendFree, State.answer, State.sendReply, replyKind_code], fits,
    fun refused => absurd refused (by decide)⟩

/-- R98: a MOVE that the damper refuses has set its last result. -/
theorem State.answered_moved (u w : State) (st : StatusCode) : u.Answered (w.status .move st) .move :=
  ⟨st, [], rfl, by rw [State.status_eq]; rfl, fun _ => Nat.zero_le _, fun _ other => absurd rfl other⟩

theorem State.take_answers {c : Instr} {effect : State → State} (outside : s.part.state ≠ .init)
    (answered : (s.strike c).Answered (effect (s.strike c)) r) :
    ∃ v, s.take c effect = .next v ∧ (s.strike c).Answered v r := ⟨_, State.take_next s c effect outside, answered⟩

end Answers

section Lengths

/-- The bytes of a row of records that are each of one length. -/
theorem length_flatMap_of_each {α : Type} {f : α → List Byte} {k : Nat} (each : ∀ a, (f a).length = k) (l : List α) :
    (l.flatMap f).length = l.length * k := by
  rw [List.length_flatMap, List.map_congr_left (g := fun _ => k) fun a _ => each a, List.map_const', List.sum_replicate,
    smul_eq_mul]

theorem pageBytes_length (i : Instr) : (pageBytes i).length ≤ 18 := by
  unfold pageBytes
  cases i <;> simp [Instr.request?]

theorem State.bindingBytes_length (ts : List TerminalIx) : ∀ s : State, (s.bindingBytes ts).length = 4 * ts.length := by
  induction ts with
  | nil => exact fun _ => rfl
  | cons t ts ih =>
    intro s
    rw [State.bindingBytes, List.length_append, ih, List.length_cons, State.terminalBytes]
    simp only [List.length_cons, List.length_nil]
    omega

/-- R96: the queue holds an order for each damper at most. -/
theorem State.DriveLaw.queue_length {s : State} (law : s.DriveLaw) : s.ddr.queue.length ≤ 8 := by
  have once : (s.ddr.queue.map fun o => o.damper).Nodup := (s.driveLaw_iff_full.mp law).1.once
  have most := once.length_le_card
  simpa using most

end Lengths

section Requests

variable {s : State} (outside : s.part.state ≠ .init)
include outside

theorem execSetState_answered (b : Byte) :
    ∃ v, execSetState b s = .next v ∧ (s.strike (.setState b)).Answered v .setState := by
  refine State.take_answers outside ?_
  split
  · exact State.answered_refused _ _ _
  · split
    · exact State.answered_refused _ _ _
    · split
      · split
        · exact State.answered_refused _ _ _
        · exact State.answered_ok _ _ _
      · exact State.answered_ok _ _ _

theorem execLinkReset_answered : ∃ v, execLinkReset s = .next v ∧ (s.strike .linkReset).Answered v .linkReset :=
  State.take_answers outside (State.answered_ok _ _ _)

theorem execRetain_answered (b : Byte) : ∃ v, execRetain b s = .next v ∧ (s.strike (.retain b)).Answered v .retain := by
  refine State.take_answers outside ?_
  split
  · exact State.answered_refused _ _ _
  · exact State.answered_ok _ _ _

theorem execReadConfig_answered (b0 b1 : Byte) :
    ∃ v, execReadConfig b0 b1 s = .next v ∧ (s.strike (.readConfig b0 b1)).Answered v .readConfig := by
  refine State.take_answers outside ?_
  split
  · exact State.answered_refused _ _ _
  · next i _ =>
    have := pageBytes_length i
    exact State.answered_data _ _ _ fun _ => by simp only [List.length_cons]; omega

theorem execBind_answered (b0 b1 b2 b3 b4 : Byte) :
    ∃ v, execBind b0 b1 b2 b3 b4 s = .next v ∧ (s.strike (.bind b0 b1 b2 b3 b4)).Answered v .bind := by
  refine State.take_answers outside ?_
  split
  · split
    · exact State.answered_refused _ _ _
    · split
      · exact State.answered_refused _ _ _
      · split
        · split
          · exact State.answered_ok _ _ _
          · exact State.answered_refused _ _ _
        · split
          · exact State.answered_refused _ _ _
          · exact State.answered_ok _ _ _
  · exact State.answered_refused _ _ _

theorem execUnbind_answered (b : Byte) : ∃ v, execUnbind b s = .next v ∧ (s.strike (.unbind b)).Answered v .unbind := by
  refine State.take_answers outside ?_
  split
  · exact State.answered_refused _ _ _
  · split
    · exact State.answered_refused _ _ _
    · split
      · exact State.answered_ok _ _ _
      · exact State.answered_ok _ _ _

theorem execReadBinding_answered (b : Byte) :
    ∃ v, execReadBinding b s = .next v ∧ (s.strike (.readBinding b)).Answered v .readBinding := by
  refine State.take_answers outside ?_
  split
  · exact State.answered_refused _ _ _
  · next t _ =>
    refine State.answered_spent _ _ _ _ fun _ => ?_
    have most : (shownTerminals t).length ≤ 8 := List.length_take_le _ _
    rw [List.length_cons, State.bindingBytes_length]
    omega

theorem execSetChannel_answered (b0 : Byte) (h1 h2 h3 h4 h5 h6 h7 : Half) (b8 : Byte) :
    ∃ v, execSetChannel b0 h1 h2 h3 h4 h5 h6 h7 b8 s = .next v ∧
      (s.strike (.setChannel b0 h1 h2 h3 h4 h5 h6 h7 b8)).Answered v .setChannel := by
  refine State.take_answers outside ?_
  split
  · exact State.answered_refused _ _ _
  · split
    · exact State.answered_refused _ _ _
    · dsimp only
      split
      · exact State.answered_refused _ _ _
      · exact State.answered_clamped _ _ _ _

theorem execSetOverride_answered (b0 b1 : Byte) (h : Half) :
    ∃ v, execSetOverride b0 b1 h s = .next v ∧ (s.strike (.setOverride b0 b1 h)).Answered v .setOverride := by
  refine State.take_answers outside ?_
  split
  · dsimp only
    split
    · exact State.answered_refused _ _ _
    · split
      · exact State.answered_refused _ _ _
      · exact State.answered_ok _ _ _
  · exact State.answered_refused _ _ _

theorem execClearOverride_answered (b : Byte) :
    ∃ v, execClearOverride b s = .next v ∧ (s.strike (.clearOverride b)).Answered v .clearOverride := by
  refine State.take_answers outside ?_
  split
  · exact State.answered_refused _ _ _
  · exact State.answered_ok _ _ _

theorem execSetAssess_answered (b0 b1 b2 b3 : Byte) (h4 h5 h6 h7 h8 : Half) (b9 b10 : Byte) :
    ∃ v, execSetAssess b0 b1 b2 b3 h4 h5 h6 h7 h8 b9 b10 s = .next v ∧
      (s.strike (.setAssess b0 b1 b2 b3 h4 h5 h6 h7 h8 b9 b10)).Answered v .setAssess := by
  refine State.take_answers outside ?_
  split
  · exact State.answered_refused _ _ _
  · dsimp only
    split
    · exact State.answered_clamped _ _ _ _
    · exact State.answered_refused _ _ _

theorem execSetDirective_answered (b : Byte) :
    ∃ v, execSetDirective b s = .next v ∧ (s.strike (.setDirective b)).Answered v .setDirective := by
  refine State.take_answers outside ?_
  split
  · split
    · exact State.answered_refused _ _ _
    · split
      · exact State.answered_ok _ _ _
      · exact State.answered_ok _ _ _
  · exact State.answered_refused _ _ _

theorem execSetAdmission_answered (b0 b1 : Byte) (h2 h3 h4 h5 : Half) (b6 : Byte) :
    ∃ v, execSetAdmission b0 b1 h2 h3 h4 h5 b6 s = .next v ∧
      (s.strike (.setAdmission b0 b1 h2 h3 h4 h5 b6)).Answered v .setAdmission :=
  State.take_answers outside (State.answered_clamped _ _ _ _)

theorem execSetZone_answered (b0 b1 : Byte) (h : Half) :
    ∃ v, execSetZone b0 b1 h s = .next v ∧ (s.strike (.setZone b0 b1 h)).Answered v .setZone := by
  refine State.take_answers outside ?_
  split
  · exact State.answered_refused _ _ _
  · split
    · exact State.answered_refused _ _ _
    · exact State.answered_clamped _ _ _ _

theorem execSetZoneTuning_answered (h0 h1 : Half) (b2 : Byte) (h3 h4 h5 : Half) (b6 : Byte) (h7 : Half) :
    ∃ v, execSetZoneTuning h0 h1 b2 h3 h4 h5 b6 h7 s = .next v ∧
      (s.strike (.setZoneTuning h0 h1 b2 h3 h4 h5 b6 h7)).Answered v .setZoneTuning := by
  refine State.take_answers outside ?_
  dsimp only
  split
  · exact State.answered_refused _ _ _
  · exact State.answered_clamped _ _ _ _

theorem execSetCrew_answered (b0 b1 : Byte) :
    ∃ v, execSetCrew b0 b1 s = .next v ∧ (s.strike (.setCrew b0 b1)).Answered v .setCrew := by
  refine State.take_answers outside ?_
  split
  · exact State.answered_refused _ _ _
  · exact State.answered_clamped _ _ _ _

theorem execSetDefrost_answered (b : Byte) :
    ∃ v, execSetDefrost b s = .next v ∧ (s.strike (.setDefrost b)).Answered v .setDefrost := by
  refine State.take_answers outside ?_
  split
  · exact State.answered_refused _ _ _
  · exact State.answered_ok _ _ _

theorem execSetDamper_answered (b0 : Byte) (h1 h2 h3 : Half) (b4 : Byte) :
    ∃ v, execSetDamper b0 h1 h2 h3 b4 s = .next v ∧ (s.strike (.setDamper b0 h1 h2 h3 b4)).Answered v .setDamper := by
  refine State.take_answers outside ?_
  split
  · exact State.answered_refused _ _ _
  · split
    · exact State.answered_refused _ _ _
    · dsimp only
      split
      · exact State.answered_refused _ _ _
      · split
        · exact State.answered_refused _ _ _
        · exact State.answered_clamped _ _ _ _

theorem execMove_answered (b0 b1 b2 : Byte) :
    ∃ v, execMove b0 b1 b2 s = .next v ∧ (s.strike (.move b0 b1 b2)).Answered v .move := by
  refine State.take_answers outside ?_
  split
  · exact State.answered_moved _ _ _
  · split
    · exact State.answered_moved _ _ _
    · split
      · exact State.answered_moved _ _ _
      · dsimp only
        split <;> exact State.answered_moved _ _ _

theorem execRehome_answered (b : Byte) : ∃ v, execRehome b s = .next v ∧ (s.strike (.rehome b)).Answered v .rehome := by
  refine State.take_answers outside ?_
  split
  · exact State.answered_refused _ _ _
  · dsimp only
    split
    · exact State.answered_refused _ _ _
    · exact State.answered_ok _ _ _

theorem execLaneEnable_answered (b : Byte) :
    ∃ v, execLaneEnable b s = .next v ∧ (s.strike (.laneEnable b)).Answered v .laneEnable := by
  refine State.take_answers outside ?_
  split
  · exact State.answered_refused _ _ _
  · split
    · exact State.answered_refused _ _ _
    · exact State.answered_ok _ _ _

theorem execSetMover_answered (b0 b1 : Byte) (h2 h3 : Half) (b4 : Byte) (h5 : Half) (b6 : Byte) :
    ∃ v, execSetMover b0 b1 h2 h3 b4 h5 b6 s = .next v ∧
      (s.strike (.setMover b0 b1 h2 h3 b4 h5 b6)).Answered v .setMover := by
  refine State.take_answers outside ?_
  split
  · exact State.answered_refused _ _ _
  · exact State.answered_clamped _ _ _ _

theorem execSetPressure_answered (h0 : Half) (b1 b2 : Byte) (h3 : Half) :
    ∃ v, execSetPressure h0 b1 b2 h3 s = .next v ∧ (s.strike (.setPressure h0 b1 b2 h3)).Answered v .setPressure :=
  State.take_answers outside (State.answered_clamped _ _ _ _)

theorem execMoverRestart_answered (b : Byte) :
    ∃ v, execMoverRestart b s = .next v ∧ (s.strike (.moverRestart b)).Answered v .moverRestart := by
  refine State.take_answers outside ?_
  split
  · exact State.answered_refused _ _ _
  · dsimp only
    split
    · exact State.answered_ok _ _ _
    · exact State.answered_refused _ _ _

theorem execSetHeat_answered (h0 h1 : Half) (b2 b3 : Byte) (h4 h5 h6 h7 : Half) :
    ∃ v, execSetHeat h0 h1 b2 b3 h4 h5 h6 h7 s = .next v ∧
      (s.strike (.setHeat h0 h1 b2 b3 h4 h5 h6 h7)).Answered v .setHeat := by
  refine State.take_answers outside ?_
  dsimp only
  split
  · exact State.answered_refused _ _ _
  · exact State.answered_clamped _ _ _ _

theorem execAuxInhibit_answered (b : Byte) :
    ∃ v, execAuxInhibit b s = .next v ∧ (s.strike (.auxInhibit b)).Answered v .auxInhibit := by
  refine State.take_answers outside ?_
  split
  · exact State.answered_refused _ _ _
  · exact State.answered_ok _ _ _

theorem execAuxClearLock_answered : ∃ v, execAuxClearLock s = .next v ∧ (s.strike .auxClearLock).Answered v .auxClearLock := by
  refine State.take_answers outside ?_
  split
  · exact State.answered_ok _ _ _
  · exact State.answered_refused _ _ _

theorem execCollect_answered : ∃ v, execCollect s = .next v ∧ (s.strike .collect).Answered v .collect := by
  refine State.take_answers outside ?_
  split
  · exact State.answered_data _ _ _ fun _ => by decide
  · exact State.answered_data _ _ _ fun _ => by simp [halfBytes_length]

theorem execSetLevels_answered (levels : Vector Byte 16) :
    ∃ v, execSetLevels levels s = .next v ∧ (s.strike (.setLevels levels)).Answered v .setLevels := by
  refine State.take_answers outside ?_
  split
  · exact State.answered_refused _ _ _
  · exact State.answered_ok _ _ _

/-! #### The reads -/

theorem execReadIdent_answered : ∃ v, execReadIdent s = .next v ∧ (s.strike .readIdent).Answered v .readIdent :=
  State.take_answers outside (State.answered_data _ _ _ fun _ => by simp [partCode])

theorem execReadChannels_answered : ∃ v, execReadChannels s = .next v ∧ (s.strike .readChannels).Answered v .readChannels :=
  State.take_answers outside (State.answered_data _ _ _ fun _ => by
    rw [length_flatMap_of_each (k := 3) (fun _ => rfl), Vector.length_toList]
    decide)

theorem execReadAssess_answered : ∃ v, execReadAssess s = .next v ∧ (s.strike .readAssess).Answered v .readAssess :=
  State.take_answers outside (State.answered_data _ _ _ fun _ => by
    rw [length_flatMap_of_each (k := 12) (fun _ => rfl), Vector.length_toList]
    decide)

theorem execReadAdmission_answered :
    ∃ v, execReadAdmission s = .next v ∧ (s.strike .readAdmission).Answered v .readAdmission := by
  refine State.take_answers outside (State.answered_data _ _ _ fun _ => ?_)
  have purge (now : Time) (p : Option Purge) : (purgeBytes now p).length ≤ 10 := by
    rcases p with _ | ⟨_ | _, _⟩ <;> simp [purgeBytes, halfBytes_length]
  have := purge (s.strike .readAdmission).now (s.strike .readAdmission).shownAdm.purge
  simp only [Adm.bytes, List.length_append, List.length_cons, List.length_nil, halfBytes_length]
  omega

theorem execReadZones_answered : ∃ v, execReadZones s = .next v ∧ (s.strike .readZones).Answered v .readZones :=
  State.take_answers outside (State.answered_data _ _ _ fun _ => by
    rw [List.length_append, length_flatMap_of_each (k := 12) (fun _ => rfl), Vector.length_toList]
    simp)

theorem execReadDampers_answered : ∃ v, execReadDampers s = .next v ∧ (s.strike .readDampers).Answered v .readDampers :=
  State.take_answers outside (State.answered_data _ _ _ fun _ => by
    rw [List.length_append, length_flatMap_of_each (k := 6) (fun _ => rfl), length_flatMap_of_each (k := 3) (fun _ => rfl),
      Vector.length_toList]
    decide)

theorem execReadQueue_answered : ∃ v, execReadQueue s = .next v ∧ (s.strike .readQueue).Answered v .readQueue := by
  refine State.take_answers outside (State.answered_data _ _ _ fun law => ?_)
  have most := law.queue_length
  have each (o : QueuedOrder) : ((s.strike .readQueue).ddr.orderBytes o).length = 5 := by
    unfold Ddr.orderBytes
    dsimp only
    split <;> rfl
  rw [List.length_cons, length_flatMap_of_each each]
  omega

theorem execReadMovers_answered : ∃ v, execReadMovers s = .next v ∧ (s.strike .readMovers).Answered v .readMovers :=
  State.take_answers outside (State.answered_data _ _ _ fun _ => by
    simp only [List.length_append, length_flatMap_of_each (f := Mover.bytes) (k := 7) (fun _ => rfl), Vector.length_toList,
      halfBytesInt_length, List.length_cons, List.length_nil]
    decide)

theorem execReadHeat_answered : ∃ v, execReadHeat s = .next v ∧ (s.strike .readHeat).Answered v .readHeat :=
  State.take_answers outside (State.answered_data _ _ _ fun _ => by
    simp only [Heu.bytes, List.length_append, List.length_cons, List.length_nil, halfBytes_length, halfBytesInt_length]
    decide)

theorem execClearSources_answered (m : Half) :
    ∃ v, execClearSources m s = .next v ∧ (s.strike (.clearSources m)).Answered v .clear :=
  State.take_answers outside (State.answered_ok _ _ _)

theorem execAssertSources_answered (m : Half) :
    ∃ v, execAssertSources m s = .next v ∧ (s.strike (.assertSources m)).Answered v .assertMask :=
  State.take_answers outside (State.answered_ok _ _ _)

/-- R187: every request is answered. -/
theorem exec_answered (i : Instr) {rb : Req × List Byte} (request : rb ∈ i.request?) :
    ∃ v, exec i s = .next v ∧ (s.strike i).Answered v rb.1 := by
  cases i <;> cases request
  case setState b => exact execSetState_answered outside b
  case linkReset => exact execLinkReset_answered outside
  case retain b => exact execRetain_answered outside b
  case readIdent => exact execReadIdent_answered outside
  case readConfig b0 b1 => exact execReadConfig_answered outside b0 b1
  case bind b0 b1 b2 b3 b4 => exact execBind_answered outside b0 b1 b2 b3 b4
  case unbind b => exact execUnbind_answered outside b
  case readBinding b => exact execReadBinding_answered outside b
  case setChannel b0 h1 h2 h3 h4 h5 h6 h7 b8 => exact execSetChannel_answered outside b0 h1 h2 h3 h4 h5 h6 h7 b8
  case readChannels => exact execReadChannels_answered outside
  case setOverride b0 b1 h => exact execSetOverride_answered outside b0 b1 h
  case clearOverride b => exact execClearOverride_answered outside b
  case setAssess b0 b1 b2 b3 h4 h5 h6 h7 h8 b9 b10 =>
    exact execSetAssess_answered outside b0 b1 b2 b3 h4 h5 h6 h7 h8 b9 b10
  case readAssess => exact execReadAssess_answered outside
  case setDirective b => exact execSetDirective_answered outside b
  case setAdmission b0 b1 h2 h3 h4 h5 b6 => exact execSetAdmission_answered outside b0 b1 h2 h3 h4 h5 b6
  case readAdmission => exact execReadAdmission_answered outside
  case setZone b0 b1 h => exact execSetZone_answered outside b0 b1 h
  case setZoneTuning h0 h1 b2 h3 h4 h5 b6 h7 => exact execSetZoneTuning_answered outside h0 h1 b2 h3 h4 h5 b6 h7
  case setCrew b0 b1 => exact execSetCrew_answered outside b0 b1
  case setDefrost b => exact execSetDefrost_answered outside b
  case readZones => exact execReadZones_answered outside
  case setDamper b0 h1 h2 h3 b4 => exact execSetDamper_answered outside b0 h1 h2 h3 b4
  case move b0 b1 b2 => exact execMove_answered outside b0 b1 b2
  case rehome b => exact execRehome_answered outside b
  case laneEnable b => exact execLaneEnable_answered outside b
  case readDampers => exact execReadDampers_answered outside
  case readQueue => exact execReadQueue_answered outside
  case setMover b0 b1 h2 h3 b4 h5 b6 => exact execSetMover_answered outside b0 b1 h2 h3 b4 h5 b6
  case setPressure h0 b1 b2 h3 => exact execSetPressure_answered outside h0 b1 b2 h3
  case moverRestart b => exact execMoverRestart_answered outside b
  case readMovers => exact execReadMovers_answered outside
  case setHeat h0 h1 b2 b3 h4 h5 h6 h7 => exact execSetHeat_answered outside h0 h1 b2 b3 h4 h5 h6 h7
  case auxInhibit b => exact execAuxInhibit_answered outside b
  case auxClearLock => exact execAuxClearLock_answered outside
  case readHeat => exact execReadHeat_answered outside
  case collect => exact execCollect_answered outside
  case clearSources m => exact execClearSources_answered outside m
  case assertSources m => exact execAssertSources_answered outside m
  case setLevels levels => exact execSetLevels_answered outside levels

end Requests

end Sys2Proof.Machine

namespace Sys2Proof
open Sys2Proof.Machine

/-- Settles O28: each request's own meaning answers it (`exec_answered`), and the reply goes out as one frame. -/
theorem requestsAreAnswered : Obligations.RequestsAreAnswered := by
  intro i s outside rb request
  obtain ⟨t, runs, st, data, busy, reply, fits, refused⟩ := exec_answered outside i request
  refine ⟨t, runs, busy, _, reply, rfl, nofun, ?_, fun law => ?_, fun status first high other => ?_⟩
  · show t.link.reply.map Reply.frame = _
    rw [reply]
    rfl
  · have := fits (State.driveLaw_of_same law rfl rfl)
    simp only [List.length_cons]
    omega
  · cases first
    exact (refused high other).trans (State.strike_status s i rb.1 st)

end Sys2Proof

/-! ### Leaving RUN and the link reset, block by block (R179, R180): each block changes its own records and hands what it
tells, whatever the others have done before it -/

namespace Sys2Proof.Machine

section Blend

variable {s g : State}

/-- The blocks of `done` have taken their part-wide event, at which `g` holds what each leaves; the others have not. -/
def State.blend (s g : State) (done : List Block) (news : List Instr) : State :=
  { s with
    sns := if .sns ∈ done then g.sns else s.sns
    asr := if .asr ∈ done then g.asr else s.asr
    adm := if .adm ∈ done then g.adm else s.adm
    zon := if .zon ∈ done then g.zon else s.zon
    ddr := if .ddr ∈ done then g.ddr else s.ddr
    mov := if .mov ∈ done then g.mov else s.mov
    heu := if .heu ∈ done then g.heu else s.heu
    atn :=
      { sources := if .atn ∈ done then g.atn.sources else s.atn.sources
        attn := if .atn ∈ done then g.atn.attn else s.atn.attn
        fault := if .adm ∈ done then false else s.atn.fault }
    handed := s.handed ++ news }

theorem State.blend_nil (s g : State) : s.blend g [] [] = s := by
  simp [State.blend]

theorem State.blend_all {done : List Block} (all : ∀ b, b ∈ done) (news : List Instr) :
    s.blend g done news = { s with
      sns := g.sns, asr := g.asr, adm := g.adm, zon := g.zon, ddr := g.ddr, mov := g.mov, heu := g.heu
      atn := { sources := g.atn.sources, attn := g.atn.attn, fault := false }, handed := s.handed ++ news } := by
  simp only [State.blend, all, if_true]

/-- A part-wide event, block after block in any order. -/
theorem State.foldl_blend {step : State → Block → State} {news : Block → List Instr}
    (each : ∀ b done h, b ∉ done → step (s.blend g done h) b = s.blend g (b :: done) (h ++ news b)) (l : List Block) :
    ∀ done h, l.Nodup → (∀ b ∈ l, b ∉ done) →
      ∃ all, (∀ b, b ∈ all ↔ b ∈ l ∨ b ∈ done) ∧
        l.foldl step (s.blend g done h) = s.blend g all (h ++ l.flatMap news) := by
  induction l with
  | nil => exact fun done h _ _ => ⟨done, by simp, by simp⟩
  | cons b l ih =>
    intro done h once fresh
    obtain ⟨other, once⟩ := List.nodup_cons.mp once
    obtain ⟨all, mem, run⟩ := ih (b :: done) (h ++ news b) once fun c hc here => by
      rcases List.mem_cons.mp here with rfl | before
      · exact other hc
      · exact fresh c (List.mem_cons_of_mem b hc) before
    refine ⟨all, fun c => (mem c).trans ?_, ?_⟩
    · simp only [List.mem_cons]
      tauto
    · rw [List.foldl_cons, each b done h (fresh b List.mem_cons_self), run, List.flatMap_cons, List.append_assoc]

theorem State.foldl_complete {step : State → Block → State} {news : Block → List Instr} {order : List Block}
    (each : ∀ b done h, b ∉ done → step (s.blend g done h) b = s.blend g (b :: done) (h ++ news b))
    (complete : order.Perm blockOrderReset) :
    order.foldl step s = { s with
      sns := g.sns, asr := g.asr, adm := g.adm, zon := g.zon, ddr := g.ddr, mov := g.mov, heu := g.heu
      atn := { sources := g.atn.sources, attn := g.atn.attn, fault := false }, handed := s.handed ++ order.flatMap news } ∧
    (order.flatMap news).Perm (blockOrderReset.flatMap news) := by
  have every (b : Block) : b ∈ order := complete.mem_iff.mpr (by cases b <;> decide)
  obtain ⟨all, mem, run⟩ := State.foldl_blend each order [] [] (complete.nodup_iff.mpr (by decide)) fun _ _ => List.not_mem_nil
  refine ⟨?_, complete.flatMap_right _⟩
  rw [State.blend_nil, State.blend_all fun b => (mem b).mpr (.inl (every b))] at run
  exact run

end Blend

section Leave

variable {s g : State}

/-- What ADM tells MOV where it leaves RUN. -/
def Adm.farewell (a : Adm) : List Instr :=
  if a.picture = ⟨.inactive, false, none⟩ then [] else [.admissionReport ⟨.inactive, false, none⟩]

theorem State.admLeaveRun_eq (s : State) :
    s.admLeaveRun = { s with
      adm := s.adm.leave, atn := { s.atn with fault := false }, handed := s.handed ++ s.adm.farewell } := by
  unfold State.admLeaveRun State.handPicture Adm.farewell
  have rests : s.adm.leave.picture = ⟨.inactive, false, none⟩ := rfl
  by_cases same : s.adm.picture = ⟨.inactive, false, none⟩
  · have noPurge : s.adm.purge.isSome = false := by
      have purge : (s.adm.purge.map fun p => p.route) = none := congrArg Picture.purge same
      rw [Option.map_eq_none_iff.mp purge]
      rfl
    rw [if_pos ⟨by rw [same]; exact rests, noPurge⟩, if_pos same, List.append_nil]
    rfl
  · rw [if_neg fun h => same (h.1.symm.trans rests), if_neg same]
    rfl

end Leave

/-! #### DDR -/

section Drive

variable {r v : Ddr} {w : Work}

/-- What DDR tells ADM of the records that it leaves. -/
def Ddr.farewell (r v : Ddr) : List Instr :=
  ((List.finRange 8).flatMap fun d => damperNews d r.dampers[d] v.dampers[d]) ++
  (List.finRange 2).flatMap fun l =>
    if r.lanes[l].state = v.lanes[l].state then [] else [.damperStateReport (.lane l v.lanes[l].state)]

/-- A unit's state is another in `v`. -/
def Ddr.moves (r v : Ddr) : DriveUnit → Bool
  | .damper d => decide (r.dampers[d].state ≠ v.dampers[d].state)
  | .lane l => decide (r.lanes[l].state ≠ v.lanes[l].state)

/-- The dampers and the lanes. -/
def allUnits : List DriveUnit := (List.finRange 8).map .damper ++ (List.finRange 2).map .lane

theorem mem_allUnits (u : DriveUnit) : u ∈ allUnits := by
  cases u <;> simp [allUnits]

theorem flatMap_filter_eq {α β : Type} (p : α → Bool) (f : α → List β) (l : List α) :
    (l.filter p).flatMap f = l.flatMap fun a => if p a then f a else [] := by
  induction l with
  | nil => rfl
  | cons a l ih => by_cases holds : p a = true <;> simp [holds, ih]

theorem Ddr.farewell_eq (r v : Ddr) : r.farewell v = (allUnits.filter (r.moves v)).flatMap v.reportOf := by
  rw [flatMap_filter_eq, allUnits, List.flatMap_append, List.flatMap_map, List.flatMap_map, Ddr.farewell]
  refine congrArg₂ _ (List.flatMap_congr fun d _ => ?_) (List.flatMap_congr fun l _ => ?_)
  · unfold damperNews
    rw [← ite_not]
    exact if_congr (by simp [Ddr.moves]) rfl rfl
  · rw [← ite_not]
    exact if_congr (by simp [Ddr.moves]) rfl rfl

/-- R110: one report for each unit whose state has changed, in an order that the records do not give. -/
theorem Work.news_perm (moved : ∀ u, u ∈ w.changed ↔ r.moves w.ddr u = true) : w.news.Perm (r.farewell w.ddr) := by
  rw [Ddr.farewell_eq]
  refine List.Perm.flatMap_right _ ((List.perm_ext_iff_of_nodup (List.nodup_dedup _) ?_).mpr fun u => ?_)
  · exact List.Nodup.filter _ (by decide)
  · rw [List.mem_dedup, moved, List.mem_filter]
    exact (and_iff_right (mem_allUnits u)).symm

theorem DriveUnit.mem_ifMoved {α : Type} [DecidableEq α] {u x : DriveUnit} {new old : α} :
    x ∈ u.ifMoved new old ↔ x = u ∧ new ≠ old := by
  unfold DriveUnit.ifMoved
  split
  · next same => simp [same]
  · next other => simp [other]

theorem Ddr.moves_iff (r v : Ddr) (u : DriveUnit) :
    (∃ d, u = .damper d ∧ v.dampers[d].state ≠ r.dampers[d].state) ∨
      (∃ l, u = .lane l ∧ v.lanes[l].state ≠ r.lanes[l].state) ↔ r.moves v u = true := by
  cases u with
  | damper d =>
    simp only [Ddr.moves, decide_eq_true_eq, reduceCtorEq, false_and, exists_false, or_false, DriveUnit.damper.injEq,
      exists_eq_left']
    exact ne_comm
  | lane l =>
    simp only [Ddr.moves, decide_eq_true_eq, reduceCtorEq, false_and, exists_false, false_or, DriveUnit.lane.injEq,
      exists_eq_left']
    exact ne_comm

theorem Damper.leave_eq (c : Damper) (o : Option QueuedOrder) : c.leave o = c.stopped o := by
  unfold Damper.leave Damper.stopped
  cases state : c.state <;> dsimp only
  case waiting =>
    cases o with
    | none => simp [Damper.cleared, state]
    | some x => cases goal : x.goal <;> simp [Damper.cleared, goal, Goal.isHome]
  case settling => cases lane : c.lane <;> simp [Damper.cleared]
  case moving => rfl
  all_goals simp [Damper.cleared, state]

theorem Damper.settleSettings_eq (c : Damper) : c.settleSettings damperDefaults = c.defaulted := by
  unfold Damper.settleSettings Damper.defaulted
  refine if_congr (and_congr_right fun _ => ?_) rfl rfl
  rw [not_and_or, eq_comm, eq_comm (a := c.settings.homeOpen)]

/-- R119: what leaving RUN leaves of DDR, its changes being those of `Ddr.moves`. -/
theorem Work.leaveRun_left (fresh : w.changed = []) :
    (w.leaveRun.now = w.now ∧ w.leaveRun.free = w.free ∧ w.leaveRun.alarms = w.alarms) ∧
    (w.leaveRun.ddr.queue = [] ∧ w.leaveRun.ddr.seq = 0) ∧
    (∀ d : DamperIx, w.leaveRun.ddr.dampers[d] = w.ddr.dampers[d].stopped (w.ddr.queuedOrder d)) ∧
    (∀ l : LaneIx, w.leaveRun.ddr.lanes[l] = w.ddr.lanes[l].released) ∧
    ∀ u, u ∈ w.leaveRun.changed ↔ w.ddr.moves w.leaveRun.ddr u = true := by
  obtain ⟨ds, ls, run, dampers, lanes⟩ := w.leaveRun_eq
  have damper (d : DamperIx) : ds[d] = w.ddr.dampers[d].stopped (w.ddr.queuedOrder d) :=
    (dampers d).trans (Damper.leave_eq _ _)
  rw [run]
  refine ⟨⟨rfl, rfl, rfl⟩, ⟨rfl, rfl⟩, damper, lanes, fun u => ?_⟩
  simp only [fresh, List.nil_append, List.mem_append, List.mem_flatMap, DriveUnit.mem_ifMoved, allDampers, allLanes,
    List.mem_finRange, true_and]
  rw [← Ddr.moves_iff]
  simp only [dampers, lanes]
  rfl

/-- R119: a damper's state after the settings have come to their defaults is what it was only where nothing has changed. -/
theorem Damper.stopped_defaulted_state (c : Damper) (o : Option QueuedOrder) :
    (c.stopped o).defaulted.state = c.state → (c.stopped o).state = c.state := by
  unfold Damper.defaulted
  split
  · next idle =>
    intro unhomed
    have was : c.state = .unhomed := unhomed.symm
    have still : (c.stopped o).state = .unhomed := by simp [Damper.stopped, was]
    rw [still] at idle
    cases idle.1
  · exact id

/-- R119: what a link reset leaves of DDR. -/
theorem Work.linkReset_left (retain : Bool) (fresh : w.changed = []) :
    ((w.linkReset retain).now = w.now ∧ (w.linkReset retain).free = w.free ∧ (w.linkReset retain).alarms = w.alarms) ∧
    ((w.linkReset retain).ddr.queue = [] ∧ (w.linkReset retain).ddr.seq = 0) ∧
    (∀ d : DamperIx, (w.linkReset retain).ddr.dampers[d] =
      if retain then w.ddr.dampers[d].stopped (w.ddr.queuedOrder d)
      else (w.ddr.dampers[d].stopped (w.ddr.queuedOrder d)).defaulted) ∧
    (∀ l : LaneIx, (w.linkReset retain).ddr.lanes[l] = w.ddr.lanes[l].released) ∧
    ∀ u, u ∈ (w.linkReset retain).changed ↔ w.ddr.moves (w.linkReset retain).ddr u = true := by
  obtain ⟨kept, queue, dampers, lanes, changed⟩ := Work.leaveRun_left fresh
  cases retain with
  | true => exact ⟨kept, queue, dampers, lanes, changed⟩
  | false =>
    obtain ⟨ds, run, each⟩ := foldl_putDamper (fun _ _ c => c.settleSettings damperDefaults) (List.nodup_finRange 8) w.leaveRun
    have reset : w.linkReset false = _ := run
    have damper (d : DamperIx) : ds[d] = (w.ddr.dampers[d].stopped (w.ddr.queuedOrder d)).defaulted := by
      rw [each d, if_pos (List.mem_finRange d), Damper.settleSettings_eq]
      exact congrArg Damper.defaulted (dampers d)
    rw [reset]
    refine ⟨kept, queue, fun d => (damper d).trans (if_neg Bool.false_ne_true).symm, lanes, fun u => ?_⟩
    simp only [List.mem_append, changed, List.mem_flatMap, List.mem_finRange, true_and, DriveUnit.mem_ifMoved]
    cases u with
    | lane l => simp [Ddr.moves]
    | damper d =>
      have back := Damper.stopped_defaulted_state w.ddr.dampers[d] (w.ddr.queuedOrder d)
      have before : w.leaveRun.damper d = w.ddr.dampers[d].stopped (w.ddr.queuedOrder d) := dampers d
      simp only [Ddr.moves, decide_eq_true_eq, DriveUnit.damper.injEq, exists_eq_left', before, dampers, damper,
        Damper.settleSettings_eq]
      generalize (w.ddr.dampers[d].stopped (w.ddr.queuedOrder d)).defaulted.state = final at back ⊢
      generalize (w.ddr.dampers[d].stopped (w.ddr.queuedOrder d)).state = left at back ⊢
      generalize w.ddr.dampers[d].state = was at back ⊢
      refine ⟨fun moved same => ?_, fun other => ?_⟩
      · have still := back same.symm
        rcases moved with moved | moved
        · exact moved still.symm
        · exact moved (same.symm.trans still.symm)
      · by_cases still : was = left
        · exact .inr fun same => other (still.trans same.symm)
        · exact .inl still

end Drive

/-! #### The blocks -/

section Blocks

variable {s g : State}

theorem State.drive_leaveRun (s : State) :
    s.drive Work.leaveRun = { s with ddr := s.work.leaveRun.ddr, handed := s.handed ++ s.work.leaveRun.news } := by
  obtain ⟨⟨-, free, alarms⟩, -⟩ := Work.leaveRun_left (w := s.work) rfl
  have quiet : s.work.leaveRun.alarms = [] := alarms
  have same : s.work.leaveRun.free = s.free := free
  rw [State.drive_worked (f := Work.leaveRun) quiet, State.worked, same]

theorem State.drive_linkReset (s : State) (retain : Bool) :
    (s.drive fun w => w.linkReset retain) =
      { s with ddr := (s.work.linkReset retain).ddr, handed := s.handed ++ (s.work.linkReset retain).news } := by
  obtain ⟨⟨-, free, alarms⟩, -⟩ := Work.linkReset_left (w := s.work) retain rfl
  have quiet : (s.work.linkReset retain).alarms = [] := alarms
  have same : (s.work.linkReset retain).free = s.free := free
  rw [State.drive_worked (f := fun w => w.linkReset retain) quiet, State.worked, same]

/-- What a block hands where it leaves RUN. -/
def State.leavingNews (s : State) (b : Block) : List Instr :=
  match b with
  | .adm => s.adm.farewell
  | .zon => outputEvents s.zon.out zonOutputsZero
  | .ddr => s.work.leaveRun.news
  | .sns | .asr | .mov | .heu | .atn => []

/-- The records of every block outside RUN. -/
def State.left (s : State) : State :=
  { s with
    adm := s.adm.leave
    zon := { s.zon with zones := tableMap Zone.leave s.zon.zones, orderedDefrost := none, out := zonOutputsZero }
    ddr := s.work.leaveRun.ddr
    mov := { s.mov with
      movers := tableMap Mover.leave s.mov.movers, loop := s.mov.loop.leave, picture := pictureNone, front := 0, rear := 0 }
    heu := s.heu.leave s.now }

/-- R179: a block leaves RUN in the same way whatever the others have done. -/
theorem State.leaveBlock_blend (b : Block) (done : List Block) (h : List Instr) (fresh : b ∉ done) :
    (s.blend s.left done h).leaveBlock b = s.blend s.left (b :: done) (h ++ s.leavingNews b) := by
  have other (c : Block) : c ∈ b :: done ↔ c = b ∨ c ∈ done := List.mem_cons
  cases b with
  | adm =>
    show (s.blend s.left done h).admLeaveRun = _
    rw [State.admLeaveRun_eq]
    simp only [State.blend, State.left, State.leavingNews, fresh, other, reduceCtorEq, false_or, true_or, if_true, if_false,
      List.append_assoc]
  | zon =>
    show (State.setOutputs { s.blend s.left done h with zon := _ } zonOutputsZero) = _
    rw [State.setOutputs_eq]
    simp only [State.blend, State.left, State.leavingNews, fresh, other, reduceCtorEq, false_or, true_or, if_true, if_false,
      List.append_assoc]
  | ddr =>
    have work : (s.blend s.left done h).work = s.work := State.work_congr (if_neg fresh) rfl rfl
    show (s.blend s.left done h).drive Work.leaveRun = _
    rw [State.drive_leaveRun, work]
    simp only [State.blend, State.left, State.leavingNews, other, reduceCtorEq, false_or, true_or, if_true, List.append_assoc]
  | mov =>
    show (s.blend s.left done h).movLeaveRun = _
    simp only [State.movLeaveRun, State.blend, State.left, State.leavingNews, fresh, other, reduceCtorEq, false_or, true_or,
      if_true, if_false, List.append_nil]
  | heu =>
    show (s.blend s.left done h).putHeu _ = _
    simp only [State.putHeu, State.blend, State.left, State.leavingNews, fresh, other, reduceCtorEq, false_or, true_or,
      if_true, if_false, List.append_nil]
  | sns | asr | atn =>
    show s.blend s.left done h = _
    simp only [State.blend, State.left, State.leavingNews, other, reduceCtorEq, false_or, List.append_nil, ite_self]

end Blocks

end Sys2Proof.Machine

/-! ### O18: leaving RUN -/

namespace Sys2Proof.Machine

section Rested

theorem Mover.leave_eq (r : Mover) : r.leave = r.rested := by
  unfold Mover.leave Mover.rested
  cases r.state <;> simp

theorem Heu.leave_eq (h : Heu) (now : Time) : h.leave now = h.rested now := by
  unfold Heu.leave Heu.rested Heu.closeValve
  cases state : h.heater.state <;> simp [state, Heu.coolDown_eq, Heu.cooling]

/-- An empty queue and a counter at 0. -/
theorem Ddr.eq_of_empty {r : Ddr} (queue : r.queue = []) (seq : r.seq = 0) :
    r = { dampers := r.dampers, lanes := r.lanes, queue := [], seq := 0 } := by
  rw [← queue, ← seq]

/-- A state by two of its records. -/
theorem State.eq_with {v : State} {r : Ddr} {h : Heu} (ddr : v.ddr = r) (heu : v.heu = h) :
    v = { v with ddr := r, heu := h } := by
  rw [← ddr, ← heu]

theorem outputEvents_eq (old new : ZonOutputs) : outputEvents old new = zonNews old new := rfl

variable {s : State}

/-- What the blocks hand where they leave RUN. -/
theorem State.leavingNews_perm (s t : State) (ddr : t.ddr = s.work.leaveRun.ddr) :
    (blockOrderReset.flatMap s.leavingNews).Perm (s.restNews t) := by
  obtain ⟨-, -, -, -, moved⟩ := Work.leaveRun_left (w := s.work) rfl
  have told : s.work.leaveRun.news.Perm (s.ddr.farewell t.ddr) := ddr ▸ Work.news_perm moved
  have order : blockOrderReset.flatMap s.leavingNews =
      (s.adm.farewell ++ outputEvents s.zon.out zonOutputsZero) ++ s.work.leaveRun.news := by
    simp [blockOrderReset, State.leavingNews]
  rw [order]
  refine (told.append_left _).trans (.of_eq ?_)
  rw [outputEvents_eq, Ddr.farewell, ← List.append_assoc]
  rfl

/-- R179: the part leaves RUN. -/
theorem State.leaveRun_left (complete : s.BlocksComplete) :
    ∃ news, s.leaveRun =
        { (s.setPart .config).left with
          atn := { s.atn with fault := false }, handed := s.handed ++ news } ∧
      news.Perm (blockOrderReset.flatMap (s.setPart .config).leavingNews) := by
  obtain ⟨run, perm⟩ := State.foldl_complete (s := s.setPart .config) (g := (s.setPart .config).left)
    State.leaveBlock_blend complete
  exact ⟨_, run, perm⟩

end Rested

end Sys2Proof.Machine

namespace Sys2Proof
open Sys2Proof.Machine

/-- Settles O18: every block leaves RUN in the same way whatever the others have done (`State.leaveBlock_blend`), so the
order of the blocks shows in the order of what they hand alone. -/
theorem leavingRun : Obligations.LeavingRun := by
  intro s run complete
  let u : State := (s.strike (.setState 0#8)).setPart .config
  obtain ⟨news, left, perm⟩ := State.leaveRun_left (s := s.strike (.setState 0#8)) complete
  have taken : exec (.setState 0#8) s = .next ((s.strike (.setState 0#8)).leaveRun.acknowledged 0x81#8 0#8) := by
    show execSetState 0#8 s = _
    rw [execSetState, State.take_next _ _ _ (by rw [run]; decide)]
    refine congrArg Host.Outcome.next ?_
    have other : ¬ PartState.config = s.part.state := by rw [run]; decide
    exact (if_neg other).trans ((if_neg (by decide)).trans (State.status_eq _ _ _))
  obtain ⟨-, ⟨queue, seq⟩, dampers, lanes, -⟩ := Work.leaveRun_left (w := u.work) rfl
  rw [left] at taken
  refine ⟨_, taken, ?_, fun z => ?_, dampers, lanes, fun m => ?_, ?_⟩
  · exact State.eq_with (Ddr.eq_of_empty queue seq) (Heu.leave_eq s.heu s.now)
  · exact tableMap_getElem _ _ _ _
  · exact (tableMap_getElem _ _ _ _).trans (Mover.leave_eq _)
  · exact (perm.trans (State.leavingNews_perm u _ rfl)).append_left _

end Sys2Proof

/-! ### The link reset of SNS, ASR and ATN, record by record (R23, R41, R177) -/

namespace Sys2Proof.Machine

section Tables

/-- The entries of a table replaced one after another, each by what it is itself. -/
theorem foldl_set_getElem {α : Type} {n : Nat} (f : Fin n → α → α) {ds : List (Fin n)} (once : ds.Nodup) :
    ∀ (v : Vector α n) (e : Fin n),
      (ds.foldl (fun u d => u.set d (f d u[d])) v)[e] = if e ∈ ds then f e v[e] else v[e] := by
  induction ds with
  | nil => exact fun _ _ => rfl
  | cons d ds ih =>
    intro v e
    obtain ⟨fresh, once⟩ := List.nodup_cons.mp once
    rw [List.foldl_cons, ih once, getElem_set_ite]
    by_cases same : d = e
    · subst same
      rw [if_neg fresh, if_pos rfl, if_pos List.mem_cons_self]
    · rw [if_neg same]
      exact if_congr (by simp [Ne.symm same]) rfl rfl

end Tables

section Sensors

variable {s : State} {now : Time}

/-! #### The settings to their defaults -/

/-- Channels with their settings at their defaults, one after another. -/
def settledChannels (chs : List ChannelIx) (v : Vector Channel 15) : Vector Channel 15 :=
  chs.foldl (fun u (ch : ChannelIx) => u.set ch (u[ch].settle (channelDefaults ch))) v

theorem settledChannels_getElem {chs : List ChannelIx} (once : chs.Nodup) (v : Vector Channel 15) (ch : ChannelIx) :
    (settledChannels chs v)[ch] = if ch ∈ chs then v[ch].settle (channelDefaults ch) else v[ch] :=
  foldl_set_getElem (fun (ch : ChannelIx) (c : Channel) => c.settle (channelDefaults ch)) once v ch

/-- The channels with their settings at their defaults. -/
def Sns.defaulted (v : Sns) : Sns := { v with channels := settledChannels allChannels v.channels }

/-- A FAILED channel whose failsafe value changes reports it. -/
def Sns.defaultNews (v : Sns) (ch : ChannelIx) : List Instr :=
  if v.channels[ch].state = .failed ∧ v.channels[ch].settings.failsafe ≠ (channelDefaults ch).failsafe then
    (reportEvent ch .failed (channelDefaults ch).failsafe).toList
  else []

theorem State.settleChannel_step (s : State) (ch : ChannelIx) :
    s.settleChannel ch (channelDefaults ch) =
      { s with
        sns := { s.sns with channels := s.sns.channels.set ch (s.sns.channels[ch].settle (channelDefaults ch)) }
        handed := s.handed ++ s.sns.defaultNews ch } := by
  have bound := ch.isLt
  rw [State.settleChannel_eq, Sns.defaultNews, Channel.settle]
  by_cases failed : s.sns.channels[ch].state = .failed
  · rw [if_pos failed, if_pos failed]
    by_cases same : s.sns.channels[ch].settings.failsafe = (channelDefaults ch).failsafe
    · rw [if_pos same, if_neg fun h => h.2 same, List.append_nil]
      rfl
    · rw [if_neg same, if_pos ⟨failed, same⟩]
      simp only [State.channelReports, failed]
  · rw [if_neg failed, if_neg failed, if_neg fun h => failed h.1, List.append_nil]
    rfl

theorem State.foldl_settleChannel {chs : List ChannelIx} (once : chs.Nodup) :
    ∀ s : State, chs.foldl (fun t ch => t.settleChannel ch (channelDefaults ch)) s =
      { s with
        sns := { s.sns with channels := settledChannels chs s.sns.channels }
        handed := s.handed ++ chs.flatMap s.sns.defaultNews } := by
  induction chs with
  | nil => intro s; simp [settledChannels]
  | cons ch chs ih =>
    intro s
    obtain ⟨fresh, once⟩ := List.nodup_cons.mp once
    rw [List.foldl_cons, ih once, State.settleChannel_step]
    have news : chs.flatMap (Sns.defaultNews { s.sns with
          channels := s.sns.channels.set ch (s.sns.channels[ch].settle (channelDefaults ch)) }) =
        chs.flatMap s.sns.defaultNews := List.flatMap_congr fun k mem => by
      have other : ch ≠ k := fun same => fresh (same ▸ mem)
      simp only [Sns.defaultNews, getElem_set_ite, if_neg other]
    simp only [news, settledChannels, List.foldl_cons, List.flatMap_cons, List.append_assoc]

/-! #### The overrides released -/

/-- An override released. -/
def Sns.released (v : Sns) (now : Time) (i : SlotIx) : Sns :=
  match v.slots[i] with
  | none => v
  | some o =>
    { slots := v.slots.set i none, channels := v.channels.set o.channel (v.channels[o.channel].releasedFrom now o.value) }

/-- The report of the channel that an override names, where it is released. -/
def Sns.releaseNews (v : Sns) (i : SlotIx) : List Instr :=
  (v.slots[i].map fun o => (reportEvent o.channel .held o.value).toList).getD []

theorem State.releaseSlot_step (s : State) (i : SlotIx) :
    s.releaseSlot i = { s with sns := s.sns.released s.now i, handed := s.handed ++ s.sns.releaseNews i } := by
  unfold Sns.released Sns.releaseNews
  cases slot : s.sns.slots[i] with
  | none =>
    rw [s.releaseSlot_none slot]
    simp
  | some o =>
    rw [s.releaseSlot_some slot]
    rfl

theorem Sns.released_slots (v : Sns) (i j : SlotIx) :
    (v.released now i).slots[j] = if i = j then none else v.slots[j] := by
  unfold Sns.released
  cases slot : v.slots[i] with
  | none =>
    dsimp only
    split
    · next same => rw [← same, slot]
    · rfl
  | some o => exact getElem_set_ite _ _ _ _

theorem State.foldl_releaseSlot {is : List SlotIx} (once : is.Nodup) :
    ∀ s : State, is.foldl (fun t i => t.releaseSlot i) s =
      { s with
        sns := is.foldl (fun v i => v.released s.now i) s.sns, handed := s.handed ++ is.flatMap s.sns.releaseNews } := by
  induction is with
  | nil => intro s; simp
  | cons i is ih =>
    intro s
    obtain ⟨fresh, once⟩ := List.nodup_cons.mp once
    rw [List.foldl_cons, ih once, State.releaseSlot_step]
    have news : is.flatMap (s.sns.released s.now i).releaseNews = is.flatMap s.sns.releaseNews :=
      List.flatMap_congr fun k mem => by
        have other : i ≠ k := fun same => fresh (same ▸ mem)
        simp only [Sns.releaseNews, Sns.released_slots, if_neg other]
    simp only [news, List.foldl_cons, List.flatMap_cons, List.append_assoc]

theorem Sns.foldl_released_slots (is : List SlotIx) :
    ∀ (v : Sns) (j : SlotIx),
      (is.foldl (fun v i => v.released now i) v).slots[j] = if j ∈ is then none else v.slots[j] := by
  induction is with
  | nil => exact fun _ _ => rfl
  | cons i is ih =>
    intro v j
    rw [List.foldl_cons, ih, Sns.released_slots]
    by_cases later : j ∈ is
    · rw [if_pos later, if_pos (List.mem_cons_of_mem i later)]
    · rw [if_neg later]
      exact if_congr (by simp [later, eq_comm]) rfl rfl

/-- A channel that the slot does not name. -/
theorem Sns.released_other (v : Sns) {i : SlotIx} {ch : ChannelIx} (other : ∀ o ∈ v.slots[i], o.channel ≠ ch) :
    (v.released now i).channels[ch] = v.channels[ch] := by
  unfold Sns.released
  cases slot : v.slots[i] with
  | none => rfl
  | some o => exact (getElem_set_ite _ _ _ _).trans (if_neg (other o slot))

theorem Sns.foldl_released_other {ch : ChannelIx} (is : List SlotIx) :
    ∀ v : Sns, (∀ i : SlotIx, ∀ o ∈ v.slots[i], o.channel ≠ ch) →
      (is.foldl (fun v i => v.released now i) v).channels[ch] = v.channels[ch] := by
  induction is with
  | nil => exact fun _ _ => rfl
  | cons i is ih =>
    intro v other
    rw [List.foldl_cons, ih _ fun j o mem => ?_, v.released_other (other i)]
    rw [Sns.released_slots] at mem
    split at mem
    · cases mem
    · exact other j o mem

/-- A channel that one slot names and no other does. -/
theorem Sns.foldl_released_named {ch : ChannelIx} {i : SlotIx} {o : Override} (named : o.channel = ch) (is : List SlotIx) :
    ∀ v : Sns, i ∈ is → o ∈ v.slots[i] → (∀ j : SlotIx, ∀ p ∈ v.slots[j], p.channel = ch → j = i) →
      (is.foldl (fun v i => v.released now i) v).channels[ch] = v.channels[ch].releasedFrom now o.value := by
  induction is with
  | nil => exact fun _ mem => nomatch mem
  | cons k is ih =>
    intro v mem holds only
    rw [List.foldl_cons]
    by_cases here : k = i
    · subst here
      rw [Sns.foldl_released_other is _ fun j p mem' same => ?_]
      · unfold Sns.released
        rw [show v.slots[k] = some o from holds]
        subst named
        exact (getElem_set_ite _ _ _ _).trans (if_pos rfl)
      · rw [Sns.released_slots] at mem'
        split at mem'
        · cases mem'
        · next other => exact other (only j p mem' same).symm
    · have later : i ∈ is := (List.mem_cons.mp mem).resolve_left fun same => here same.symm
      rw [ih (v.released now k) later ?_ ?_, v.released_other fun p mem' same => here (only k p mem' same)]
      · rw [Sns.released_slots, if_neg here]
        exact holds
      · intro j p mem' same
        rw [Sns.released_slots] at mem'
        split at mem'
        · cases mem'
        · exact only j p mem' same

end Sensors

end Sys2Proof.Machine

/-! ### O19: the link reset -/

namespace Sys2Proof.Machine

section Records

variable {s : State} {now : Time}

/-! #### SNS (R23) -/

/-- The channels of SNS, with their settings at their defaults unless they are retained. -/
def Sns.reset (v : Sns) (retain : Bool) : Sns := if retain then v else v.defaulted

theorem Sns.reset_slots (v : Sns) (retain : Bool) : (v.reset retain).slots = v.slots := by
  cases retain <;> rfl

theorem Sns.reset_channel (v : Sns) (retain : Bool) (ch : ChannelIx) :
    (v.reset retain).channels[ch] =
      { v.channels[ch] with
        settings := if retain then v.channels[ch].settings else channelDefaults ch
        value :=
          if retain = false ∧ v.channels[ch].state = .failed then
            (if retain then v.channels[ch].settings else channelDefaults ch).failsafe
          else v.channels[ch].value } := by
  cases retain with
  | true => simp [Sns.reset]
  | false =>
    refine (settledChannels_getElem (List.nodup_finRange 15) _ _).trans ((if_pos (List.mem_finRange ch)).trans ?_)
    generalize v.channels[ch] = c
    unfold Channel.settle
    by_cases failed : c.state = .failed <;> simp [failed]

/-- The reports of the channels that their default failsafe values change. -/
def Sns.resetNews (v : Sns) (retain : Bool) : List Instr :=
  (List.finRange 15).flatMap fun ch => if retain then [] else v.defaultNews ch

/-- R23: SNS's link reset. -/
theorem State.snsLinkReset_eq (s : State) :
    s.snsLinkReset =
      { s with
        sns := allSlots.foldl (fun v i => v.released s.now i) (s.sns.reset s.part.retain)
        handed := s.handed ++ (s.sns.resetNews s.part.retain ++ allSlots.flatMap s.sns.releaseNews) } := by
  unfold State.snsLinkReset Sns.resetNews Sns.reset
  cases s.part.retain with
  | true =>
    simp only [if_true]
    rw [State.foldl_releaseSlot (is := allSlots) (List.nodup_finRange 4)]
    simp
  | false =>
    simp only [Bool.false_eq_true, if_false]
    rw [State.foldl_settleChannel (chs := allChannels) (List.nodup_finRange 15),
      State.foldl_releaseSlot (is := allSlots) (List.nodup_finRange 4)]
    simp only [List.append_assoc]
    rfl

/-! #### ASR (R41) -/

/-- The assessors with their settings at their defaults. -/
def settledAssessors (v : Vector Assessor 3) : Vector Assessor 3 :=
  allAssessors.foldl (fun u (a : AssessorIx) => u.set a (u[a].settle (assessorDefaults a))) v

theorem State.foldl_putAssessor (l : List AssessorIx) :
    ∀ s : State, l.foldl (fun t a => t.putAssessor a (t.asr[a].settle (assessorDefaults a))) s =
      { s with asr := l.foldl (fun u (a : AssessorIx) => u.set a (u[a].settle (assessorDefaults a))) s.asr } := by
  induction l with
  | nil => exact fun _ => rfl
  | cons a l ih => exact fun s => ih _

theorem State.asrLinkReset_eq (s : State) :
    s.asrLinkReset = { s with asr := if s.part.retain then s.asr else settledAssessors s.asr } := by
  unfold State.asrLinkReset
  cases s.part.retain with
  | true => rfl
  | false => exact State.foldl_putAssessor allAssessors s

theorem settledAssessors_getElem (v : Vector Assessor 3) (i : AssessorIx) :
    (settledAssessors v)[i] =
      if (assessorDefaults i).ceiling < v[i].b then
        { v[i] with
          settings := assessorDefaults i, b := (assessorDefaults i).ceiling, s := v[i].f - (assessorDefaults i).ceiling }
      else { v[i] with settings := assessorDefaults i } :=
  (foldl_set_getElem (fun (a : AssessorIx) (r : Assessor) => r.settle (assessorDefaults a)) (List.nodup_finRange 3) v
    i).trans (if_pos (List.mem_finRange i))

/-! #### ATN (R177) -/

/-- R177: RESTART alone is pending. -/
theorem Atn.linkReset_source (a : Atn) (retain : Bool) (i : SourceIx) :
    ((a.linkCleared retain).raise asRestart 768).sources[i] =
      { level := if retain then a.sources[i].level else levelDefault i, pending := decide (i = asRestart)
        count := if i = asRestart then 1 else 0, detail := if i = asRestart then 768 else a.sources[i].detail } := by
  have bound := i.isLt
  have cleared : (a.linkCleared retain).sources[i] =
      { a.sources[i].clear with level := if retain then a.sources[i].level else levelDefault i } := tableOf_getElem ..
  rw [Atn.raise_source, cleared]
  by_cases restart : i = asRestart
  · simp [restart, Source.raise, Source.clear]
  · simp [restart, Ne.symm restart, Source.clear]

theorem Atn.linkReset_attn (a : Atn) (retain : Bool) :
    ((a.linkCleared retain).raise asRestart 768).attn =
      decide (1 ≤ ((a.linkCleared retain).raise asRestart 768).sources[asRestart].level) := by
  have each (i : SourceIx) : ((a.linkCleared retain).raise asRestart 768).sources[i].pending = decide (i = asRestart) :=
    congrArg Source.pending (a.linkReset_source retain i)
  have line : ((a.linkCleared retain).raise asRestart 768).attn = true ↔
      ∃ i : SourceIx, ((a.linkCleared retain).raise asRestart 768).sources[i].pending = true ∧
        1 ≤ ((a.linkCleared retain).raise asRestart 768).sources[i].level := Atn.judge_attn _
  rw [Bool.eq_iff_iff, line, decide_eq_true_iff]
  simp only [each, decide_eq_true_eq, exists_eq_left]

/-! #### The blocks -/

/-- The zones after a link reset. -/
def Zon.reset (v : Zon) (retain : Bool) : Zon :=
  let left : Zon := { v with zones := tableMap Zone.leave v.zones, orderedDefrost := none, out := zonOutputsZero }
  if retain then left
  else
    { left with
      zones := tableMap (fun z => { z with enabled := false, setpoint := setpointDefault }) left.zones
      tuning := tuningDefaults, defrost := false }

/-- The movers after a link reset. -/
def Mov.reset (v : Mov) (retain : Bool) : Mov :=
  let left : Mov := { v with
    movers := tableMap Mover.leave v.movers, loop := v.loop.leave, picture := pictureNone, front := 0, rear := 0 }
  if retain then left
  else
    { left with
      movers := tableMap (fun (r : Mover) => { r with settings := moverDefaults }) left.movers, pressure := pressureDefaults }

theorem State.admLinkReset_eq (s : State) :
    s.admLinkReset = { s with
      adm := { s.adm.leave with settings := if s.part.retain then s.adm.settings else admDefaults }
      atn := { s.atn with fault := false }, handed := s.handed ++ s.adm.farewell } := by
  unfold State.admLinkReset
  rw [State.admLeaveRun_eq]
  cases s.part.retain <;> rfl

theorem State.zonLinkReset_eq (s : State) :
    s.zonLinkReset =
      { s with zon := s.zon.reset s.part.retain, handed := s.handed ++ outputEvents s.zon.out zonOutputsZero } := by
  unfold State.zonLinkReset State.zonLeaveRun Zon.reset
  rw [State.setOutputs_eq]
  cases s.part.retain <;> rfl

theorem State.movLinkReset_eq (s : State) : s.movLinkReset = { s with mov := s.mov.reset s.part.retain } := by
  unfold State.movLinkReset Mov.reset
  cases s.part.retain <;> rfl

theorem State.heuLinkReset_eq (s : State) :
    s.heuLinkReset = { s with
      heu := ({ s.heu with settings := if s.part.retain then s.heu.settings else heatDefaults } : Heu).leave s.now } := by
  unfold State.heuLinkReset
  cases s.part.retain <;> rfl

/-- What a block hands at a link reset. -/
def State.resettingNews (s : State) (b : Block) : List Instr :=
  match b with
  | .sns => s.sns.resetNews s.part.retain ++ allSlots.flatMap s.sns.releaseNews
  | .adm => s.adm.farewell
  | .zon => outputEvents s.zon.out zonOutputsZero
  | .ddr => (s.work.linkReset s.part.retain).news
  | .asr | .mov | .heu | .atn => []

/-- The records of every block after a link reset. -/
def State.relinked (s : State) : State :=
  { s with
    sns := allSlots.foldl (fun v i => v.released s.now i) (s.sns.reset s.part.retain)
    asr := if s.part.retain then s.asr else settledAssessors s.asr
    atn := (s.atn.linkCleared s.part.retain).raise asRestart 768
    adm := { s.adm.leave with settings := if s.part.retain then s.adm.settings else admDefaults }
    zon := s.zon.reset s.part.retain
    ddr := (s.work.linkReset s.part.retain).ddr
    mov := s.mov.reset s.part.retain
    heu := ({ s.heu with settings := if s.part.retain then s.heu.settings else heatDefaults } : Heu).leave s.now }

/-- R180: a block's link reset is the same whatever the others have done. -/
theorem State.resetBlock_blend (b : Block) (done : List Block) (h : List Instr) (fresh : b ∉ done) :
    (s.blend s.relinked done h).resetBlock b = s.blend s.relinked (b :: done) (h ++ s.resettingNews b) := by
  have other (c : Block) : c ∈ b :: done ↔ c = b ∨ c ∈ done := List.mem_cons
  cases b with
  | sns =>
    show (s.blend s.relinked done h).snsLinkReset = _
    rw [State.snsLinkReset_eq]
    simp only [State.blend, State.relinked, State.resettingNews, fresh, other, reduceCtorEq, false_or, true_or, if_true,
      if_false, List.append_assoc]
  | asr =>
    show (s.blend s.relinked done h).asrLinkReset = _
    rw [State.asrLinkReset_eq]
    simp only [State.blend, State.relinked, State.resettingNews, fresh, other, reduceCtorEq, false_or, true_or, if_true,
      if_false, List.append_nil]
  | adm =>
    show (s.blend s.relinked done h).admLinkReset = _
    rw [State.admLinkReset_eq]
    simp only [State.blend, State.relinked, State.resettingNews, fresh, other, reduceCtorEq, false_or, true_or, if_true,
      if_false, List.append_assoc]
  | zon =>
    show (s.blend s.relinked done h).zonLinkReset = _
    rw [State.zonLinkReset_eq]
    simp only [State.blend, State.relinked, State.resettingNews, fresh, other, reduceCtorEq, false_or, true_or, if_true,
      if_false, List.append_assoc]
  | ddr =>
    have work : (s.blend s.relinked done h).work = s.work := State.work_congr (if_neg fresh) rfl rfl
    show ((s.blend s.relinked done h).drive fun w => w.linkReset s.part.retain) = _
    rw [State.drive_linkReset, work]
    simp only [State.blend, State.relinked, State.resettingNews, other, reduceCtorEq, false_or, true_or, if_true,
      List.append_assoc]
  | mov =>
    show (s.blend s.relinked done h).movLinkReset = _
    rw [State.movLinkReset_eq]
    simp only [State.blend, State.relinked, State.resettingNews, fresh, other, reduceCtorEq, false_or, true_or, if_true,
      if_false, List.append_nil]
  | heu =>
    show (s.blend s.relinked done h).heuLinkReset = _
    rw [State.heuLinkReset_eq]
    simp only [State.blend, State.relinked, State.resettingNews, fresh, other, reduceCtorEq, false_or, true_or, if_true,
      if_false, List.append_nil]
  | atn =>
    show (s.blend s.relinked done h).atnLinkReset = _
    simp only [State.atnLinkReset, State.blend, State.relinked, State.resettingNews, fresh, other, reduceCtorEq, false_or,
      true_or, if_true, if_false, List.append_nil]
    rfl

/-- What R180 hands once every block has completed its reset. -/
def Link.heldNews (l : Link) : List Instr := if l.held.isSome = true then [.heldFrameTaken] else []

/-- R180: every block's link reset, in whatever order they take it. -/
theorem State.linkReset_eq (s : State) (complete : s.BlocksComplete) :
    let v : State := { s with part := { s.part with state := .config, cause := .linkReset } }
    ∃ news, s.linkReset =
        { v.relinked with
          link := { s.link with busy := false, resetDue := false, resetting := false }
          atn := { v.relinked.atn with fault := false }, handed := s.handed ++ (news ++ s.link.heldNews) } ∧
      news.Perm (blockOrderReset.flatMap v.resettingNews) := by
  intro v
  obtain ⟨run, perm⟩ := State.foldl_complete (s := v) (g := v.relinked) State.resetBlock_blend complete
  refine ⟨_, ?_, perm⟩
  show (v.blockOrder.foldl State.resetBlock v).linkAfterLinkReset = _
  rw [run]
  unfold State.linkAfterLinkReset Link.heldNews
  by_cases held : s.link.held.isSome = true
  · rw [if_pos held, if_pos held, ← List.append_assoc]
    rfl
  · rw [if_neg held, if_neg held, List.append_nil]
    rfl

end Records

end Sys2Proof.Machine

/-! ### O19: what the link reset leaves -/

namespace Sys2Proof.Machine

section Records

variable {s : State}

/-- R85: what a link reset leaves of a zone. -/
theorem Zon.reset_zone (v : Zon) (retain : Bool) (z : ZoneIx) :
    (v.reset retain).zones[z] = { v.zones[z].rested with
      enabled := retain && v.zones[z].enabled, setpoint := if retain then v.zones[z].setpoint else 210 } := by
  have bound := z.isLt
  have left : (tableMap Zone.leave v.zones)[z] = v.zones[z].rested := tableMap_getElem ..
  cases retain with
  | true => exact left.trans (by simp [Zone.rested])
  | false =>
    have all : (v.reset false).zones[z] =
        { (tableMap Zone.leave v.zones)[z] with enabled := false, setpoint := setpointDefault } := tableMap_getElem ..
    rw [all, left]
    rfl

theorem Zon.reset_eq (v : Zon) (retain : Bool) :
    v.reset retain = { v with
      zones := (v.reset retain).zones, tuning := if retain then v.tuning else tuningDefaults, defrost := retain && v.defrost
      orderedDefrost := none, out := ⟨0, false, 0, 0, 0⟩ } := by
  cases retain <;> rfl

/-- R140: what a link reset leaves of a mover. -/
theorem Mov.reset_mover (v : Mov) (retain : Bool) (m : MoverIx) :
    (v.reset retain).movers[m] =
      { v.movers[m].rested with settings := if retain then v.movers[m].settings else moverDefaults } := by
  have bound := m.isLt
  have left : (tableMap Mover.leave v.movers)[m] = v.movers[m].rested := (tableMap_getElem ..).trans (Mover.leave_eq _)
  cases retain with
  | true =>
    have stands : v.movers[m].rested.settings = v.movers[m].settings := by
      unfold Mover.rested
      split <;> rfl
    exact left.trans (by rw [if_pos rfl, ← stands])
  | false =>
    have all : (v.reset false).movers[m] = { (tableMap Mover.leave v.movers)[m] with settings := moverDefaults } :=
      tableMap_getElem ..
    rw [all, left]
    rfl

theorem Mov.reset_eq (v : Mov) (retain : Bool) :
    v.reset retain = { v with
      movers := (v.reset retain).movers, loop := v.loop.rested, picture := ⟨.inactive, false, none⟩, front := 0, rear := 0
      pressure := if retain then v.pressure else pressureDefaults } := by
  cases retain <;> rfl

/-- The attention records with FAULT negated, by the ATTN line. -/
theorem Atn.eq_of_attn {a : Atn} {line : Bool} (attn : a.attn = line) :
    ({ a with fault := false } : Atn) = { sources := a.sources, attn := line, fault := false } := by
  rw [← attn]

/-- R41: what a link reset leaves of an assessor. -/
theorem assessor_relinked (v : Vector Assessor 3) (retain : Bool) (i : AssessorIx) :
    (if retain then v else settledAssessors v)[i] =
      if retain then v[i]
      else if (assessorDefaults i).ceiling < v[i].b then
        { v[i] with
          settings := assessorDefaults i, b := (assessorDefaults i).ceiling, s := v[i].f - (assessorDefaults i).ceiling }
      else { v[i] with settings := assessorDefaults i } := by
  cases retain with
  | true => rfl
  | false => exact settledAssessors_getElem v i

/-- A state by five of its records. -/
theorem State.eq_records {v : State} {a : Atn} {z : Zon} {r : Ddr} {m : Mov} {h : Heu} (atn : v.atn = a) (zon : v.zon = z)
    (ddr : v.ddr = r) (mov : v.mov = m) (heu : v.heu = h) :
    v = { v with atn := a, zon := z, ddr := r, mov := m, heu := h } := by
  rw [← atn, ← zon, ← ddr, ← mov, ← heu]

/-- R23: a channel that no override names. -/
theorem Sns.relinked_other (v : Sns) (retain : Bool) (now : Time) {ch : ChannelIx}
    (other : ∀ i : SlotIx, ∀ o ∈ v.slots[i], o.channel ≠ ch) :
    (allSlots.foldl (fun v i => v.released now i) (v.reset retain)).channels[ch] =
      { v.channels[ch] with
        settings := if retain then v.channels[ch].settings else channelDefaults ch
        value :=
          if retain = false ∧ v.channels[ch].state = .failed then
            (if retain then v.channels[ch].settings else channelDefaults ch).failsafe
          else v.channels[ch].value } := by
  rw [Sns.foldl_released_other _ _ (by rwa [Sns.reset_slots]), Sns.reset_channel]

/-- R23: a channel that one override names. -/
theorem Sns.relinked_named (v : Sns) (retain : Bool) (now : Time) {ch : ChannelIx} {i : SlotIx} {o : Override}
    (holds : o ∈ v.slots[i]) (named : o.channel = ch) (only : ∀ j : SlotIx, ∀ p ∈ v.slots[j], p.channel = ch → j = i) :
    (allSlots.foldl (fun v i => v.released now i) (v.reset retain)).channels[ch] =
      { v.channels[ch] with
        settings := if retain then v.channels[ch].settings else channelDefaults ch
        state := .held, value := o.value, lastGood := some o.value, slot := none
        hold := some (now + 1000 * (if retain then v.channels[ch].settings else channelDefaults ch).hold) } := by
  have slots : (v.reset retain).slots = v.slots := Sns.reset_slots v retain
  rw [Sns.foldl_released_named named allSlots (v.reset retain) (List.mem_finRange i) (by rwa [slots]) (by rwa [slots]),
    Sns.reset_channel, Channel.releasedFrom, Nat.mul_comm]

/-- R23, R41: the reports of the failsafe values that the defaults change. -/
theorem Sns.resetNews_eq (v : Sns) (retain : Bool) :
    v.resetNews retain = (List.finRange 15).flatMap fun ch =>
      if retain = false ∧ v.channels[ch].state = .failed ∧ v.channels[ch].settings.failsafe ≠ (channelDefaults ch).failsafe
      then (reportEvent ch .failed (channelDefaults ch).failsafe).toList else [] := by
  cases retain with
  | true => simp [Sns.resetNews]
  | false => simp [Sns.resetNews, Sns.defaultNews]

/-- What the blocks hand at a link reset. -/
theorem State.resettingNews_perm (s t : State) (ddr : t.ddr = (s.work.linkReset s.part.retain).ddr) :
    (blockOrderReset.flatMap s.resettingNews).Perm
      (s.sns.resetNews s.part.retain ++ allSlots.flatMap s.sns.releaseNews ++ s.restNews t) := by
  obtain ⟨-, -, -, -, moved⟩ := Work.linkReset_left (w := s.work) s.part.retain rfl
  have told : (s.work.linkReset s.part.retain).news.Perm (s.ddr.farewell t.ddr) := ddr ▸ Work.news_perm moved
  have order : blockOrderReset.flatMap s.resettingNews =
      (s.sns.resetNews s.part.retain ++ allSlots.flatMap s.sns.releaseNews) ++
        ((s.adm.farewell ++ outputEvents s.zon.out zonOutputsZero) ++ (s.work.linkReset s.part.retain).news) := by
    simp [blockOrderReset, State.resettingNews]
  rw [order]
  refine ((told.append_left _).trans (.of_eq ?_)).append_left _
  rw [outputEvents_eq, Ddr.farewell, ← List.append_assoc]
  rfl

/-- R180: LINK_RESET_EFFECT once the reply has gone out. -/
theorem exec_linkResetEffect (outside : s.part.state ≠ .init) (resetting : s.link.resetting = true) :
    exec .linkResetEffect s = .next (s.strike .linkResetEffect).linkReset := by
  show execLinkResetEffect s = _
  rw [execLinkResetEffect, State.take_next _ _ _ outside]
  exact congrArg Host.Outcome.next (if_pos resetting)

/-- R180: LINK_RESET is answered, and the reset is due after the reply. -/
theorem exec_linkReset (outside : s.part.state ≠ .init) :
    exec .linkReset s = .next { s with
      handed := s.handed.erase .linkReset
      link := { s.link with resetDue := true, busy := true, reply := some ⟨0x82#8, [0#8]⟩ } } := by
  show execLinkReset s = _
  rw [execLinkReset, State.take_next _ _ _ outside, State.status_eq]
  rfl

/-- R181: RETAIN, by its flag. -/
theorem exec_retain (flag : Byte) (outside : s.part.state ≠ .init) :
    exec (.retain flag) s = .next
      (if flag.toNat ≤ 1 then
        { s.replied (.retain flag) 0x83#8 [0#8] with part := { s.part with retain := decide (flag = 1#8) } }
      else s.replied (.retain flag) 0x83#8 [19#8]) := by
  show execRetain flag s = _
  rw [execRetain, State.take_next _ _ _ outside, flagOf_eq]
  by_cases low : flag.toNat ≤ 1
  · rw [if_pos low, if_pos low]
    exact congrArg Host.Outcome.next (State.status_eq _ _ _)
  · rw [if_neg low, if_neg low]
    exact congrArg Host.Outcome.next (State.strike_status _ _ _ _)

end Records

end Sys2Proof.Machine

namespace Sys2Proof
open Sys2Proof.Machine

/-- Settles O19: each block's link reset is the same whatever the others have done (`State.resetBlock_blend`), so the order of
the blocks shows in the order of what they hand alone. -/
theorem linkReset : Obligations.LinkReset := by
  intro flag s outside asked retain r
  refine ⟨exec_linkReset outside, fun low => ?_, fun high => ?_, fun resetting complete => ?_⟩
  · exact (exec_retain flag outside).trans (congrArg Host.Outcome.next (if_pos low))
  · exact (exec_retain flag outside).trans (congrArg Host.Outcome.next (if_neg (Nat.not_le.mpr high)))
  · let v : State := { s.strike .linkResetEffect with part := { s.part with state := .config, cause := .linkReset } }
    obtain ⟨news, reset, perm⟩ := State.linkReset_eq (s.strike .linkResetEffect) complete
    have run := exec_linkResetEffect outside resetting
    rw [reset] at run
    obtain ⟨-, ⟨queue, seq⟩, dampers, lanes, -⟩ := Work.linkReset_left (w := v.work) r rfl
    refine ⟨_, run, ?_, fun i => ?_, fun ch => ⟨fun other => ?_, fun i o holds named only => ?_⟩, fun i => ?_, fun i => ?_,
      fun z => ?_, dampers, lanes, fun m => ?_, ?_, fun held => ?_⟩
    · exact State.eq_records (Atn.eq_of_attn (Atn.linkReset_attn s.atn r)) (Zon.reset_eq s.zon r)
        (Ddr.eq_of_empty queue seq) (Mov.reset_eq s.mov r) (Heu.leave_eq _ s.now)
    · exact (Sns.foldl_released_slots allSlots _ i).trans (if_pos (List.mem_finRange i))
    · exact Sns.relinked_other s.sns r s.now other
    · exact Sns.relinked_named s.sns r s.now holds named only
    · exact assessor_relinked s.asr r i
    · exact Atn.linkReset_source s.atn r i
    · exact Zon.reset_zone s.zon r z
    · exact Mov.reset_mover s.mov r m
    · have told := perm.trans (State.resettingNews_perm v v.relinked rfl)
      rw [Sns.resetNews_eq] at told
      exact (((told.append_right _).append_left _).trans (.of_eq (by simp only [List.append_assoc]; rfl)))
    · have frame : s.link.heldNews = [.heldFrameTaken] := if_pos held
      show (s.handed.erase .linkResetEffect ++ (news ++ s.link.heldNews)).getLast? = _
      rw [frame, ← List.append_assoc, List.getLast?_concat]

end Sys2Proof

/-! ### O17: SET_STATE RUN with an order queued for a JAMMED damper

What the statement says of SEAL_IMPAIRED reads DMP0's state before the entry and has no premise that the drive law holds.
Without it an order may wait in the queue for a JAMMED damper. Where DDR enters RUN before ADM, its grant takes that order,
and ADM judges a damper that is JAMMED no more. -/

namespace Sys2Proof.Machine

/-- In CONFIG, DDR first among the blocks: DMP0 is JAMMED, L0 FREE, and a HOME order of DMP0 waits. -/
def State.jammedInQueue : State :=
  { State.reset with
    part := { State.reset.part with state := .config }
    blockOrder := [.ddr, .sns, .asr, .adm, .zon, .mov, .heu, .atn]
    ddr :=
      { dampers := ddrReset.dampers.set (0 : DamperIx) { ddrReset.dampers[(0 : DamperIx)] with state := .jammed }
        lanes := ddrReset.lanes.set (0 : LaneIx) { ddrReset.lanes[(0 : LaneIx)] with state := .free }
        queue := [⟨0, .home none, .safety, .adm, 0⟩], seq := 1 } }

theorem State.jammedInQueue_complete : State.jammedInQueue.BlocksComplete := by
  unfold State.BlocksComplete
  decide

/-- DDR's grant has made DMP0 HOMING where ADM judges it. -/
theorem State.jammedInQueue_enterRun : State.jammedInQueue.enterRun.adm.sealImpaired = false := by decide +kernel

/-- SET_STATE RUN in CONFIG, with DMP0 and a lane present. -/
theorem exec_setState_run {s : State} (config : s.part.state = .config) (complete : s.incomplete = false) :
    exec (.setState 1#8) s = .next ((s.strike (.setState 1#8)).enterRun.acknowledged 0x81#8 0#8) := by
  show execSetState 1#8 s = _
  rw [execSetState, State.take_next _ _ _ (by rw [config]; decide)]
  have other : ¬ PartState.run = s.part.state := by rw [config]; decide
  refine congrArg Host.Outcome.next ((if_neg other).trans ((if_pos rfl).trans ?_))
  exact (if_neg (Bool.eq_false_iff.mp complete)).trans (State.status_eq _ _ _)

end Sys2Proof.Machine

namespace Sys2Proof
open Sys2Proof.Machine

/-- Refutes O17: at `State.jammedInQueue` DMP0 is JAMMED before the entry, and SEAL_IMPAIRED is not active after it. -/
theorem not_enteringRun : ¬ Obligations.EnteringRun := by
  intro holds
  obtain ⟨-, -, config⟩ := holds 1#8 State.jammedInQueue State.jammedInQueue_complete (by decide)
  obtain ⟨-, -, enters⟩ := config rfl
  obtain ⟨t, run, -, -, -, -, -, -, -, -, -, -, -, -, -, -, -, -, -, -, -, -, -, -, jammed, -⟩ :=
    enters (by decide) (.inl (by decide))
  rw [exec_setState_run rfl (by decide)] at run
  have entered : t = (State.jammedInQueue.strike (.setState 1#8)).enterRun.acknowledged 0x81#8 0#8 :=
    (Host.Outcome.next.inj run).symm
  have impaired : t.adm.sealImpaired = true := jammed (.inl rfl)
  have unimpaired : t.adm.sealImpaired = false := by
    rw [entered]
    exact State.jammedInQueue_enterRun
  exact Bool.false_ne_true (unimpaired.symm.trans impaired)

end Sys2Proof

end Proofs
